-- ==== Sys2Proof/Word.lean ====
section
/-! DEFINITION. The plainest words of the model: bytes, byte strings and sparse tables. -/

namespace Sys2Proof

/-- One octet. -/
abbrev Byte := BitVec 8

/-- A string of octets, lowest address first. -/
abbrev Bytes := List Byte

/-- A sparse table: (key, value) pairs, keys strictly rising. -/
abbrev Tab (α : Type) := List (Nat × α)

/-- A crossbar port: 2n and 2n+1 for link n and its halves, 48 the internal port (R43). -/
abbrev Port := Fin 49

/-- An optical link (R21). -/
abbrev Link := Fin 24

/-- A partition (R84). -/
abbrev Part := Fin 64

/-- A board context (R165). -/
abbrev Ctx := Fin 32

/-- A PCIe function: 0 the PF, p + 1 the VF of partition p (R351). -/
abbrev Fn := Fin 65

/-- A quarter die (R22). -/
abbrev Quarter := Fin 4

/-- An end-point ID. -/
abbrev EpId := BitVec 14

end Sys2Proof
end

