-- ==== Sys2Proof/Types.lean ====
section
/-! DEFINITION. The data that commands carry: grains, control-lane tokens, routes to the dictionary, and the
operand records of the commands. -/

namespace Sys2Proof

/-- A grain in the clear: the common header of Table 3.2, the class field [111:0] and the payload (R82, R83). -/
structure Grain where
  check : BitVec 32 := 0
  vc : BitVec 3 := 0
  op : BitVec 4 := 0
  part : BitVec 6 := 0
  src : EpId := 0
  birth : BitVec 6 := 0
  tag : BitVec 15 := 0
  body : BitVec 112 := 0
  payload : BitVec 2048 := 0
  deriving DecidableEq, Repr, Inhabited

/-- One end of a link: a link of the device, or a side of an accelerator's end-point. -/
inductive LinkEnd where
  | link (l : Link)
  | side (k : Fin 2)
  deriving DecidableEq, Repr, Inhabited

/-- A lane C token as it is received: its 8b/10b code groups, bit a of each the lowest (R297, R298). -/
structure RawToken where
  groups : List (BitVec 10) := []
  deriving DecidableEq, Repr, Inhabited

/-- A link exchange message as it is received: the K27.7 fragments that carry it (R307). -/
structure Exch where
  frags : List RawToken := []
  deriving DecidableEq, Repr, Inhabited

/-- A fence that an engine issues, with its context (R208, R209). -/
structure FenceReq where
  id : Nat
  pasid : BitVec 20 := 0
  deriving DecidableEq, Repr, Inhabited

/-- What LOCK finds: the units that each active lane has received, in ascending lane number (R293), and whether the peer's
frequency lies within 2 ppm (R296). -/
structure LockFound where
  units : List (List (BitVec 300))
  freqOk : Bool
  deriving DecidableEq, Repr, Inhabited

/-- What a receiver counts on its data lanes: errors per lane, bits compared per lane, and the margins (R321, R322). -/
structure LaneCounts where
  errors : List Nat := []
  bits : Nat := 0
  left : BitVec 64 := 0
  right : BitVec 64 := 0
  deriving DecidableEq, Repr, Inhabited

/-- Which route a dictionary access takes, with what the checks of R378 and R379 ask of it. -/
inductive Route where
  /-- BAR2 of the PF, or the admin ring. -/
  | pf
  /-- BAR2 of VF p + 1, or ring p + 1. -/
  | vf (p : Part)
  /-- A management-port request without authentication (R393). -/
  | mgmtOpen
  /-- A management-port request whose tag has verified (R392). -/
  | mgmtAuth
  /-- A VC6 request of a partition, from an end-point. -/
  | vc6 (p : Part) (ep : EpId)
  deriving DecidableEq, Repr, Inhabited

/-- A 300-bit unit of a data lane in which the receiver decided bits wrongly (R291): the lane's place among the active lanes,
where the unit's bit 0 stands in the coded bits that the lane carries of the frame, the wrong decisions, and the least reliable
bit of each check group, counted within the group. -/
structure UnitNoise where
  lane : Fin 8 := 0
  start : Int := 0
  wrong : BitVec 300 := 0
  weak : List (Fin 75) := []
  deriving DecidableEq, Repr, Inhabited

/-- A grain position as the receive side of a link delivers it to an ingress gate (R104). -/
structure IngressLine where
  grain : Grain
  /-- The hop tag received with it (R82). -/
  tag : BitVec 64 := 0
  /-- Which of its frame's five positions it is (R292), and what the line did to that frame. -/
  pos : Fin 5 := 0
  noise : List UnitNoise := []
  /-- Grain offset, in the sender's frame, at which the peer sent it (R55). -/
  offset : Nat := 0
  /-- Grain times by which the peer pushed it past its claim (R73). -/
  late : Nat := 0
  deriving DecidableEq, Repr, Inhabited

/-- What the checker has: a maintenance grain as the line delivers it and, in MARGIN, what it counts of the lanes' pattern
(R321, R522). -/
structure CheckerIn where
  line : IngressLine
  counts : LaneCounts := {}
  deriving DecidableEq, Repr, Inhabited

/-- The two end-points the model holds in full: the device's own (R21), and an accelerator's (07). -/
inductive EpSel where
  | internal
  | faette
  deriving DecidableEq, Repr, Inhabited

/-- How a grain comes in at one of the two: from the crossbar, or on a link of the accelerator's end-point. -/
inductive Arrival where
  | internal
  | link (k : Fin 2)
  deriving DecidableEq, Repr, Inhabited

/-- The end-point at which it comes in. -/
def Arrival.ep : Arrival → EpSel
  | .internal => .internal
  | .link _ => .faette

/-- The other link of an accelerator's end-point. -/
def Arrival.other : Arrival → Arrival
  | .internal => .internal
  | .link k => .link (1 - k)

/-- A whole VC6 message: its fragments joined (R92, R568). -/
structure Msg where
  src : EpId := 0
  part : BitVec 6 := 0
  /-- TAG of the LAST fragment. -/
  tag : BitVec 15 := 0
  target : BitVec 3 := 0
  kind : BitVec 8 := 0
  payload : Bytes := []
  deriving DecidableEq, Repr, Inhabited

/-- Where a control token came in: on a link's port, or from the end-point's side. -/
inductive TokenFrom where
  | port (p : Port)
  | faette (side : Fin 2)
  deriving DecidableEq, Repr, Inhabited

/-- What an engine, the host window or a ring command asks of the fabric (R242). -/
structure EngReq where
  id : Nat := 0
  /-- 0 load, 1 volatile load, 2 store, 3 atomic, 4 put, 5 get, 6 and 7 ring copies to and from the tray, 8, 9 and 10
  host-window read, write and AtomicOp. -/
  kind : Nat := 0
  pasid : Option Nat := none
  /-- Virtual address, or region offset where pasid is none or the request names its target. -/
  addr : Nat := 0
  len : Nat := 0
  dst : Nat := 0
  handle : Nat := 0
  key : Nat := 0
  part : Nat := 0
  ctx : Nat := 0
  data : Bytes := []
  atomicOp : Nat := 0
  /-- COMMAND_ID of a ring copy; 65,536 once its ring has been reset. -/
  cmd : Nat := 0
  /-- VC4 instead of VC0 for a write in owned grain times. -/
  bulk : Bool := false
  deriving DecidableEq, Repr, Inhabited

/-- What software gives a member's end-point with an instance (R254): the descriptor, the member index, the elements to
send and the destination region of its roster entry; with the number of members (log 45), and whether it is mirrored
(R495). -/
structure Submit where
  desc : BitVec 1024 := 0
  member : Nat := 0
  members : Nat := 1
  handle : Nat := 0
  data : Bytes := []
  mirrored : Bool := false
  deriving DecidableEq, Repr, Inhabited

/-- One page of an ATS Translation Completion: its virtual address, size, translated address and rights (R238). -/
structure AtsPage where
  va : Nat := 0
  sizeLog : Nat := 12
  tray : BitVec 64 := 0
  r : Bool := false
  w : Bool := false
  deriving DecidableEq, Repr, Inhabited

/-- A heartbeat of the partner: a pair-state grain, or a VC6 message of KIND 0x60 (R503). -/
inductive Beat where
  | grain (g : Grain)
  | message (m : Msg)
  deriving DecidableEq, Repr, Inhabited

/-- What a health evaluation measures of a link: the nine power readings in 0.25 dBm, the worst lane's inner parity flips and
the bits that it received, and the uncorrectable codewords (Table 17.4). -/
structure LinkInputs where
  power : List Int := []
  flips : Nat := 0
  bits : Nat := 1
  uncorrectable : Nat := 0
  deriving DecidableEq, Repr, Inhabited

/-- What a health evaluation measures of a quarter: its least slack, and its least supply margin in mV. -/
structure QuarterInputs where
  slack : Nat := 0
  margin : Int := 0
  deriving DecidableEq, Repr, Inhabited

/-- What the memory reports of the chunks a grain addresses, counted from its first: those that turn out to be
uncorrectable, and those that were corrected (R335, R336). -/
structure MemEv where
  bad : List Nat := []
  corrected : List Nat := []
  /-- An open request presented at the same grain time on the end-point's other link, and its chunks (R201). -/
  twin : Option (Grain × List Nat × List Nat) := none
  deriving DecidableEq, Repr, Inhabited

/-- What a power sample measures: the readings of rails 0 to 6 in mV and 0.1 A, none where both frames failed; failed frames;
the VAON power and that of LINK, MEMORY, BOARD and OPEN in 0.1 mW; the 112 sensors in 1/16 °C (R452, R458, R469). -/
structure PowerInputs where
  rails : List (Option (Nat × Nat)) := []
  failed : Nat := 0
  vaon : Nat := 0
  classes : List Nat := []
  sensors : List Int := []
  deriving DecidableEq, Repr, Inhabited

/-- An Ethernet frame as the management port receives it: addresses, 802.1Q tag, size in octets, IP version and addresses
(an IPv6 address as its octets in order, lowest first), UDP ports, whether it needs something that the port does not support
(R386), the requests that already wait to be served (R387), and what it carries. -/
structure Frame where
  toMac : BitVec 48 := 0
  fromMac : BitVec 48 := 0
  vlan : Option (BitVec 12) := none
  size : Nat := 64
  v6 : Bool := false
  src : BitVec 128 := 0
  dst : BitVec 128 := 0
  srcPort : BitVec 16 := 0
  dstPort : BitVec 16 := 0
  odd : Bool := false
  ahead : Nat := 0
  data : Bytes := []
  deriving DecidableEq, Repr, Inhabited

/-- Who sends dictionary messages: an address and UDP port at the management port, or an end-point and partition on VC6 to the
device or to an end-point's agent (R389). -/
inductive Asker where
  | port (v6 : Bool) (ip : BitVec 128) (udp : BitVec 16)
  | fabric (w : EpSel) (ep : EpId) (part : BitVec 6)
  deriving DecidableEq, Repr, Inhabited

/-- How a dictionary message comes: in a datagram, or in management grains for the device or an end-point's agent. -/
inductive DictFrom where
  | port (f : Frame)
  | fabric (a : Arrival) (m : Msg)
  deriving DecidableEq, Repr, Inhabited

/-- What one step of a stepped operation covers: how many of its records, blocks or entries, and what the memory reports of
the chunks it reads. -/
structure StepEv where
  count : Nat := 0
  ev : MemEv := {}
  deriving DecidableEq, Repr, Inhabited

/-- What the boot ROM's probes find: the values of 1020:01 to 1020:08 (R4, Table 0.3). -/
structure Probe where
  board : Nat := 1
  stackBits : Nat := 0xF
  hbm : Nat := 144
  lpddr : Nat := 256
  lockstep : Nat := 1
  digest : Nat := 1
  links : Nat := 0x00FFFFFF
  sealed_ : Nat := 1
  deriving DecidableEq, Repr, Inhabited

end Sys2Proof
end

