-- ==== Sys2Proof/Syntax.lean ====
section
/-! DEFINITION. The commands that the block takes: one constructor for each row of the command table, in its order. -/

namespace Sys2Proof

/-- A command with its operands.  The name before the rule is the row of the command table. -/
inductive Instr where
  /-- RESET_RELEASE (R402). -/
  | resetRelease
  /-- RESET_ASSERT (R552). -/
  | resetAssert
  /-- POWER_LOSS (R551). -/
  | powerLoss
  /-- SELF_TEST_DONE (R403). -/
  | selfTestDone (failed : Fin 5) (found : Probe)
  /-- FIRMWARE_LOAD (R407). -/
  | firmwareLoad (r : Route) (v : Bytes)
  /-- IMAGE_VERIFY (R408). -/
  | imageVerify (dmaOk : Bool) (img : Bytes)
  /-- INIT_COMPLETE (R410). -/
  | initComplete (failed : Fin 6)
  /-- INIT_TIMEOUT (R410). -/
  | initTimeout
  /-- RESTART (R565). -/
  | restart (r : Route) (v : Bytes)
  /-- RESUME (R416). -/
  | resume (r : Route) (v : Bytes)
  /-- FAILED_COUNT_CLEAR (R416). -/
  | failedCountClear (r : Route) (v : Bytes)
  /-- WATCHDOG_EXPIRY (R418). -/
  | watchdogExpiry (k : Fin 6) (digestOk : Bool)
  /-- CORE_TRAP (R418). -/
  | coreTrap (k : Fin 6) (digestOk : Bool)
  /-- CORE_ACCESS_FAULT (R418). -/
  | coreAccessFault (k : Fin 6) (digestOk : Bool)
  /-- CORE_SRAM_ERROR (R418). -/
  | coreSramError (k : Fin 6) (digestOk : Bool)
  /-- CORE_READY (R419). -/
  | coreReady (k : Fin 6)
  /-- GATE_RELEASE (R14). -/
  | gateRelease (q : Quarter) (stage : Fin 6) (p : Port) (late : Nat) (slack : Fin 33)
  /-- HELD_MIN_RESET (R18). -/
  | heldMinReset (r : Route) (q : Quarter) (v : Bytes)
  /-- SLOT_BOUNDARY (R116). -/
  | slotBoundary
  /-- SPAN_BOUNDARY (R36). -/
  | spanBoundary
  /-- SPAN_COUNTER_READ (R36). -/
  | spanCounterRead (r : Route) (off : BitVec 14)
  /-- REFCLK_LOST (R30). -/
  | refclkLost (b : Bool)
  /-- REFCLK_BOTH_LOST (R31). -/
  | refclkBothLost
  /-- REFCLK_RESTORED (R31). -/
  | refclkRestored (b : Bool)
  /-- LASER_INPUT_LOST (R32). -/
  | laserInputLost (engine : Fin 25) (input : Fin 2)
  /-- ALIGN_START (R52). -/
  | alignStart (r : Route) (v : Bytes)
  /-- ALIGN_START_FOLLOWER (R53). -/
  | alignStartFollower (r : Route) (v : Bytes)
  /-- SPAN_MARKER (R53). -/
  | spanMarker (f : TokenFrom) (t : RawToken) (at_ : Nat) (offset : Int)
  /-- INGRESS_GRAIN (R104). -/
  | ingressGrain (p : Port) (l : IngressLine)
  /-- OPEN_GRAIN_HANDOFF (R47). -/
  | openGrainHandoff (p : Port) (offset : Nat)
  /-- OPEN_EGRESS_DEPARTURE (R286). -/
  | openEgressDeparture (p : Port) (offset : Nat)
  /-- RESEQ_RELEASE (R49). -/
  | reseqRelease (p inPort : Port) (vc : BitVec 3)
  /-- AGEING_SWEEP (R119). -/
  | ageingSweep
  /-- VC4_GROUP_APPLY (R203). -/
  | vc4GroupApply (w : EpSel)
  /-- LOAD (R196). -/
  | load (a : Arrival) (g : Grain) (ev : MemEv)
  /-- LOAD_VOLATILE (R207). -/
  | loadVolatile (a : Arrival) (g : Grain) (ev : MemEv)
  /-- STORE (R204). -/
  | store (a : Arrival) (g : Grain) (ev : MemEv)
  /-- STORE_MASKED (R88). -/
  | storeMasked (a : Arrival) (g : Grain) (ev : MemEv)
  /-- SEQ_RESET (R110). -/
  | seqReset (a : Arrival) (g : Grain)
  /-- ADD (R198). -/
  | add (a : Arrival) (g : Grain) (ev : MemEv)
  /-- MIN (R198). -/
  | min (a : Arrival) (g : Grain) (ev : MemEv)
  /-- MAX (R198). -/
  | max (a : Arrival) (g : Grain) (ev : MemEv)
  /-- AND (R198). -/
  | and (a : Arrival) (g : Grain) (ev : MemEv)
  /-- OR (R198). -/
  | or (a : Arrival) (g : Grain) (ev : MemEv)
  /-- XOR (R198). -/
  | xor (a : Arrival) (g : Grain) (ev : MemEv)
  /-- SWAP (R198). -/
  | swap (a : Arrival) (g : Grain) (ev : MemEv)
  /-- CAS (R198). -/
  | cas (a : Arrival) (g : Grain) (ev : MemEv)
  /-- FADD (R220). -/
  | fadd (a : Arrival) (g : Grain) (ev : MemEv)
  /-- LOAD_DATA (R246). -/
  | loadData (a : Arrival) (g : Grain)
  /-- COMPLETION (R106). -/
  | completion (a : Arrival) (g : Grain)
  /-- ERROR (R569). -/
  | error (a : Arrival) (g : Grain)
  /-- NACK (R109). -/
  | nack (f : TokenFrom) (t : RawToken) (lost : Bool)
  /-- RESEND_TIMEOUT_EXPIRY (R109). -/
  | resendTimeoutExpiry (w : EpSel) (dst : EpId) (vc : BitVec 3) (tag : BitVec 15)
  /-- REQUEST_BACKSTOP (R245). -/
  | requestBackstop (w : EpSel) (dst : EpId) (vc : BitVec 3) (tag : BitVec 15)
  /-- CONTRIB_FIRST (R176). -/
  | contribFirst (p : Port) (g : Grain)
  /-- CONTRIB (R132). -/
  | contrib (p : Port) (g : Grain)
  /-- CARRY (R138). -/
  | carry (p : Port) (g : Grain)
  /-- LONG_CARRY (R138). -/
  | longCarry (p : Port) (g : Grain)
  /-- ESCAPE (R146). -/
  | escape (p : Port) (g : Grain)
  /-- RESULT (R256). -/
  | result (a : Arrival) (g : Grain)
  /-- DATA (R256). -/
  | data (a : Arrival) (g : Grain)
  /-- BOARD_SLOT_END (R141). -/
  | boardSlotEnd (lost : Bool)
  /-- ESCAPE_RECORD_BEGIN (R143). -/
  | escapeRecordBegin
  /-- BOARD_NACK_REPEAT (R112). -/
  | boardNackRepeat (k : Ctx)
  /-- SPAN_TABLE_LOAD (R63). -/
  | spanTableLoad (r : Route) (v : Bytes)
  /-- SPAN_TABLE_CANCEL (R69). -/
  | spanTableCancel (r : Route) (v : Bytes)
  /-- SPAN_TABLE_ACTIVATION (R69). -/
  | spanTableActivation
  /-- TRANSITION_SPAN_END (R70). -/
  | transitionSpanEnd
  /-- ROUTE_LOAD (R103). -/
  | routeLoad (r : Route) (v : Bytes)
  /-- ROSTER_LOAD (R166). -/
  | rosterLoad (r : Route) (v : Bytes)
  /-- BARRIER_LOAD (R188). -/
  | barrierLoad (r : Route) (v : Bytes)
  /-- KEY_TABLE_LOAD (R280). -/
  | keyTableLoad (r : Route) (v : Bytes)
  /-- EP_SCHEDULE_LOAD (R252). -/
  | epScheduleLoad (w : EpSel) (r : Route) (v : Bytes)
  /-- EP_SCHEDULE_CANCEL (R252). -/
  | epScheduleCancel (w : EpSel) (r : Route) (v : Bytes)
  /-- STEPPED_OPERATION_STEP (R359). -/
  | steppedOperationStep (w : EpSel) (idx : BitVec 16) (sub : BitVec 8) (e : StepEv) (last : Bool)
  /-- ADMIT (R168). -/
  | admission (m : Msg)
  /-- PREPARE (R171). -/
  | prepare (m : Msg)
  /-- PREPARED (R170). -/
  | prepared (m : Msg)
  /-- ADMIT_RESULT (R173). -/
  | admitResult (a : Arrival) (m : Msg)
  /-- COMMIT (R169). -/
  | commit (m : Msg)
  /-- RELEASE (R169). -/
  | release (m : Msg)
  /-- CANCEL (R174). -/
  | cancel (m : Msg)
  /-- MISMATCH_NOTE (R177). -/
  | mismatchNote (m : Msg)
  /-- COLLECTIVE_COMPLETION (R187). -/
  | collectiveCompletion (a : Arrival) (m : Msg)
  /-- ADMIT_DEADLINE (R170). -/
  | admitDeadline (k : Ctx)
  /-- COMMIT_DEADLINE (R170). -/
  | commitDeadline (k : Ctx)
  /-- END_TOKEN (R178). -/
  | endToken (f : TokenFrom) (t : RawToken)
  /-- END_TOKEN_REPEAT (R302). -/
  | endTokenRepeat (k : Ctx)
  /-- QUIESCE_EXPIRY (R183). -/
  | quiesceExpiry (k : Ctx)
  /-- DATA_PRIMITIVE_END (R184). -/
  | dataPrimitiveEnd (k : Ctx)
  /-- COMPLETION_RECORD_DUE (R187). -/
  | completionRecordDue (k : Ctx)
  /-- OPERATION_DIGEST_COMPLETE (R484). -/
  | operationDigestComplete (k : Ctx)
  /-- BARRIER_ARRIVE (R189). -/
  | barrierArrive (f : TokenFrom) (t : RawToken)
  /-- BARRIER_RELEASE (R189). -/
  | barrierRelease (f : TokenFrom) (t : RawToken)
  /-- ENGINE_BARRIER_ARRIVE (R258). -/
  | engineBarrierArrive (id : Nat) (b : BitVec 12) (part : Part)
  /-- ENGINE_REQUEST (R242). -/
  | engineRequest (r : EngReq)
  /-- FENCE_LOCAL (R208). -/
  | fenceLocal (q : FenceReq)
  /-- FENCE_REMOTE (R209). -/
  | fenceRemote (q : FenceReq)
  /-- FENCE_COMPLETE (R210). -/
  | fenceComplete (id : Nat)
  /-- INSTANCE_SUBMIT (R254). -/
  | instanceSubmit (w : EpSel) (i : Submit)
  /-- ENDPOINT_RESERVED_SLOT (R253). -/
  | endpointReservedSlot (w : EpSel) (side : Fin 2) (slot : BitVec 11)
  /-- ATS_TRANSLATION_COMPLETION (R238). -/
  | atsTranslationCompletion (pasid va sizeLog : Nat) (pages : List AtsPage)
  /-- TRANSLATION_TIMEOUT (R240). -/
  | translationTimeout (pasid va sizeLog : Nat)
  /-- ATS_INVALIDATE_REQUEST (R241). -/
  | atsInvalidateRequest (itag : Nat) (pasid : Option Nat) (va len : Nat)
  /-- INVALIDATE_COMPLETION (R241). -/
  | invalidateCompletion (itag : Nat)
  /-- FLUSH (R236). -/
  | flush (r : Route) (v : Bytes)
  /-- REGISTER (R272). -/
  | register (r : Route)
  /-- REVOKE (R273). -/
  | revoke (r : Route)
  /-- MARK_DEAD (R276). -/
  | markDead (r : Route)
  /-- KEY_ENTRY_READ (R279). -/
  | keyEntryRead (r : Route)
  /-- HOME_UPDATE (R278). -/
  | homeUpdate (a : Arrival) (m : Msg)
  /-- HOME_ACK (R272). -/
  | homeAck (m : Msg)
  /-- HOME_ACK_TIMEOUT (R275). -/
  | homeAckTimeout
  /-- MIRROR_QUERY (R279). -/
  | mirrorQuery (a : Arrival) (m : Msg)
  /-- MIRROR_STATE (R279). -/
  | mirrorState (m : Msg)
  /-- PARTITION_OPEN (R284). -/
  | partitionOpen (r : Route) (p : Part)
  /-- PARTITION_CLOSE (R285). -/
  | partitionClose (r : Route) (p : Part)
  /-- PARTITION_SCRUB (R344). -/
  | partitionScrub (r : Route) (v : Bytes)
  /-- BEACON (R304). -/
  | beacon (l : Link) (valid : Bool)
  /-- PORT_DETECT (R304). -/
  | portDetect (l : Link) (laser0 laser1 power : Bool)
  /-- LANE_TRAIN_PASS (R305). -/
  | laneTrainPass (l : Link) (mask : BitVec 8)
  /-- LOCK_ACHIEVED (R306). -/
  | lockAchieved (l : Link) (found : LockFound) (skewOk : Bool)
  /-- TRAIN_LOCK_TIMEOUT (R304). -/
  | trainLockTimeout (l : Link)
  /-- EXCHANGE_TIMEOUT (R304). -/
  | exchangeTimeout (l : Link)
  /-- EXCHANGE_RESEND (R307). -/
  | exchangeResend (l : Link) (type : BitVec 8)
  /-- TRAINED (R305). -/
  | trained (l : Link) (x : Exch)
  /-- LOCKED (R306). -/
  | locked (l : Link) (x : Exch)
  /-- CAPS (R309). -/
  | caps (f : LinkEnd) (x : Exch)
  /-- KA_OFFER (R432). -/
  | kaOffer (l : Link) (x : Exch)
  /-- KA_RESPONSE (R433). -/
  | kaResponse (l : Link) (x : Exch)
  /-- KA_CONFIRM (R435). -/
  | kaConfirm (l : Link) (x : Exch)
  /-- READY (R310). -/
  | ready (l : Link) (x : Exch)
  /-- PORT_ACTIVATE (R310). -/
  | portActivate (f : LinkEnd) (tx : Bool)
  /-- MODE (R317). -/
  | mode (l : Link) (x : Exch)
  /-- MODE_SWITCH (R317). -/
  | modeSwitch (l : Link) (tx : Bool)
  /-- TEST_START (R320). -/
  | testStart (l : Link) (x : Exch)
  /-- TEST_ACK (R320). -/
  | testAck (l : Link) (x : Exch)
  /-- LANE_REPORT (R322). -/
  | laneReport (l : Link) (x : Exch)
  /-- MAINTENANCE_GRAIN (R321). -/
  | maintenanceGrain (p : Port) (x : CheckerIn)
  /-- TEST_END (R322). -/
  | testEnd (l : Link) (tx : Bool) (c : LaneCounts)
  /-- CREDIT (R301). -/
  | credit (f : TokenFrom) (t : RawToken)
  /-- LANE_FAILURE (R313). -/
  | laneFailure (p : Port) (lane : Fin 8)
  /-- LANE_DOWN_REPEAT (R313). -/
  | laneDownRepeat (p : Port)
  /-- DOWN (R313). -/
  | down (f : TokenFrom) (t : RawToken)
  /-- DOWN_ACK (R313). -/
  | downAck (f : TokenFrom) (t : RawToken)
  /-- SEVEN_LANE_SWITCH (R313). -/
  | sevenLaneSwitch (p : Port) (tx : Bool)
  /-- PORT_LIGHT_LOST (R311). -/
  | portLightLost (l : LinkEnd) (rx : Bool)
  /-- LANE_C_LOCK_LOST (R311). -/
  | laneCLockLost (l : Link)
  /-- RX_FIFO_SLIP (R296). -/
  | rxFifoSlip (l : Link)
  /-- LINK_ENABLE (R457). -/
  | linkEnable (r : Route) (l : Link) (v : Bytes)
  /-- LINK_DISABLE (R457). -/
  | linkDisable (r : Route) (l : Link) (v : Bytes)
  /-- ADMIT_CLEAR (R317). -/
  | admitClear (r : Route) (l : Link) (v : Bytes)
  /-- ADMIT_SET (R317). -/
  | admitSet (r : Route) (l : Link) (v : Bytes)
  /-- SPLIT_REQUEST (R312). -/
  | splitRequest (r : Route) (l : Link) (v : Bytes)
  /-- MARGIN_SET (R318). -/
  | marginSet (r : Route) (l : Link) (v : Bytes)
  /-- MARGIN_CLEAR (R318). -/
  | marginClear (r : Route) (l : Link) (v : Bytes)
  /-- RETRAIN (R319). -/
  | retrain (r : Route) (l : Link) (v : Bytes)
  /-- FENCE (R319). -/
  | fence (r : Route) (l : Link) (v : Bytes)
  /-- TEST_START_REQUEST (R320). -/
  | testStartRequest (r : Route) (l : Link) (v : Bytes)
  /-- REKEY (R434). -/
  | rekey (r : Route) (l : Link) (v : Bytes)
  /-- REKEY_DUE (R434). -/
  | rekeyDue (l : Link)
  /-- REKEY_RETRY (R432). -/
  | rekeyRetry (l : Link)
  /-- KEY_SWITCH (R435). -/
  | keySwitch (l : Link) (tx : Bool)
  /-- KEY_LIMIT (R436). -/
  | keyLimit (l : Link)
  /-- REFRESH_WINDOW (R339). -/
  | refreshWindow
  /-- REFRESH_END (R339). -/
  | refreshEnd (evs : List MemEv)
  /-- REFRESH_TIMER (R340). -/
  | refreshTimer
  /-- EXTRA_REFRESH (R341). -/
  | extraRefresh (k : Fin 4)
  /-- HOT_STACK_EXIT (R341). -/
  | hotStackExit (k : Fin 4) (reading : Nat)
  /-- PATROL (R343). -/
  | patrol (half : Fin 2) (ev : MemEv)
  /-- HOST_LINK_DOWN (R350). -/
  | hostLinkDown (kind : Fin 3)
  /-- VF_RESET (R350). -/
  | vfReset (p : Part) (flr : Bool)
  /-- RING_ENABLE (R353). -/
  | ringEnable (f : Fn)
  /-- RING_DISABLE (R353). -/
  | ringDisable (f : Fn)
  /-- SQ_TAIL (R354). -/
  | sqTail (f : Fn) (v : BitVec 32)
  /-- CQ_HEAD (R354). -/
  | cqHead (f : Fn) (v : BitVec 32)
  /-- COMMAND_FETCH (R355). -/
  | commandFetch (entry : Option (BitVec 512))
  /-- NOP (R357). -/
  | nop (f : Fn)
  /-- DICT_READ (R376). -/
  | dictRead (f : Fn) (written : Bool)
  /-- DICT_WRITE (R376). -/
  | dictWrite (f : Fn) (data : Option Bytes)
  /-- RING_STEP_QUERY (R360). -/
  | ringStepQuery (f : Fn)
  /-- COPY_TO_TRAY (R242). -/
  | copyToTray (f : Fn) (data : Option Bytes)
  /-- COPY_FROM_TRAY (R242). -/
  | copyFromTray (f : Fn)
  /-- COPY_COMPLETE (R357). -/
  | copyComplete (f : Fn) (written : Bool)
  /-- RING_ADMIT (R167). -/
  | ringAdmit (f : Fn) (data : Option Bytes)
  /-- RING_CANCEL (R174). -/
  | ringCancel (f : Fn)
  /-- WINDOW_READ (R363). -/
  | windowRead (f : Fn) (idx : BitVec 16) (sub : BitVec 8)
  /-- WINDOW_WRITE (R363). -/
  | windowWrite (f : Fn) (idx : BitVec 16) (sub : BitVec 8) (v : Bytes)
  /-- HOST_WINDOW_READ (R365). -/
  | hostWindowRead (f : Fn) (off : BitVec 34) (len : BitVec 13)
  /-- HOST_WINDOW_WRITE (R365). -/
  | hostWindowWrite (f : Fn) (off : BitVec 34) (data : Bytes)
  /-- HOST_WINDOW_ATOMIC (R365). -/
  | hostWindowAtomic (f : Fn) (off : BitVec 34) (op : Fin 3) (wide : Bool) (a b : BitVec 64)
  /-- WINDOW_FENCE (R366). -/
  | windowFence (f : Fn)
  /-- VECTOR_UNMASK (R362). -/
  | vectorUnmask (f : Fn) (v : Fin 64)
  /-- DOE_REQUEST (R439). -/
  | doeRequest (d : Bytes)
  /-- ARP_REQUEST (R386). -/
  | arpRequest (f : Frame)
  /-- NEIGHBOR_SOLICITATION (R386). -/
  | neighborSolicitation (f : Frame)
  /-- ECHO_REQUEST (R386). -/
  | echoRequest (f : Frame)
  /-- READ (R389). -/
  | read (from_ : DictFrom)
  /-- WRITE (R389). -/
  | write (from_ : DictFrom)
  /-- STEP_QUERY (R394). -/
  | stepQuery (from_ : DictFrom)
  /-- DESCRIBE (R391). -/
  | describe (from_ : DictFrom)
  /-- STAGING_IDLE_TIMEOUT (R389). -/
  | stagingIdleTimeout (who : Asker)
  /-- ANSWER_CACHE_EXPIRY (R390). -/
  | answerCacheExpiry (who : Asker) (seq : BitVec 32)
  /-- DICTIONARY_WRITE (R375). -/
  | dictionaryWrite (r : Route) (idx : BitVec 16) (sub : BitVec 8) (v : Bytes)
  /-- DRIVER_INTERFACE (R411). -/
  | driverInterface (r : Route) (v : Bytes)
  /-- RESTORE (R385). -/
  | restore (r : Route) (v : Bytes)
  /-- RANDOM_HEALTH_FAIL (R427). -/
  | randomHealthFail
  /-- RANDOM_RETEST (R427). -/
  | randomRetest (passed : Bool)
  /-- ATTESTATION_REQUEST (R438). -/
  | attestationRequest (r : Route) (v : Bytes)
  /-- RELEASE_REQUEST (R446). -/
  | releaseRequest (r : Route) (v : Bytes)
  /-- RELEASE_INSTALL (R446). -/
  | releaseInstall (r : Route) (v : Bytes)
  /-- DISCARD (R446). -/
  | discard (r : Route) (v : Bytes)
  /-- INSTALL (R447). -/
  | install (r : Route) (v : Bytes)
  /-- MANAGEMENT_KEY_CLEAR (R447). -/
  | managementKeyClear (r : Route) (v : Bytes)
  /-- POWER_SAMPLE (R463). -/
  | powerSample (x : PowerInputs)
  /-- CONTROL_INTERVAL (R459). -/
  | controlInterval
  /-- VCORE_STEP (R453). -/
  | vcoreStep
  /-- VBOARD_STEP (R463). -/
  | vboardStep (thermal : Bool)
  /-- CAP (R462). -/
  | cap (r : Route) (v : Bytes)
  /-- BOARD_QUARTERS (R456). -/
  | boardQuarters (r : Route) (v : Bytes)
  /-- BOARD_DOMAIN_UP (R456). -/
  | boardDomainUp (q : Quarter)
  /-- THERMAL_TRIP (R471). -/
  | thermalTrip (sensor : Fin 112) (reading : Int)
  /-- ENGINE_OVERHEAT (R472). -/
  | engineOverheat (engine : Fin 25) (reading : Int)
  /-- ENGINE_COOLED (R472). -/
  | engineCooled (engine : Fin 25) (reading : Int)
  /-- FORGET (R460). -/
  | forget (r : Route) (v : Bytes)
  /-- REGION_DIGEST (R486). -/
  | regionDigest (r : Route) (v : Bytes)
  /-- JOURNAL_EXPORT (R492). -/
  | journalExport (r : Route) (v : Bytes)
  /-- EXCEPTIONS_ENTRY (R489). -/
  | exceptionsEntry
  /-- LOCKSTEP (R494). -/
  | lockstep (r : Route) (v : Bytes)
  /-- SLOT_DIGESTS (R496). -/
  | slotDigests (m : Msg)
  /-- DIGEST_WAIT_EXPIRY (R496). -/
  | digestWaitExpiry
  /-- CHECK_WORDS_REQUEST (R497). -/
  | checkWordsRequest (m : Msg)
  /-- CHECK_WORDS_ANSWER (R497). -/
  | checkWordsAnswer (m : Msg)
  /-- GRAIN_FETCH_REQUEST (R497). -/
  | grainFetchRequest (m : Msg)
  /-- GRAIN_FETCH_ANSWER (R497). -/
  | grainFetchAnswer (m : Msg)
  /-- HEARTBEAT (R503). -/
  | heartbeat (b : Beat)
  /-- KEY (R502). -/
  | key (g : Grain)
  /-- ROSTER (R502). -/
  | roster (g : Grain)
  /-- SPAN_TABLE (R502). -/
  | spanTable (g : Grain)
  /-- JOURNAL (R502). -/
  | journal (g : Grain)
  /-- OWNER_DEAD (R508). -/
  | ownerDead (g : Grain)
  /-- PARTITION (R502). -/
  | partition (g : Grain)
  /-- PAIR_LINK_LOST (R503). -/
  | pairLinkLost
  /-- PAIR_FAILOVER (R505). -/
  | pairFailover
  /-- PAIR_ISOLATION (R504). -/
  | pairIsolation
  /-- RESYNC_COMPLETE (R506). -/
  | resyncComplete
  /-- EXPORT_PARTNER (R502). -/
  | exportPartner (r : Route) (v : Bytes)
  /-- OWNER_LOSS_HOLD (R507). -/
  | ownerLossHold (ep : EpId)
  /-- OWNER_LOST (R508). -/
  | ownerLost
  /-- FAULT_REPORT (R515). -/
  | faultReport (p : Port) (m : Msg)
  /-- FOLD_WINDOW_CLOSE (R516). -/
  | foldWindowClose
  /-- REPORT_SEND (R517). -/
  | reportSend
  /-- HEALTH_EVALUATION (R519). -/
  | healthEvaluation (links : List LinkInputs) (quarters : List QuarterInputs)
  /-- PERIODIC_TEST (R523). -/
  | periodicTest
  /-- TALLY_READ (R527). -/
  | tallyRead (r : Route) (off : BitVec 14)
  /-- BANDWIDTH_WINDOW_END (R530). -/
  | bandwidthWindowEnd
  /-- TAGGED_INTERVAL_SWITCH (R533). -/
  | taggedIntervalSwitch (k : Fin 64)
  /-- TAGGED_SET_READ (R534). -/
  | taggedSetRead (r : Route) (k : Fin 64) (off : BitVec 14)
  /-- PARTITION_COUNTS_READ (R535). -/
  | partitionCountsRead (r : Route) (p : Part)
  /-- TRACE_RESTART (R543). -/
  | traceRestart (r : Route) (v : Bytes)
  /-- TRACE_EXPORT (R544). -/
  | traceExport (r : Route) (v : Bytes)
  /-- HOT_STACK_ENTRY (R341). -/
  | hotStackEntry (k : Fin 4) (reading : Nat)
  /-- EP_SCHEDULE_ACTIVATION (R252). -/
  | epScheduleActivation (w : EpSel)
  /-- VR_PGOOD_ASSERT (R455). -/
  | vrPgoodAssert
  /-- HOST_LINK_TRAINED (R347). -/
  | hostLinkTrained (rate : BitVec 8) (width : Fin 3)
  /-- MANAGEMENT_PORT_LINK (R386). -/
  | managementPortLink (state : Fin 4)
  /-- NUMVFS_SET (R351). -/
  | numvfsSet (n : Fin 65)
  /-- BAR0_REGISTER_WRITE (R364). -/
  | bar0RegisterWrite (f : Fn) (off : BitVec 26) (data : Bytes)
  /-- TEST_ACCESS_PORT (R555). -/
  | testAccessPort (pin : Fin 4) (level : Bool)
  deriving DecidableEq, Repr

end Sys2Proof
end

