-- ==== Sys2Proof/WellFormed.lean ====
section
/-! DEFINITION. Which commands are well formed: the shapes that their operands' Lean types do not already fix.  A machine
meaning never asks for it: a command that is not well formed is one that nothing can send. -/

namespace Sys2Proof

/-- A value, or the data of a transfer, is at most as long as a whole VC6 message of 256 fragments (R92). -/
def valueOk (v : Bytes) : Bool := decide (v.length ≤ 65536)

/-- A VC6 message has 1 to 256 fragments of 1 to 256 octets (R92, R568). -/
def Msg.wf (m : Msg) : Bool := decide (0 < m.payload.length) && decide (m.payload.length ≤ 65536)

/-- A link exchange message's length is a 16-bit field, and a fragment carries nine octets of it (R307). -/
def Exch.wf (x : Exch) : Bool := decide (x.frags.length ≤ 7283)

/-- A unit has four check groups (R291). -/
def IngressLine.wf (l : IngressLine) : Bool := l.noise.all fun u => u.weak.length == 4

/-- A receiver counts on eight data lanes at most (R321). -/
def LaneCounts.wf (c : LaneCounts) : Bool := decide (c.errors.length ≤ 8)

/-- Seven rails, four power classes beside VAON's, and 112 sensors (R452, R458, R469). -/
def PowerInputs.wf (x : PowerInputs) : Bool :=
  x.rails.length == 7 && x.classes.length == 4 && x.sensors.length == 112

/-- Nine power readings of a link, and some bits that its worst lane received (R519, Table 17.4). -/
def LinkInputs.wf (x : LinkInputs) : Bool := x.power.length == 9 && decide (0 < x.bits)

/-- The memory reports no chunk twice. -/
def MemEv.wf (e : MemEv) : Bool := decide e.bad.Nodup && decide e.corrected.Nodup

/-- What an Ethernet frame carries fits in it; the port counts one that is too long (R386). -/
def Frame.wf (f : Frame) : Bool := decide (f.data.length ≤ f.size)

/-- A dictionary message, in a datagram or in management grains. -/
def DictFrom.wf : DictFrom → Bool
  | .port f => f.wf
  | .fabric _ m => m.wf

/-- A heartbeat, as a grain or as a message (R503). -/
def Beat.wf : Beat → Bool
  | .grain _ => true
  | .message m => m.wf

/-- A member of an instance is one of its members (R254). -/
def Submit.wf (i : Submit) : Bool := decide (i.member < i.members) && decide (i.members ≤ 512)

/-- A PASID has 20 bits and an address 64 (R237). -/
def EngReq.wf (r : EngReq) : Bool :=
  decide (r.pasid.getD 0 < 2 ^ 20) && decide (r.addr < 2 ^ 64) && decide (r.kind ≤ 10)

/-- A page of a translation is aligned to its size (R238). -/
def AtsPage.wf (p : AtsPage) : Bool := decide (12 ≤ p.sizeLog) && decide (p.sizeLog < 64) && p.va % 2 ^ p.sizeLog == 0

/-- What a probe finds fits the objects that hold it (Table 0.3). -/
def Probe.wf (p : Probe) : Bool :=
  decide (p.board < 2) && decide (p.stackBits < 16) && decide (p.hbm < 2 ^ 32) && decide (p.lpddr < 2 ^ 32) &&
  decide (p.lockstep < 2) && decide (p.digest < 2) && decide (p.links < 2 ^ 24) && decide (p.sealed_ < 2)

/-- The shapes that a command's operands have. -/
def Instr.wf : Instr → Bool
  | .resetRelease => true
  | .resetAssert => true
  | .powerLoss => true
  | .selfTestDone _ found => found.wf
  | .firmwareLoad _ v => valueOk v
  | .imageVerify _ img => decide (img.length ≤ 2 ^ 24)
  | .initComplete _ => true
  | .initTimeout => true
  | .restart _ v => valueOk v
  | .resume _ v => valueOk v
  | .failedCountClear _ v => valueOk v
  | .watchdogExpiry _ _ => true
  | .coreTrap _ _ => true
  | .coreAccessFault _ _ => true
  | .coreSramError _ _ => true
  | .coreReady _ => true
  | .gateRelease _ _ _ _ _ => true
  | .heldMinReset _ _ v => valueOk v
  | .slotBoundary => true
  | .spanBoundary => true
  | .spanCounterRead _ _ => true
  | .refclkLost _ => true
  | .refclkBothLost => true
  | .refclkRestored _ => true
  | .laserInputLost _ _ => true
  | .alignStart _ v => valueOk v
  | .alignStartFollower _ v => valueOk v
  | .spanMarker _ _ _ _ => true
  | .ingressGrain _ l => l.wf
  | .openGrainHandoff _ _ => true
  | .openEgressDeparture _ _ => true
  | .reseqRelease _ _ _ => true
  | .ageingSweep => true
  | .vc4GroupApply _ => true
  | .load _ _ ev => ev.wf
  | .loadVolatile _ _ ev => ev.wf
  | .store _ _ ev => ev.wf
  | .storeMasked _ _ ev => ev.wf
  | .seqReset _ _ => true
  | .add _ _ ev => ev.wf
  | .min _ _ ev => ev.wf
  | .max _ _ ev => ev.wf
  | .and _ _ ev => ev.wf
  | .or _ _ ev => ev.wf
  | .xor _ _ ev => ev.wf
  | .swap _ _ ev => ev.wf
  | .cas _ _ ev => ev.wf
  | .fadd _ _ ev => ev.wf
  | .loadData _ _ => true
  | .completion _ _ => true
  | .error _ _ => true
  | .nack _ _ _ => true
  | .resendTimeoutExpiry _ _ _ _ => true
  | .requestBackstop _ _ _ _ => true
  | .contribFirst _ _ => true
  | .contrib _ _ => true
  | .carry _ _ => true
  | .longCarry _ _ => true
  | .escape _ _ => true
  | .result _ _ => true
  | .data _ _ => true
  | .boardSlotEnd _ => true
  | .escapeRecordBegin => true
  | .boardNackRepeat _ => true
  | .spanTableLoad _ v => valueOk v
  | .spanTableCancel _ v => valueOk v
  | .spanTableActivation => true
  | .transitionSpanEnd => true
  | .routeLoad _ v => valueOk v
  | .rosterLoad _ v => valueOk v
  | .barrierLoad _ v => valueOk v
  | .keyTableLoad _ v => valueOk v
  | .epScheduleLoad _ _ v => valueOk v
  | .epScheduleCancel _ _ v => valueOk v
  | .steppedOperationStep _ _ _ e _ => e.ev.wf
  | .admission m => m.wf
  | .prepare m => m.wf
  | .prepared m => m.wf
  | .admitResult _ m => m.wf
  | .commit m => m.wf
  | .release m => m.wf
  | .cancel m => m.wf
  | .mismatchNote m => m.wf
  | .collectiveCompletion _ m => m.wf
  | .admitDeadline _ => true
  | .commitDeadline _ => true
  | .endToken _ _ => true
  | .endTokenRepeat _ => true
  | .quiesceExpiry _ => true
  | .dataPrimitiveEnd _ => true
  | .completionRecordDue _ => true
  | .operationDigestComplete _ => true
  | .barrierArrive _ _ => true
  | .barrierRelease _ _ => true
  | .engineBarrierArrive _ _ _ => true
  | .engineRequest r => r.wf
  | .fenceLocal _ => true
  | .fenceRemote _ => true
  | .fenceComplete _ => true
  | .instanceSubmit _ i => i.wf
  | .endpointReservedSlot _ _ _ => true
  | .atsTranslationCompletion pasid va sizeLog pages => decide (pasid < 2 ^ 20) && decide (va < 2 ^ 64) && decide (12 ≤ sizeLog) && decide (sizeLog < 64) && pages.all AtsPage.wf
  | .translationTimeout pasid va sizeLog => decide (pasid < 2 ^ 20) && decide (va < 2 ^ 64) && decide (12 ≤ sizeLog) && decide (sizeLog < 64)
  | .atsInvalidateRequest itag pasid va _ => decide (itag < 32) && (pasid.getD 0 < 2 ^ 20) && decide (va < 2 ^ 64)
  | .invalidateCompletion itag => decide (itag < 32)
  | .flush _ v => valueOk v
  | .register _ => true
  | .revoke _ => true
  | .markDead _ => true
  | .keyEntryRead _ => true
  | .homeUpdate _ m => m.wf
  | .homeAck m => m.wf
  | .homeAckTimeout => true
  | .mirrorQuery _ m => m.wf
  | .mirrorState m => m.wf
  | .partitionOpen _ _ => true
  | .partitionClose _ _ => true
  | .partitionScrub _ v => valueOk v
  | .beacon _ _ => true
  | .portDetect _ _ _ _ => true
  | .laneTrainPass _ _ => true
  | .lockAchieved _ found _ => decide (found.units.length ≤ 8)
  | .trainLockTimeout _ => true
  | .exchangeTimeout _ => true
  | .exchangeResend _ _ => true
  | .trained _ x => x.wf
  | .locked _ x => x.wf
  | .caps _ x => x.wf
  | .kaOffer _ x => x.wf
  | .kaResponse _ x => x.wf
  | .kaConfirm _ x => x.wf
  | .ready _ x => x.wf
  | .portActivate _ _ => true
  | .mode _ x => x.wf
  | .modeSwitch _ _ => true
  | .testStart _ x => x.wf
  | .testAck _ x => x.wf
  | .laneReport _ x => x.wf
  | .maintenanceGrain _ x => x.line.wf && x.counts.wf
  | .testEnd _ _ c => c.wf
  | .credit _ _ => true
  | .laneFailure _ _ => true
  | .laneDownRepeat _ => true
  | .down _ _ => true
  | .downAck _ _ => true
  | .sevenLaneSwitch _ _ => true
  | .portLightLost _ _ => true
  | .laneCLockLost _ => true
  | .rxFifoSlip _ => true
  | .linkEnable _ _ v => valueOk v
  | .linkDisable _ _ v => valueOk v
  | .admitClear _ _ v => valueOk v
  | .admitSet _ _ v => valueOk v
  | .splitRequest _ _ v => valueOk v
  | .marginSet _ _ v => valueOk v
  | .marginClear _ _ v => valueOk v
  | .retrain _ _ v => valueOk v
  | .fence _ _ v => valueOk v
  | .testStartRequest _ _ v => valueOk v
  | .rekey _ _ v => valueOk v
  | .rekeyDue _ => true
  | .rekeyRetry _ => true
  | .keySwitch _ _ => true
  | .keyLimit _ => true
  | .refreshWindow => true
  | .refreshEnd evs => decide (evs.length ≤ 4)
  | .refreshTimer => true
  | .extraRefresh _ => true
  | .hotStackExit _ _ => true
  | .patrol _ ev => ev.wf
  | .hostLinkDown _ => true
  | .vfReset _ _ => true
  | .ringEnable _ => true
  | .ringDisable _ => true
  | .sqTail _ _ => true
  | .cqHead _ _ => true
  | .commandFetch _ => true
  | .nop _ => true
  | .dictRead _ _ => true
  | .dictWrite _ bytes => valueOk (bytes.getD [])
  | .ringStepQuery _ => true
  | .copyToTray _ bytes => decide ((bytes.getD []).length ≤ 2 ^ 24)
  | .copyFromTray _ => true
  | .copyComplete _ _ => true
  | .ringAdmit _ bytes => valueOk (bytes.getD [])
  | .ringCancel _ => true
  | .windowRead _ _ _ => true
  | .windowWrite _ _ _ v => valueOk v
  | .hostWindowRead _ _ len => decide (0 < len.toNat) && decide (len.toNat ≤ 4096)
  | .hostWindowWrite _ _ bytes => decide (0 < bytes.length) && decide (bytes.length ≤ 512)
  | .hostWindowAtomic _ _ _ _ _ _ => true
  | .windowFence _ => true
  | .vectorUnmask _ _ => true
  | .doeRequest d => valueOk d
  | .arpRequest f => f.wf
  | .neighborSolicitation f => f.wf
  | .echoRequest f => f.wf
  | .read from_ => from_.wf
  | .write from_ => from_.wf
  | .stepQuery from_ => from_.wf
  | .describe from_ => from_.wf
  | .stagingIdleTimeout _ => true
  | .answerCacheExpiry _ _ => true
  | .dictionaryWrite _ _ _ v => valueOk v
  | .driverInterface _ v => valueOk v
  | .restore _ v => valueOk v
  | .randomHealthFail => true
  | .randomRetest _ => true
  | .attestationRequest _ v => valueOk v
  | .releaseRequest _ v => valueOk v
  | .releaseInstall _ v => valueOk v
  | .discard _ v => valueOk v
  | .install _ v => valueOk v
  | .managementKeyClear _ v => valueOk v
  | .powerSample x => x.wf
  | .controlInterval => true
  | .vcoreStep => true
  | .vboardStep _ => true
  | .cap _ v => valueOk v
  | .boardQuarters _ v => valueOk v
  | .boardDomainUp _ => true
  | .thermalTrip _ _ => true
  | .engineOverheat _ _ => true
  | .engineCooled _ _ => true
  | .forget _ v => valueOk v
  | .regionDigest _ v => valueOk v
  | .journalExport _ v => valueOk v
  | .exceptionsEntry => true
  | .lockstep _ v => valueOk v
  | .slotDigests m => m.wf
  | .digestWaitExpiry => true
  | .checkWordsRequest m => m.wf
  | .checkWordsAnswer m => m.wf
  | .grainFetchRequest m => m.wf
  | .grainFetchAnswer m => m.wf
  | .heartbeat b => b.wf
  | .key _ => true
  | .roster _ => true
  | .spanTable _ => true
  | .journal _ => true
  | .ownerDead _ => true
  | .partition _ => true
  | .pairLinkLost => true
  | .pairFailover => true
  | .pairIsolation => true
  | .resyncComplete => true
  | .exportPartner _ v => valueOk v
  | .ownerLossHold _ => true
  | .ownerLost => true
  | .faultReport _ m => m.wf
  | .foldWindowClose => true
  | .reportSend => true
  | .healthEvaluation links quarters => links.length == 24 && links.all LinkInputs.wf && quarters.length == 4
  | .periodicTest => true
  | .tallyRead _ _ => true
  | .bandwidthWindowEnd => true
  | .taggedIntervalSwitch _ => true
  | .taggedSetRead _ _ _ => true
  | .partitionCountsRead _ _ => true
  | .traceRestart _ v => valueOk v
  | .traceExport _ v => valueOk v
  | .hotStackEntry _ _ => true
  | .epScheduleActivation _ => true
  | .vrPgoodAssert => true
  | .hostLinkTrained _ _ => true
  | .managementPortLink _ => true
  | .numvfsSet _ => true
  | .bar0RegisterWrite _ _ bytes => decide (0 < bytes.length) && decide (bytes.length ≤ 512)
  | .testAccessPort _ _ => true

end Sys2Proof
end

