-- ==== Sys2Proof/Decode.lean ====
section
/-! DEFINITION. Words of the command table.  The table gives no row any bits: commands are named events and accesses, no
encoded words, so no word spells one. -/

namespace Sys2Proof

/-- The command that a word spells by the table's bits: none, since no row has bits. -/
def decodeTableWord (_nbits _w : Nat) : Option Instr := none

end Sys2Proof
end

