-- ==== Sys2Proof/Machine/Bits.lean ====
section
/-! DEFINITION. Bit fields, byte order, sparse tables and check codes: the arithmetic that every chapter's fields use. -/

namespace Sys2Proof.Machine

/-! ### Fields and byte order (R9) -/

/-- Field [hi:lo] of a little-endian value. -/
def fld (x hi lo : Nat) : Nat := (x / 2 ^ lo) % 2 ^ (hi + 1 - lo)

/-- Bit b of a value. -/
def bit (x b : Nat) : Bool := x / 2 ^ b % 2 == 1

/-- One bit as a number. -/
def b2n (b : Bool) : Nat := if b then 1 else 0

/-- A field placed at bit lo, cut to its width. -/
def put (v hi lo : Nat) : Nat := v % 2 ^ (hi + 1 - lo) * 2 ^ lo

/-- The bits set in the low n bits of a mask, rising. -/
def maskBits (m n : Nat) : List Nat := (List.range n).filter (fun b => bit m b)

/-- How many of the low n bits are set. -/
def popcount (m n : Nat) : Nat := (maskBits m n).length

/-- A mask with the bits of a list set. -/
def maskOf (l : List Nat) : Nat := l.foldl (fun m b => if bit m b then m else m + 2 ^ b) 0

/-- Set one bit of a value to b. -/
def setBit (x b : Nat) (v : Bool) : Nat :=
  if bit x b == v then x else if v then x + 2 ^ b else x - 2 ^ b

/-- The value of a byte string, lowest octet first. -/
def leNat : Bytes → Nat
  | [] => 0
  | b :: bs => b.toNat + 256 * leNat bs

/-- n octets of a value, lowest first. -/
def natLe : Nat → Nat → Bytes
  | 0, _ => []
  | n + 1, x => BitVec.ofNat 8 x :: natLe n (x / 256)

/-- n octets of a byte string from an offset, with zeros past its end. -/
def sliceB (bs : Bytes) (off n : Nat) : Bytes :=
  let t := (bs.drop off).take n
  t ++ List.replicate (n - t.length) 0

/-- The value of n octets at an offset. -/
def leAt (bs : Bytes) (off n : Nat) : Nat := leNat (sliceB bs off n)

/-- Consecutive pieces of n octets. -/
def pieces (n : Nat) : Nat → Bytes → List Bytes
  | 0, _ => []
  | k + 1, bs => bs.take n :: pieces n k (bs.drop n)

/-- Two's complement of width w read as a signed number. -/
def toSigned (w x : Nat) : Int :=
  if 2 ^ (w - 1) ≤ x % 2 ^ w then (x % 2 ^ w : Int) - 2 ^ w else (x % 2 ^ w : Int)

/-- A signed number as a field of width w. -/
def ofSigned (w : Nat) (x : Int) : Nat := (x % (2 ^ w : Int)).toNat

/-- Ceiling of a quotient; 0 for a divisor of 0. -/
def ceilDiv (a b : Nat) : Nat := if b = 0 then 0 else (a + b - 1) / b

/-- Addition that stops at a ceiling. -/
def satAdd (a b top : Nat) : Nat := min (a + b) top

/-- The octets of ASCII text. -/
def ascii (s : String) : Bytes := s.toList.map fun c => BitVec.ofNat 8 c.toNat

/-- Octets of ASCII text padded with zeros to n (type 0x21). -/
def text (n : Nat) (s : String) : Nat :=
  leNat ((s.toList.map (fun c => BitVec.ofNat 8 c.toNat)).take n)

/-! ### Sparse tables -/

/-- The value at a key, or a default. -/
def tget {α : Type} (t : Tab α) (k : Nat) (d : α) : α :=
  match t with
  | [] => d
  | (j, v) :: r => if j = k then v else tget r k d

/-- Whether a key has an entry. -/
def thas {α : Type} (t : Tab α) (k : Nat) : Bool := t.any (fun e => e.1 == k)

/-- Write a key, keeping the keys rising. -/
def tset {α : Type} (t : Tab α) (k : Nat) (v : α) : Tab α :=
  match t with
  | [] => [(k, v)]
  | (j, w) :: r => if k < j then (k, v) :: (j, w) :: r else if k = j then (k, v) :: r else (j, w) :: tset r k v

/-- Remove a key. -/
def tdel {α : Type} (t : Tab α) (k : Nat) : Tab α := t.filter (fun e => e.1 != k)

/-- Change the value at a key. -/
def tmod {α : Type} (t : Tab α) (k : Nat) (d : α) (f : α → α) : Tab α := tset t k (f (tget t k d))

/-- Replace the element at a position of a list. -/
def lset {α : Type} : List α → Nat → α → List α
  | [], _, _ => []
  | _ :: r, 0, v => v :: r
  | a :: r, n + 1, v => a :: lset r n v

/-- Change the elements that satisfy a test. -/
def lmod {α : Type} (l : List α) (p : α → Bool) (f : α → α) : List α := l.map (fun a => if p a then f a else a)

/-- Change the first element that satisfies a test. -/
def lmodFirst {α : Type} : List α → (α → Bool) → (α → α) → List α
  | [], _, _ => []
  | a :: r, p, f => if p a then f a :: r else a :: lmodFirst r p f

/-- Remove the first element that satisfies a test. -/
def ldrop {α : Type} : List α → (α → Bool) → List α
  | [], _ => []
  | a :: r, p => if p a then r else a :: ldrop r p

/-- Insert by a strict order before the first element it precedes. -/
def linsert {α : Type} (lt : α → α → Bool) (a : α) : List α → List α
  | [] => [a]
  | b :: r => if lt a b then a :: b :: r else b :: linsert lt a r

/-- Sort by a strict order. -/
def lsort {α : Type} (lt : α → α → Bool) : List α → List α
  | [] => []
  | a :: r => linsert lt a (lsort lt r)

/-! ### Check codes -/

/-- One bit of a reflected CRC of polynomial p. -/
def crcBit (p c : Nat) : Nat := if c % 2 = 1 then (c / 2) ^^^ p else c / 2

/-- One octet of a reflected CRC. -/
def crcByte (p c : Nat) (b : Byte) : Nat :=
  let c := c ^^^ b.toNat
  crcBit p (crcBit p (crcBit p (crcBit p (crcBit p (crcBit p (crcBit p (crcBit p c)))))))

/-- CRC-32C: polynomial 0x1EDC6F41 reflected, initial value and final XOR all ones (R94). -/
def crc32c (bs : Bytes) : Nat := (bs.foldl (crcByte 0x82F63B78) 0xFFFFFFFF) ^^^ 0xFFFFFFFF

/-- One bit of the CRC-8 of lane C, most significant bit first. -/
def crc8Bit (c : Nat) : Nat := if 128 ≤ c then (2 * c % 256) ^^^ 7 else 2 * c

/-- CRC-8 with polynomial x^8 + x^2 + x + 1 and initial value 0xFF (R298, log 19). -/
def crc8 (bs : Bytes) : Nat :=
  bs.foldl (fun c b => crc8Bit (crc8Bit (crc8Bit (crc8Bit (crc8Bit (crc8Bit (crc8Bit (crc8Bit (c ^^^ b.toNat))))))))) 0xFF

end Sys2Proof.Machine
end

