-- ==== Sys2Proof/Machine/Float.lean ====
section
/-! DEFINITION. Binary floating-point formats as exact integers: decoding, and one rounding to nearest, ties to even
(04, 06 R198, R220). -/

namespace Sys2Proof.Machine

/-- A format of IEEE 754 shape: exponent and fraction widths. -/
structure Fmt where
  e : Nat
  m : Nat
  deriving DecidableEq, Repr, Inhabited

def fp16 : Fmt := ⟨5, 10⟩
def bf16 : Fmt := ⟨8, 7⟩
def fp32 : Fmt := ⟨8, 23⟩
def fp64 : Fmt := ⟨11, 52⟩

namespace Fmt

def width (f : Fmt) : Nat := 1 + f.e + f.m
def sign (f : Fmt) (x : Nat) : Bool := bit x (f.e + f.m)
def exp (f : Fmt) (x : Nat) : Nat := fld x (f.e + f.m - 1) f.m
def frac (f : Fmt) (x : Nat) : Nat := x % 2 ^ f.m
/-- The largest exponent code, that of infinities and NaNs. -/
def top (f : Fmt) : Nat := 2 ^ f.e - 1
def isNan (f : Fmt) (x : Nat) : Bool := f.exp x == f.top && f.frac x != 0
def isInf (f : Fmt) (x : Nat) : Bool := f.exp x == f.top && f.frac x == 0
def inf (f : Fmt) (neg : Bool) : Nat := f.top * 2 ^ f.m + b2n neg * 2 ^ (f.e + f.m)

/-- Magnitude of a finite value in units of the smallest subnormal. -/
def mag (f : Fmt) (x : Nat) : Nat :=
  if f.exp x = 0 then f.frac x else (2 ^ f.m + f.frac x) * 2 ^ (f.exp x - 1)

/-- A finite value in units of the smallest subnormal. -/
def value (f : Fmt) (x : Nat) : Int := if f.sign x then -(f.mag x : Int) else (f.mag x : Int)

/-- n / 2^k rounded to nearest, ties to even. -/
def rne (n k : Nat) : Nat :=
  let q := n / 2 ^ k
  let r := n % 2 ^ k
  if 2 ^ k < 2 * r ∨ (2 * r = 2 ^ k ∧ q % 2 = 1) then q + 1 else q

/-- A magnitude in units of the smallest subnormal, rounded once; past the range it is infinity. -/
def roundMag (f : Fmt) (n : Nat) : Nat :=
  if n < 2 ^ (f.m + 1) then n
  else
    let k := n.log2 - f.m
    min (k * 2 ^ f.m + rne n k) (f.top * 2 ^ f.m)

/-- A value in units of the smallest subnormal, rounded once. -/
def round (f : Fmt) (v : Int) : Nat := f.roundMag v.natAbs + b2n (decide (v < 0)) * 2 ^ (f.e + f.m)

/-- The exact sum of operands, rounded once; none: a NaN (R220, log 13). -/
def sum (f : Fmt) (l : List Nat) : Option Nat :=
  if l.any f.isNan || (l.any (fun x => f.isInf x && f.sign x) && l.any (fun x => f.isInf x && !f.sign x)) then none
  else if l.any f.isInf then some (f.inf (l.any fun x => f.isInf x && f.sign x))
  else
    let v := l.foldl (fun (a : Int) x => a + f.value x) 0
    if v = 0 then some (if l.all f.sign then 2 ^ (f.e + f.m) else 0) else some (f.round v)

/-- A quiet NaN whose sign and payload are a free value. -/
def nan (f : Fmt) (free : Nat) : Nat :=
  f.top * 2 ^ f.m + 2 ^ (f.m - 1) + free % 2 ^ (f.m - 1) + (free / 2 ^ f.m) % 2 * 2 ^ (f.e + f.m)

end Fmt

end Sys2Proof.Machine
end

