-- ==== Sys2Proof/Machine/State.lean ====
section
/-! DEFINITION. The state of the block as plain data, the reasons a step can stop, and the state after reset. -/

namespace Sys2Proof.Machine

/-- Why a step would stop with a fault.  No command of the table stops so: the spec answers every wrong request
(see NOTES.md, Stops), so this type has only the constructor the interface needs.  Safe. -/
inductive Fault where
  /-- Raised by nobody: no rule of the spec stops the block. -/
  | halted
  deriving DecidableEq, Repr

/-- Why a step would be refused. -/
inductive Refusal where
  /-- Raised by an arm of exec whose command has no meaning yet.  Safe. -/
  | notModelled (mnemonic : String)
  deriving DecidableEq, Repr

/-! ### What leaves the block -/

/-- One thing the block sends or hands on, in order (log 5). -/
inductive Emit where
  /-- A grain leaves a port at a grain time (span, offset), with its 288 octets on a link of the device: header, encrypted
  payload and hop tag (R82, R95). -/
  | grain (port : Nat) (g : Grain) (span offset : Nat) (octets : Bytes)
  /-- The crossbar hands a grain to a consumer inside the device: its home, its board or a core (log 18). -/
  | deliver (place : String) (port : Nat) (g : Grain)
  /-- A lane C token leaves a port: its name, the fields of Table 9.5 and, on a link, its 8b/10b code groups (R297, R298). -/
  | token (port : Nat) (k : String) (fields : Nat) (groups : List (BitVec 10))
  /-- Lane C of a link begins to repeat ordered sets: the idle set, and in DETECT the beacon in alternation (R297, R304). -/
  | sets (port : Nat) (groups : List (BitVec 10))
  /-- A link exchange message of Table 9.7 leaves a port. -/
  | exchange (port : Nat) (type : Nat) (body : Bytes)
  /-- A lane begins or ends sending a pattern, a beacon or training (09). -/
  | lane (port : Nat) (what : String)
  /-- A VC6 message leaves toward an end-point. -/
  | message (dst : Nat) (target kind : Nat) (payload : Bytes)
  /-- A DMA write to host memory. -/
  | hostWrite (fn : Nat) (addr : Nat) (data : Bytes)
  /-- An MSI-X vector of a function is signalled. -/
  | vector (fn : Nat) (v : Nat)
  /-- An answer to a PCIe read, write, AtomicOp or configuration access: status and data. -/
  | pcie (fn : Nat) (status : Nat) (data : Bytes)
  /-- An answer to a dictionary access on a route: status, step token and value. -/
  | answer (r : Route) (idx sub status token : Nat) (value : Bytes)
  /-- A frame of the management port: to an Ethernet address (0: as the network finds it), an IP address and a UDP port. -/
  | frame (kind : String) (mac : Nat) (v6 : Bool) (ip udp : Nat) (data : Bytes)
  /-- A setpoint on the AVSBus, in mV. -/
  | avs (rail mv : Nat)
  /-- An output pin changes. -/
  | pin (name : String) (level : Bool)
  /-- An answer of an end-point to one of its engines. -/
  | engine (id : Nat) (status : Nat) (data : Bytes)
  /-- A message of an end-point to its accelerator's host software or translation agent. -/
  | agent (what : String) (args : List Nat)
  deriving DecidableEq, Repr, Inhabited

/-! ### Identity, pins and start (00, 13, 19) -/

/-- The three ordering variants (Table 0.2). -/
inductive Variant where
  | f | c | n
  deriving DecidableEq, Repr, Inhabited

/-- Where a start stands: no power, held in reset, or a STATE value of A000:06 (Table 13.7). -/
inductive Phase where
  | off | inReset | selfTest | waiting | loading | initialising | ready | minimal
  deriving DecidableEq, Repr, Inhabited

/-- A start record (Table 13.8). -/
structure StartRecord where
  hostTime : Nat := 0
  imagePrefix : Nat := 0
  fwVersion : Nat := 0
  number : Nat := 0
  /-- Microseconds from the start to its outcome. -/
  duration : Nat := 0
  failedCount : Nat := 0
  reason : Nat := 0
  detail : Nat := 0
  /-- 0 IN_PROGRESS, 1 READY, 2 FAILED, 3 INTERRUPTED, 4 MINIMAL. -/
  outcome : Nat := 0
  /-- 0 power-up, 1 PKG_RST_N, 2 RESTART, 3 after failed start, 4 RESUME. -/
  trigger : Nat := 0
  deriving DecidableEq, Repr, Inhabited

/-- A management core S, P, F, A, T or H as core number 0 to 5 (13). -/
structure Core where
  /-- 0 stopped before release, 1 running, 2 restarting, 3 failed (A000:08). -/
  state : Nat := 0
  /-- Times, in ns of State.ns, of its stops in the last 60 s (R420). -/
  stops : List Nat := []
  digestOk : Bool := true
  restarts : Nat := 0
  deriving DecidableEq, Repr, Inhabited

/-- The verified firmware image header (Table 13.3). -/
structure FwHeader where
  version : Nat := 0
  interface : Nat := 0
  features : Nat := 0
  length : Nat := 0
  sigOffset : Nat := 0
  minRom : Nat := 0
  deriving DecidableEq, Repr, Inhabited

/-- The test access port (R555). -/
structure Tap where
  /-- State of the IEEE 1149.1 controller, 0 to 15 (log 17). -/
  ctl : Nat := 15
  /-- 0 IDCODE, 1 BYPASS, 2 another instruction. -/
  instr : Nat := 0
  shift : Nat := 0
  /-- Bits shifted in since Capture-IR, the latest last. -/
  irBits : List Bool := []
  /-- Levels of the pins; TRST_N and TCK low where nothing drives them. -/
  tck : Bool := false
  tms : Bool := false
  tdi : Bool := false
  trstN : Bool := false
  tdo : Bool := false
  deriving DecidableEq, Repr, Inhabited

structure Boot where
  variant : Variant := .f
  phase : Phase := .off
  vrPgood : Bool := false
  pkgRstN : Bool := false
  pgoodAck : Bool := false
  thermtrip : Bool := false
  /-- PD-00 is powered; no start has begun since it was powered. -/
  pd00 : Bool := false
  /-- The boot ROM has filled 1020 since power-up (R4). -/
  probed : Bool := false
  cold : Bool := true
  /-- State.ns at the beginning of the running start and at the write of LOAD. -/
  begun : Nat := 0
  loadAt : Nat := 0
  records : List StartRecord := []
  image : Option FwHeader := none
  /-- The image bytes that the DMA has delivered (R407). -/
  loaded : Bytes := []
  /-- SHA3-512 over the persistent configuration as phase 2 has read it (A030:04). -/
  configDigest : Nat := 0
  /-- Trigger of a start that a write has asked for: the write is answered before it (R565). -/
  startDue : Option Nat := none
  /-- DEFAULT_PHASES and MGMT_NETWORK as the running start began with them (R398). -/
  config : Tab Nat := []
  cores : Tab Core := []
  tap : Tap := {}
  deriving DecidableEq, Repr, Inhabited

/-! ### Clock and alignment (01, 02) -/

structure Clock where
  refA : Bool := false
  refB : Bool := false
  onB : Bool := false
  running : Bool := false
  span : Nat := 0
  slot : Nat := 0
  /-- Grain offset latched by a read of 4000:01 (R36). -/
  latched : Nat := 0
  /-- 0 unaligned, 1 aligning, 2 aligned, 3 lost (4000:04). -/
  align : Nat := 0
  /-- The master's value waiting for the next span boundary (R52). -/
  startPending : Option Nat := none
  /-- Number and local grain time of the follower's last ALIGNED parent marker (R53). -/
  mark : Option (Nat × Nat) := none
  /-- Alignment had been lost before the running re-alignment (R56). -/
  wasLost : Bool := false
  /-- The device has been aligned since the counter started, so it sends markers (R53). -/
  marking : Bool := false
  /-- Reserved traffic is refused on all links until the next activation (R56). -/
  refuseAll : Bool := false
  /-- Links whose reserved traffic is refused until the next activation (R56). -/
  refuse : List Nat := []
  /-- Measured arrival offset per link; no entry is 0x8000 (R55). -/
  offsets : Tab Int := []
  /-- SPAN of the last marker per link, where it departed from the offset (R56). -/
  departures : Tab Nat := []
  /-- Links whose offset has not been measured since they entered ACTIVE or DEGRADED, with no activation since (R477). -/
  trimArmed : List Nat := []
  /-- Links whose offset has not been measured since they entered ACTIVE or DEGRADED; ARRIVAL_TARGET in force and TRIM_STATE
  per link (R477). -/
  unmeasured : List Nat := []
  targets : Tab Nat := []
  trim : Tab Nat := []
  /-- Receive FIFO depth per link, 4 unless trimmed (R477, Table 16.2). -/
  depth : Tab Nat := []
  /-- Running minimum slack per quarter in this span (R18); no entry is 32. -/
  slackNow : Tab Nat := []
  /-- No span table has been activated since alignment (R340). -/
  timedRefresh : Bool := true
  deriving DecidableEq, Repr, Inhabited

/-! ### Schedule (02) -/

structure SlotMap where
  port : Nat := 0
  egress : Bool := false
  /-- (class, partition) of each slot. -/
  slots : List (Nat × Nat) := []
  deriving DecidableEq, Repr, Inhabited

structure RouteRec where
  inPort : Nat := 0
  inSlot : Nat := 0
  outMask : Nat := 0
  part : Nat := 0
  toBoard : Bool := false
  ctx : Nat := 0
  deriving DecidableEq, Repr, Inhabited

structure BoardRec where
  slot : Nat := 0
  ctx : Nat := 0
  quarters : Nat := 0
  /-- 0 LEVEL, 1 ROOT, 2 ESCAPE, 3 RESERVE. -/
  role : Nat := 0
  part : Nat := 0
  outMask : Nat := 0
  deriving DecidableEq, Repr, Inhabited

structure SpanTable where
  serial : Nat := 0
  spanLog : Nat := 11
  slotLog : Nat := 5
  splitMask : Nat := 0
  swEp : Nat := 0
  minGuard : Nat := 0
  digest : Nat := 0
  arrivals : List Int := []
  maps : List SlotMap := []
  routes : List RouteRec := []
  boards : List BoardRec := []
  /-- The image's bytes, as mirrored to the partner (R502). -/
  image : Bytes := []
  deriving DecidableEq, Repr, Inhabited

structure Sched where
  active : Option SpanTable := none
  pending : Option SpanTable := none
  previous : Option SpanTable := none
  activateAt : Nat := 0
  /-- Span at whose beginning the active table was switched to (R66, R70). -/
  switchedAt : Option Nat := none
  inTransition : Bool := false
  /-- log2 of the lengths in force (R34). -/
  spanLog : Nat := 11
  slotLog : Nat := 5
  /-- 0 none since the start, 1 loading or pending, 2 refused, 3 cancelled, 4 activated (R69). -/
  lastLoad : Nat := 0
  deriving DecidableEq, Repr, Inhabited

/-! ### Routing and crossbar (02, 03) -/

/-- An open grain inside the device: at its input, or released toward its egress. -/
structure OpenGrain where
  grain : Grain := {}
  inPort : Nat := 0
  outPort : Nat := 0
  /-- The tile that holds it until it leaves (R47, R48); none: it waits at its input. -/
  tile : Option Nat := none
  deriving DecidableEq, Repr, Inhabited

/-- An entry of an output's resequencing buffer (R49), with the tile that holds its grain until it is released. -/
structure ReseqEntry where
  inPort : Nat := 0
  vc : Nat := 0
  /-- The tile that holds the grain, and the index of the slot in which it entered. -/
  tile : Nat := 0
  slot : Nat := 0
  /-- none: the marker of a discarded grain. -/
  grain : Option Grain := none
  deriving DecidableEq, Repr, Inhabited

/-- A scheduled grain on its way to an egress gate, with its claim (R45, R62). -/
structure Claim where
  grain : Grain := {}
  port : Nat := 0
  part : Nat := 0
  span : Nat := 0
  offset : Nat := 0
  /-- Grain times of its lateness that an upstream push or a late input gave it (R73). -/
  inherited : Nat := 0
  /-- It is output of the board. -/
  board : Bool := false
  /-- While it waits as a pushed grain: the first span in which it may go, and the quarter whose overrun began its push. -/
  wait : Nat := 0
  quarter : Option Nat := none
  deriving DecidableEq, Repr, Inhabited

/-- The last grain time used by a partition's scheduled grains at an egress, and the backlog of its push, with the quarter
whose overrun began it and whether it has been reported as sustained (R71, R75). -/
structure Push where
  span : Nat := 0
  offset : Nat := 0
  backlog : Nat := 0
  quarter : Option Nat := none
  sustained : Bool := false
  deriving DecidableEq, Repr, Inhabited

/-- The progress of serve_open at an egress (R286): the slot, the place in its first loop and the grants used there, the
grains sent in the slot, the partition served last, and the channel served last of each partition. -/
structure Serve where
  slot : Nat := 0
  pos : Nat := 0
  used : Nat := 0
  sent : Nat := 0
  last : Nat := 63
  turns : Tab Nat := []
  deriving DecidableEq, Repr, Inhabited

structure Xbar where
  routes : Tab Nat := []
  groups : Tab Nat := []
  pendingRoutes : Option (List Nat × List Nat) := none
  waiting : List OpenGrain := []
  reseq : Tab (List ReseqEntry) := []
  ready : List OpenGrain := []
  claims : List Claim := []
  pushes : Tab Push := []
  /-- Pushed grains that wait for a grain time: a reserved one of their partition, or an open one in a span that has none
  (R72). -/
  pushOpen : List Claim := []
  /-- Grain time of the last departure that lowered a partition's count for an output below the limit, keyed 64 times output
  plus partition (R47); and of the last refusal for want of room that a quarter has counted (R48). -/
  madeRoom : Tab Nat := []
  roomFull : Tab Nat := []
  serve : Tab Serve := []
  /-- STORE_COMBINE and ATOMIC_COMBINE in force, until the next slot boundary (R214). -/
  combStore : Nat := 1
  combAtomic : Nat := 1
  /-- RED average per tile, partition and output: numerator and binary exponent (R117, log 14). -/
  redAvg : Tab (Nat × Nat) := []
  /-- Committed and peak tokens per partition, in grains times slots per span (R116). -/
  buckets : Tab (Nat × Nat) := []
  deriving DecidableEq, Repr, Inhabited

/-! ### Host interface and dictionary (11, 12) -/

structure StepToken where
  serial : Nat := 0
  idx : Nat := 0
  sub : Nat := 0
  /-- Partition of the VC6 request that holds it (R394). -/
  part : Nat := 0
  done : Option Nat := none
  /-- Ring queries that wait: function and command id (R360). -/
  waiters : List (Nat × Nat) := []
  deriving DecidableEq, Repr, Inhabited

structure TokenTable where
  next : Nat := 0
  held : List StepToken := []
  deriving DecidableEq, Repr, Inhabited

/-- A stepped operation that runs (R359). -/
structure StepOp where
  fn : Nat := 0
  serial : Nat := 0
  idx : Nat := 0
  sub : Nat := 0
  /-- Data the operation holds: the value written. -/
  value : Nat := 0
  /-- Progress: records, bytes or entries done. -/
  pos : Nat := 0
  /-- First failing status met so far, and its place. -/
  status : Nat := 0
  place : Nat := 0
  /-- Host address that an export copies to. -/
  addr : Nat := 0
  route : Route := .pf
  /-- Bytes gathered so far. -/
  data : Bytes := []
  deriving DecidableEq, Repr, Inhabited

/-- A fetched ring command (Table 11.6). -/
structure RingCmd where
  bits : BitVec 512 := 0
  /-- Its completion has been posted (the second of an ADMIT may still be owed). -/
  done : Bool := false
  /-- The second entry of an ADMIT is owed (R355). -/
  second : Bool := false
  started : Bool := false
  deriving DecidableEq, Repr, Inhabited

structure FnState where
  sqBase : Nat := 0
  cqBase : Nat := 0
  sqSize : Nat := 0
  cqSize : Nat := 0
  pasid : Nat := 0
  enable : Bool := false
  /-- 0 disabled, 1 running, 2 draining, 3 error. -/
  state : Nat := 0
  error : Nat := 0
  sqHead : Nat := 0
  sqTail : Nat := 0
  cqHead : Nat := 0
  cqTail : Nat := 0
  /-- CQ entries written and not yet freed (R355). -/
  cqUsed : Nat := 0
  phase : Bool := true
  cmds : List RingCmd := []
  /-- Commands fetched before a reset: they take effect and complete nowhere (R350). -/
  orphans : List RingCmd := []
  /-- Completions held back after a ring error: (command id, status, result, detail, second) (R354). -/
  posts : List (Nat × Nat × Nat × Nat × Bool) := []
  eventVector : Nat := 0
  winErr : Nat := 0
  winErrOff : Nat := 0
  aps : Tab (BitVec 512) := []
  /-- The first failure of a window write since the last fence read, and the reads of WINDOW_FENCE that wait, each with the
  numbers of the window writes that it still waits for (R366). -/
  fenceStatus : Nat := 0
  fences : List (List Nat) := []
  /-- The BAR2 window (Table 11.10). -/
  wIndex : Nat := 0
  wSub : Nat := 0
  wLength : Nat := 0
  wState : Nat := 0
  wStatus : Nat := 0
  wToken : Nat := 0
  wData : Bytes := []
  /-- Vectors that the host has unmasked, and the pending bits (R362). -/
  unmasked : List Nat := []
  pendingVec : List Nat := []
  deriving DecidableEq, Repr, Inhabited

structure HostIf where
  up : Bool := false
  /-- Light at the two laser inputs of the host engine; the engine has been stopped by its temperature (R32, R472). -/
  laser0 : Bool := true
  laser1 : Bool := true
  hot : Bool := false
  rate : Nat := 0
  width : Nat := 0
  numVfs : Nat := 0
  fns : Tab FnState := []
  /-- Ring whose turn comes next (R356). -/
  turn : Nat := 0
  deriving DecidableEq, Repr, Inhabited

/-- An answer kept for a requester of the management port (R390). -/
structure Kept where
  who : Asker := default
  seq : Nat := 0
  datagram : Bytes := []
  deriving DecidableEq, Repr, Inhabited

/-- A value staged in parts (R389). -/
structure Staging where
  who : Asker := default
  idx : Nat := 0
  sub : Nat := 0
  total : Nat := 0
  data : Bytes := []
  deriving DecidableEq, Repr, Inhabited

structure Mgmt where
  /-- 0 no light, 1 no sync, 2 auto-negotiating, 3 up. -/
  port : Nat := 0
  kept : List Kept := []
  staging : List Staging := []
  /-- Highest SEQUENCE accepted under the current key (R392). -/
  highSeq : Option Nat := none
  deriving DecidableEq, Repr, Inhabited

/-! ### Determinism and audit (16) -/

/-- A journal entry (Table 16.6). -/
structure JEntry where
  digest : Nat := 0
  span : Nat := 0
  seq : Nat := 0
  reference : Nat := 0
  opTag : Nat := 0
  layerTag : Nat := 0
  status : Nat := 0
  count : Nat := 0
  ep : Nat := 0
  part : Nat := 0
  ctx : Nat := 0
  primitive : Nat := 0
  kind : Nat := 0
  flags : Nat := 0
  /-- Its chain value, which is no part of its 128 octets (R489). -/
  chain : Nat := 0
  deriving DecidableEq, Repr, Inhabited

structure Journal where
  entries : List JEntry := []
  next : Nat := 0
  head : Nat := 0
  lost : Nat := 0
  /-- Entries lost since the last entry written, and the span of the first (R491). -/
  gap : Nat := 0
  gapSpan : Nat := 0
  /-- The 90 % report has been raised and the fill has not fallen below 80 % since. -/
  filling : Bool := false
  /-- Partner's entries (R502). -/
  partner : List (Nat × Bytes) := []
  deriving DecidableEq, Repr, Inhabited

/-- An exception record (Table 16.4). -/
structure ExcRec where
  span : Nat := 0
  kind : Nat := 0
  port : Nat := 63
  part : Nat := 127
  slot : Nat := 0
  count : Nat := 0
  deriving DecidableEq, Repr, Inhabited

structure Exc where
  counts : Tab Nat := []
  log : List ExcRec := []
  lastSpan : Nat := 0
  /-- Counts at the last EXCEPTIONS entry, and the spans that must still pass before the next (Table 16.7). -/
  base : List Nat := [0, 0, 0, 0, 0, 0]
  wait : Nat := 0
  firstSpan : Option Nat := none
  /-- Counts at the last CLEAR: B140:01 to B140:06 show what has come since. -/
  cleared : Tab Nat := []
  deriving DecidableEq, Repr, Inhabited

/-- A slot digest of a mirrored context (R496), with what localises a divergence: the record's payloads in block order, its
images with the element that each belongs to, the elements per payload and the quarters (R497). -/
structure SlotDigest where
  ctx : Nat := 0
  span : Nat := 0
  slot : Nat := 0
  digest : Nat := 0
  quarters : Nat := 0
  per : Nat := 1
  payloads : List (BitVec 2048) := []
  images : List (Nat × Nat) := []
  deriving DecidableEq, Repr, Inhabited

structure LockStep where
  own : List SlotDigest := []
  /-- Partner digests with no own digest yet. -/
  theirs : List SlotDigest := []
  /-- Digests to be sent by side 1 at the span's end. -/
  toSend : List SlotDigest := []
  /-- The first divergence, whose place is being sought: this side's record, and the grain that differs once it is known. -/
  seeking : Option SlotDigest := none
  grainAt : Nat := 0xFFFF
  /-- Contexts of which some slot has diverged since the instance began. -/
  unequal : List Nat := []
  deriving DecidableEq, Repr, Inhabited

/-! ### Faults, pair, health (17) -/

/-- A fault event or the report it folds into (Table 17.2). -/
structure FaultRep where
  kind : Nat := 0
  subjType : Nat := 0
  subjId : Nat := 0
  closing : Bool := false
  status : Nat := 0
  detail : Nat := 0
  severity : Nat := 0
  part : Option Nat := none
  sustained : Bool := false
  resumed : Bool := false
  unaligned : Bool := false
  firstSpan : Nat := 0
  lastSpan : Nat := 0
  firstOffset : Nat := 0
  count : Nat := 1
  reporters : Nat := 0
  /-- As sent: REPORT_SEQ, SOURCE_EP and LOSS. -/
  seq : Nat := 0
  ep : Nat := 0
  loss : Bool := false
  deriving DecidableEq, Repr, Inhabited

structure Faults where
  windows : List FaultRep := []
  queue : List FaultRep := []
  /-- The token bucket, in thirds of a grain time: 15,625,000 of them are one report (R517). -/
  bucket : Nat := 500000000
  log : List FaultRep := []
  seq : Nat := 0
  loss : Bool := false
  /-- Events that wait while core T is stopped (Table 13.9). -/
  waiting : List FaultRep := []
  /-- Events of link engines whose port is DARK, with their link (R540). -/
  asleep : List (Nat × FaultRep) := []
  deriving DecidableEq, Repr, Inhabited

structure Pair where
  /-- 0 UNPAIRED, 1 PAIRED, 2 DETACHED, 3 SURVIVOR, 4 RESYNCING. -/
  state : Nat := 0
  /-- State from which the resync began. -/
  resumedFrom : Nat := 0
  /-- The partner's end-point ID, from CAPS (Table 9.8). -/
  partner : Nat := 0x3FFF
  /-- Spans of the last heartbeat on the pair link and on VC6. -/
  beatLink : Nat := 0
  beatVc6 : Nat := 0
  /-- Next CHUNK of the KEY, OWNER_DEAD and PARTITION streams. -/
  seq : Nat := 0
  /-- Journal entries below this SEQUENCE have been mirrored (R501). -/
  journalSent : Nat := 0
  /-- Partner table bytes and roster bytes gathered so far. -/
  tableBytes : Bytes := []
  rosterBytes : Bytes := []
  partnerTable : Option SpanTable := none
  /-- First span an owner has no usable link, per end-point (R507). -/
  lostSince : Tab Nat := []
  /-- Owners lost, to be marked at the next span boundary (R508). -/
  lostOwners : List Nat := []
  deriving DecidableEq, Repr, Inhabited

structure LinkHealth where
  score : Nat := 0xFF
  /-- 0 HEALTHY, 1 WATCH, 2 CANDIDATE, 3 health-fenced, 4 DEGRADED-WATCH. -/
  state : Nat := 0
  good : Nat := 0
  bad : Nat := 0
  /-- Evaluations since the latest margin probe ended, and its least margin (R519). -/
  probeAge : Nat := 1000
  probe : Nat := 0
  deriving DecidableEq, Repr, Inhabited

structure Health where
  links : Tab LinkHealth := []
  quarters : Tab LinkHealth := []
  nextLink : Nat := 0
  /-- The margin probe of that link has been asked for, its PRBS31 test not yet (R523). -/
  second : Bool := false
  deriving DecidableEq, Repr, Inhabited

/-! ### Tallies and traces (18) -/

structure TagSet where
  ctx : Nat := 0xFF
  filter : Nat := 0xFF
  counts : Tab Nat := []
  startSpan : Nat := 0
  opTag : Nat := 0
  layerTag : Nat := 0
  instNo : Nat := 0
  part : Nat := 0
  valid : Bool := false
  /-- The closed record as read (Table 18.6). -/
  closed : Nat := 0
  /-- Absolute edge (span) of the last switch. -/
  switchSpan : Option Nat := none
  /-- A BIND value waiting for the span boundary (R531). -/
  pendingBind : Option Nat := none
  deriving DecidableEq, Repr, Inhabited

structure TraceRec where
  num : Nat := 0
  bits : BitVec 256 := 0
  deriving DecidableEq, Repr, Inhabited

structure Tallies where
  counts : Tab Nat := []
  /-- THRESHOLD values in force, and writes that wait for the span boundary (R529). -/
  levels : Tab Nat := []
  pendingLevels : Tab Nat := []
  sets : Tab TagSet := []
  parts : Tab Nat := []
  light : Tab Nat := []
  /-- Grains sent and received per port in the running window (R530). -/
  winTx : Tab Nat := []
  winRx : Tab Nat := []
  winPending : Option Nat := none
  winLen : Nat := 1333334
  trace : List TraceRec := []
  written : Nat := 0
  oldest : Nat := 0
  lost : Nat := 0
  lossMark : Bool := false
  /-- Non-idle grains received per port since the last GRAIN_HEADER record (R541). -/
  headerCount : Tab Nat := []
  deriving DecidableEq, Repr, Inhabited

/-- A change named for a span: the state of Table 9.6 to enter (R317), or the lane to do without (R313). -/
structure Switch where
  span : Nat := 0
  what : Nat := 0
  deriving DecidableEq, Repr, Inhabited


/-! ### End-points: transport, home and requester (03, 06, 07) -/

/-- A kept copy of an unacknowledged grain (R106, R109, R110). -/
structure Copy where
  grain : Grain := {}
  firstSpan : Nat := 0
  lastSpan : Nat := 0
  resends : Nat := 0
  /-- Cause of the loss reported since the latest send, Table 9.5 (none: no NACK since). -/
  cause : Option Nat := none
  /-- The grain waits to leave: for its first send, or, where that is over, for a re-send (R109, R111). -/
  due : Bool := false
  first : Bool := false
  /-- Fences issued before the grain was queued, and its place in send order (R208, R210). -/
  epoch : Nat := 0
  seq : Nat := 0
  /-- The engine request it belongs to, and the octet of that request at which the grain's first chunk begins. -/
  req : Nat := 0
  pos : Int := 0
  deriving DecidableEq, Repr, Inhabited

/-- A source's channel toward one destination (R107 to R110). -/
structure SendChan where
  next : Nat := 0
  needReset : Bool := true
  copies : List Copy := []
  deriving DecidableEq, Repr, Inhabited

/-- A destination's channel from one source (R108). -/
structure RecvChan where
  /-- Expected TAG; none accepts only SEQ_RESET. -/
  expected : Option Nat := none
  /-- Span and TAG of the last NACK sent. -/
  nack : Option (Nat × Nat) := none
  deriving DecidableEq, Repr, Inhabited

/-- A grain formed and waiting for its window, its credit or a fence (R107, R208, R244). -/
structure Queued where
  grain : Grain := {}
  epoch : Nat := 0
  req : Nat := 0
  pos : Int := 0
  deriving DecidableEq, Repr, Inhabited

/-- The answer kept for an atomic (R108). -/
structure AtomRec where
  tag : Nat := 0
  old : Nat := 0
  noReturn : Bool := false
  status : Nat := 0
  deriving DecidableEq, Repr, Inhabited

/-- The answer kept for a VC6 request that is not of a reading kind (R568); none: it has no answer of its own. -/
structure Vc6Rec where
  tag : Nat := 0
  answer : Option (Nat × Bytes) := none
  /-- The answer is not yet formed. -/
  open_ : Bool := false
  deriving DecidableEq, Repr, Inhabited

/-- A write to a mirrored region that waits for the partner's acknowledgements (R222). -/
structure MirrorWait where
  answer : Grain := {}
  req : Grain := {}
  handle : Nat := 0
  /-- Numbers of the copies still unacknowledged. -/
  tags : List Nat := []
  deriving DecidableEq, Repr, Inhabited

/-- A content key slot (R446). -/
structure Seal where
  part : Nat := 0
  handle : Nat := 0
  sealId : Nat := 0
  key : Nat := 0
  deriving DecidableEq, Repr, Inhabited

/-- The home half of an end-point: its memory and the tables by which it serves it. -/
structure Home where
  /-- (home address, octet), addresses strictly rising. -/
  mem : List Host.Cell := []
  /-- Fills so far, the index of what unwritten octets read as (R333, log 9). -/
  gen : Nat := 0
  /-- Scrubs of each 2 MiB unit since (R344). -/
  unitGen : Tab Nat := []
  /-- Addresses of uncorrectable chunks (R336). -/
  bad : List Nat := []
  /-- 2 MiB units: partition tag, and those reported as failing (R330, R338). -/
  tags : Tab Nat := []
  /-- Chunks that have been uncorrectable since power-up (R338). -/
  everBad : List Nat := []
  unitReported : List Nat := []
  /-- Where the home table lies in the memory (R277); none: the device's own tile, whose records are the two tables below
  (R268, R277, R278). -/
  tableAt : Option Nat := none
  table : Tab (BitVec 128) := []
  partners : Tab (BitVec 128) := []
  /-- VC4 stores of the running slot, in presentation order (R203). -/
  group : List (Grain × MemEv) := []
  /-- Requests held by a refresh (R339). -/
  held : List (Grain × MemEv) := []
  mirrorWait : List MirrorWait := []
  seals : List Seal := []
  /-- Address and length of the range that a region digest reads, and whether it has been written since the first read
  (R487). -/
  watch : Option (Nat × Nat) := none
  wrote : Bool := false
  deriving DecidableEq, Repr, Inhabited

/-- A grain of a transfer that failed. -/
structure FailRec where
  pos : Int := 0
  off : Nat := 0
  len : Nat := 0
  handle : Nat := 0
  dst : Nat := 0
  status : Nat := 0
  /-- Span in which it failed (Table 7.8). -/
  span : Nat := 0
  deriving DecidableEq, Repr, Inhabited

/-- A transfer in progress: its request, grains outstanding, data gathered and lowest failure. -/
structure Transfer where
  req : EngReq := {}
  /-- Function whose host window or ring issued it. -/
  fn : Nat := 0
  left : Nat := 0
  /-- (offset, data) of the grains answered. -/
  got : List (Int × Bytes) := []
  fails : List FailRec := []
  /-- Old value an atomic returned. -/
  old : Nat := 0
  /-- The engine's part is over: answered. -/
  answered : Bool := false
  deriving DecidableEq, Repr, Inhabited

/-- A fence: its engine's number, the epoch that it begins, and the engine context that issued it; first failure that it
covers, by place in send order (R208 to R210). -/
structure Fence where
  id : Nat := 0
  no : Nat := 0
  remote : Bool := false
  pasid : Nat := 0
  first : Option (Nat × Nat) := none
  deriving DecidableEq, Repr, Inhabited

/-- A run of the address-translation cache (R237), most recently used first. -/
structure AtcRun where
  pasid : Nat := 0
  va : Nat := 0
  pages : Nat := 0
  sizeLog : Nat := 12
  tray : Nat := 0
  r : Bool := false
  w : Bool := false
  /-- Context table entry under which it was filled (R237). -/
  ctx : BitVec 64 := 0
  deriving DecidableEq, Repr, Inhabited

/-- An outstanding ATS Translation Request (R238). -/
structure AtsReq where
  pasid : Nat := 0
  va : Nat := 0
  sizeLog : Nat := 12
  write : Bool := false
  /-- Ranges invalidated since it was sent: address and length (R241). -/
  cut : List (Nat × Nat) := []
  deriving DecidableEq, Repr, Inhabited

/-- An engine request that waits for a translation, and the fence epoch in which it was made (R209). -/
structure Waiting where
  req : EngReq := {}
  epoch : Nat := 0
  deriving DecidableEq, Repr, Inhabited

/-- A request that failed since the latest fence: epoch and place in send order, the grain, its status (R210). -/
structure Failed where
  epoch : Nat := 0
  seq : Nat := 0
  grain : Grain := {}
  status : Nat := 0
  deriving DecidableEq, Repr, Inhabited

/-- An Invalidate Request that drains (R241): its tag and the transfers it waits for. -/
structure Inval where
  itag : Nat := 0
  reqs : List Nat := []
  deriving DecidableEq, Repr, Inhabited

/-- A RESULT or DATA grain that a member lacks: what names it, the NACKs sent for it and the span of the last. -/
structure Lack where
  sender : Nat := 0
  block : Nat := 0
  nacks : Nat := 0
  span : Nat := 0
  deriving DecidableEq, Repr, Inhabited

/-- A collective instance that a member's end-point holds (R254). -/
structure MemberInst where
  desc : BitVec 1024 := 0
  fingerprint : Nat := 0
  /-- Its member index, and the number of members. -/
  member : Nat := 0
  members : Nat := 1
  /-- The elements to send, packed (R129). -/
  data : Bytes := []
  /-- Destination region. -/
  handle : Nat := 0
  mirrored : Bool := false
  /-- Owned slots used so far, and grains that wait for the next one: per side where mirrored (R495), else under 0. -/
  slots : Tab Nat := []
  queues : Tab (List Grain) := []
  /-- Grains sent, kept for re-sends (R112, R185, R244). -/
  copies : List Grain := []
  /-- (sender, block) of the RESULT and DATA grains written; what is missing. -/
  got : List (Nat × Nat) := []
  lacks : List Lack := []
  /-- End-points from which the grains of each sender have come (R105), and whether an ALL_GATHER's own shard is written (R256). -/
  srcs : Tab Nat := []
  ownDone : Bool := false
  /-- The OK token has been processed; the status taken; the span in which a failure token was processed (R182). -/
  okHeld : Bool := false
  status : Option Nat := none
  stopAt : Option Nat := none
  deriving DecidableEq, Repr, Inhabited

/-- An end-point schedule (Table 7.5). -/
structure EpSched where
  serial : Nat := 0
  spanLog : Nat := 0
  slotLog : Nat := 0
  maps : List SlotMap := []
  /-- (slot, side, partition, kind, context). -/
  sends : List (Nat × Nat × Nat × Nat × Nat) := []
  deriving DecidableEq, Repr, Inhabited

/-- An end-point in full: the device's own (R21), or an accelerator's Faette. -/
structure EndPoint where
  /-- The Faette's own ID, the end-point IDs of its switches, the sides that are up and its parent side (R230, R232); the
  internal end-point's ID is 1000:09. -/
  id : Nat := 0x3FFF
  switches : List Nat := []
  parent : Nat := 0xFF
  sideUp : List Nat := []
  /-- Partition that the end-point's host software has named for management (R395). -/
  mgmtPart : Option Nat := none
  /-- The end-point's link 0 is its side 1 (R229, R230), and its links that are fenced (R230). -/
  cross : Bool := false
  fencedLinks : List Nat := []
  /-- The minor link version of each side that is up, and that under which grains and tokens are formed (R231). -/
  minors : Tab Nat := []
  minor : Nat := 0
  /-- The seven-lane switch named for a side's transmit direction, the lane that it is without, and the span that its last DOWN_ACK
  named (R313). -/
  laneTx : Tab Switch := []
  lostTx : Tab Nat := []
  laneNamed : Tab Nat := []
  /-- Side on which the latest grain came in; open grains whose buffer each side has freed, keyed 8 times side plus VC (R258). -/
  rxSide : Nat := 0
  freedHere : Tab Nat := []
  /-- ALIGN_STATE, the last ALIGNED parent marker (its span, and its local time in grain times from span 0), and whether
  the next marker of a new parent is to be checked (R232, R233). -/
  align : Nat := 0
  mark : Option (Nat × Nat) := none
  newParent : Bool := false
  regs : Tab Nat := []
  span : Nat := 0
  send : Tab SendChan := []
  recv : Tab RecvChan := []
  queue : List Queued := []
  epoch : Nat := 0
  seq : Nat := 0
  nextReq : Nat := 0
  /-- Copies of VC3 grains and VC6 requests that have ended in the running command: number and status. -/
  ended : List (Nat × Nat) := []
  atomics : Tab (List AtomRec) := []
  vc6 : Tab (List Vc6Rec) := []
  home : Home := {}
  transfers : List Transfer := []
  fences : List Fence := []
  /-- Copy store: (destination, handle, chunk) and data (R248). -/
  store : List (Nat × Nat × Nat × Bytes) := []
  ctxCache : Tab (BitVec 64) := []
  bindCache : Tab (BitVec 64) := []
  atc : List AtcRun := []
  ats : List AtsReq := []
  /-- Requests that wait for a translation. -/
  waitTrans : List Waiting := []
  /-- Requests that have failed since the latest fence, and since the fences before it that still run (R210). -/
  failed : List Failed := []
  /-- Grains that passed the hop tag and failed CHECK here (R104). -/
  checkFails : Nat := 0
  /-- Time in ns of the latest TARGET_UNREACHABLE report of a destination, by its end-point ID (17 R515). -/
  lostAt : Tab Nat := []
  invals : List Inval := []
  insts : List MemberInst := []
  vc4 : List Queued := []
  epochs : Tab Bool := []
  waitBarrier : List (Nat × Nat × Nat) := []
  /-- ARRIVE tokens discarded (Table 7.7). -/
  arrivesDropped : Nat := 0
  /-- What each link's CAPS reported: assigned ID, the switch's own ID and its partner's, the credit of the five open channels
  and the minor version (R230, R231). -/
  caps : Tab (List Nat) := []
  /-- Open grains sent, latest FREED and initial credit, keyed 8 times side plus VC, and grains that wait for credit with their
  side (R258). -/
  credSent : Tab Nat := []
  credFreed : Tab Nat := []
  credInitial : Tab Nat := []
  outbox : List (Nat × Grain) := []
  schedActive : Option EpSched := none
  schedPending : Option EpSched := none
  schedAt : Nat := 0
  schedLast : Nat := 0
  /-- Reserved sends are refused until the next schedule activation (R233). -/
  refuse : Bool := false
  deriving DecidableEq, Repr, Inhabited

/-! ### Links and ports (09) -/

/-- An exchange message that waits for its answer (R307). -/
structure ExMsg where
  type : Nat := 0
  body : Bytes := []
  sends : Nat := 1
  deriving DecidableEq, Repr, Inhabited

structure PortState where
  /-- Code of Table 9.6, and what the receive direction takes: a code of the same table. -/
  state : Nat := 0
  rx : Nat := 0
  /-- Data lane lost on transmit and on receive (R313). -/
  lostTx : Option Nat := none
  lostRx : Option Nat := none
  /-- Credits per VC: grains sent, latest FREED received, the peer's initial credit, grains freed here (R301). -/
  sent : Tab Nat := []
  freed : Tab Nat := []
  initial : Tab Nat := []
  freedHere : Tab Nat := []
  /-- Grain counters of the two directions (R95). -/
  txCount : Nat := 0
  rxCount : Nat := 0
  /-- Non-idle grains sent and received in the running span. -/
  txSpan : Nat := 0
  rxSpan : Nat := 0
  /-- Lane whose DOWN has been sent and not yet answered. -/
  downWait : Option Nat := none
  /-- Seven-lane switches named for the transmit and the receive direction (R313). -/
  laneTx : Option Switch := none
  laneRx : Option Switch := none
  /-- SWITCH_SPAN of the last DOWN_ACK sent. -/
  laneNamed : Option Nat := none
  deriving DecidableEq, Repr, Inhabited

/-- A running or requested test of a link (R320 to R323). -/
structure LinkTest where
  kind : Nat := 0
  mask : Nat := 0
  spans : Nat := 0
  start : Nat := 0
  /-- This device asked for it; and the peer has agreed. -/
  mine : Bool := true
  agreed : Bool := false
  /-- Core F asked for it (R523). -/
  periodic : Bool := false
  /-- Maintenance grains sent since it started, and the register of their pattern; none before the first (R93, R320). -/
  count : Nat := 0
  lfsr : Option Nat := none
  deriving DecidableEq, Repr, Inhabited

/-- A link session's keys, with the salts of half A and of half B (R430, R433). -/
structure Session where
  identity : Nat := 0
  measurement : Nat := 0
  keyTx : Nat := 0
  keyRx : Nat := 0
  saltTx : Nat := 0
  saltRx : Nat := 0
  saltTxB : Nat := 0
  saltRxB : Nat := 0
  deriving DecidableEq, Repr, Inhabited

/-- A key agreement that runs (R431 to R435). -/
structure Agreement where
  rekey : Bool := false
  /-- The draw that names this end's ephemeral key pair (log 11). -/
  draw : Nat := 0
  ownOffer : Bytes := []
  peerOffer : Bytes := []
  ownResponse : Bytes := []
  peerResponse : Bytes := []
  /-- The secrets that this end and that the peer encapsulated. -/
  ownSecret : Nat := 0
  peerSecret : Nat := 0
  keys : Option Session := none
  transcript : Bytes := []
  confirmKey : Bytes := []
  confirmSent : Bool := false
  confirmGot : Bool := false
  /-- Spans at which the transmit and the receive direction switch keys (R435). -/
  txSpan : Option Nat := none
  rxSpan : Option Nat := none
  deriving DecidableEq, Repr, Inhabited

structure LinkState where
  light : Bool := false
  /-- Light at the two laser inputs. -/
  laser0 : Bool := true
  laser1 : Bool := true
  /-- The optical engine has been stopped by its case temperature (R472). -/
  hot : Bool := false
  laneC : Bool := false
  /-- Consecutive valid beacons (R304). -/
  beacons : Nat := 0
  /-- Lanes that passed here and at the peer; no entry before TRAINED (R305). -/
  myLanes : Option Nat := none
  peerLanes : Option Nat := none
  /-- Exchange messages sent in this bring-up, with their bodies, and TYPEs received (R307). -/
  said : List (Nat × Bytes) := []
  heard : List Nat := []
  /-- Exchange messages that wait for an answer. -/
  waiting : List ExMsg := []
  /-- Split fixed at the bring-up in force (R312); none before one. -/
  split : Option Bool := none
  /-- The peer's INITIAL_CREDIT for VC0, 1, 2, 3 and 6. -/
  peerCredit : List Nat := []
  /-- The peer is a switch, its OWN_EP, and the ID by which it is known (3000+n:1A). -/
  peerSwitch : Bool := false
  peerOwn : Nat := 0x3FFF
  peerEp : Nat := 0x3FFF
  /-- Negotiated minor version (R309). -/
  minor : Nat := 0
  tests : List LinkTest := []
  /-- This device's test that ended last. -/
  ended : Option LinkTest := none
  session : Option Session := none
  agree : Option Agreement := none
  /-- A rekey has failed and is to be started again (R432). -/
  retry : Bool := false
  /-- Changes of state named by MODE for the transmit and the receive direction (R317). -/
  txSwitch : Option Switch := none
  rxSwitch : Option Switch := none
  /-- Registers of the data lanes' scramblers, by lane, from LOCK on, sending and receiving (R293). -/
  scramTx : Tab Nat := []
  scramRx : Tab Nat := []
  deriving DecidableEq, Repr, Inhabited

/-- The links whose lane C stands at positive running disparity, rising: 0 to 23, and 64 and 65 the links of an accelerator's
end-point (R297). -/
structure Disparity where
  tx : List Nat := []
  rx : List Nat := []
  deriving DecidableEq, Repr, Inhabited

/-! ### Keys and partitions (08) -/

/-- One key command that the primary has to carry out (R271 to R276). -/
structure KeyJob where
  /-- 1 REGISTER, 2 REVOKE, 3 MARK_DEAD, 4 READ. -/
  kind : Nat := 0
  handle : Nat := 0
  ent : BitVec 128 := 0
  par : BitVec 128 := 0
  /-- 0 KEY_ENTRY, 1 key image, 2 close of a partition, 3 owner loss. -/
  purpose : Nat := 0
  /-- 0 not begun, 1 revoke at the partner, 2 revoke at the home, 3 register at the home, 4 register at the partner,
  5 mark-dead at the partner, 6 read of the home. -/
  phase : Nat := 0
  sentSpan : Nat := 0
  /-- Number of the grain whose acknowledgement it awaits. -/
  no : Nat := 0
  /-- The home's partner record, for a READ. -/
  found : BitVec 128 := 0
  /-- The status that has come while core F was stopped: the step that takes it waits for the core (Table 13.9). -/
  reply : Option Nat := none
  /-- Where its outcome is told. -/
  route : Route := .pf
  deriving DecidableEq, Repr, Inhabited

structure Keys where
  /-- The Region Key Table: entry of each handle, all zero at power-up (R263). -/
  table : Tab (BitVec 128) := []
  now : Option KeyJob := none
  todo : List KeyJob := []
  /-- Partitions whose close runs (R285). -/
  closing : List Nat := []
  /-- Identity of each open partition's memory key: the draw that made it (R332). -/
  memKey : Tab Nat := []
  deviceKey : Nat := 0
  deriving DecidableEq, Repr, Inhabited

/-! ### Security (14) -/

/-- A pending key release (R446). -/
structure Release where
  handle : Nat := 0
  sealId : Nat := 0
  part : Nat := 0
  /-- The draw that names its ephemeral key pair, the encapsulation key and the KIND 2 report. -/
  draw : Nat := 0
  pub : Nat := 0
  report : Bytes := []
  /-- Time of the request, in ns of State.ns. -/
  at_ : Nat := 0
  deriving DecidableEq, Repr, Inhabited

structure Sec where
  release : Option Release := none
  /-- The management key, kept in the key store (R447). -/
  mgmtKey : Option Nat := none
  /-- Reports signed since the start (Table 14.4). -/
  reports : Nat := 0
  deriving DecidableEq, Repr, Inhabited

/-! ### Refresh and patrol (10) -/

structure Refresh where
  /-- A refresh runs, and a refresh window. -/
  running : Bool := false
  window : Bool := false
  /-- Hot stacks (R341) and each stack's patrol address; LPDDR5X halves are 4 and 5. -/
  hot : List Nat := []
  patrol : Tab Nat := []
  /-- Stacks that have completed the running patrol pass. -/
  passed : List Nat := []
  deriving DecidableEq, Repr, Inhabited

/-! ### Collectives and the Counting Board (04, 05) -/

/-- A roster's member (Table 5.5). -/
structure RosterMember where
  ep : Nat := 0
  leaf : Nat := 0
  handle : Nat := 0
  key : Nat := 0
  ctxLocal : Nat := 0
  deriving DecidableEq, Repr, Inhabited

/-- A loaded roster (R165): its devices as (end-point ID, parent), and its image for the partner (R501). -/
structure Roster where
  digest : Nat := 0
  part : Nat := 0
  devices : List (Nat × Nat) := []
  members : List RosterMember := []
  image : Bytes := []
  deriving DecidableEq, Repr, Inhabited

/-- The extreme addend seen so far (R134). -/
inductive Extreme where
  | negInf
  | fin (v : Int)
  | posInf
  deriving DecidableEq, Repr, Inhabited

/-- A bead, or a gang of eight: its 320-bit words, the lowest first, in two's complement over all of them; the sticky flags P
(bit 0), N (bit 1) and Q (bit 2); whether a first addend has come, and for MIN and MAX the extreme that it has left, which may
be infinite (R123, R134). -/
structure Bead where
  words : List (BitVec 320) := []
  flags : BitVec 3 := 0
  started : Bool := false
  ext : Option Extreme := none
  deriving DecidableEq, Repr, Inhabited

/-- A queued bead image (R140, R141). -/
structure BeadImage where
  block : Nat := 0
  element : Nat := 0
  segment : Nat := 0
  v : Nat := 0
  spilled : Bool := false
  /-- The port on which its element's block leaves; 63 for none. -/
  port : Nat := 63
  deriving DecidableEq, Repr, Inhabited

/-- A grain that a block waits for: kind 0 a member's contribution, 1 a child's carry or long carry grain, or in long mode
its images; the NACKs sent for it (R112). -/
structure Missing where
  kind : Nat := 0
  sender : Nat := 0
  block : Nat := 0
  nacks : Nat := 0
  deriving DecidableEq, Repr, Inhabited

/-- What a LEVEL or ROOT record that has handled a chunk keeps: its span and record, the images it queued, for the slot
digest (R496), and whether the digest has been formed. -/
structure Begun where
  span : Nat := 0
  rec_ : BoardRec := {}
  chunk : Nat := 0
  images : List BeadImage := []
  digested : Bool := false
  deriving DecidableEq, Repr, Inhabited

/-- A board slot of a context whose images have not all been emitted yet: its span and record, the chunks that a LEVEL record
has handled, and whether it is the beginning of an ESCAPE record's slot (R141 to R144). -/
structure Work where
  span : Nat := 0
  rec_ : BoardRec := {}
  chunks : List Nat := []
  begins : Bool := false
  deriving DecidableEq, Repr, Inhabited

/-- A board context and the instance that it holds (R162 to R187). -/
structure Context where
  /-- 0 FREE, 1 PREPARED, 2 RESIDENT, 3 QUIESCING. -/
  state : Nat := 0
  desc : BitVec 1024 := 0
  fingerprint : Nat := 0
  windows : Nat := 0
  /-- The bead windows that it claims, rising; none while it is staged (R123, R126). -/
  claimed : List Nat := []
  roster : Roster := {}
  /-- Index of this device in the roster's list. -/
  me : Nat := 0
  /-- The anchor's part of the admission: the ADMIT, or the ring command (function, id) that issued it, to be answered;
  devices that have not yet answered PREPARE, with the number of the request; devices that have. -/
  admitMsg : Option Msg := none
  ring : Option (Nat × Nat) := none
  awaiting : List (Nat × Nat) := []
  prepared : List Nat := []
  /-- First end token processed: status and subject; its span; the ports on which it was forwarded. -/
  ended : Option (Nat × Nat) := none
  endSpan : Nat := 0
  tokens : List Nat := []
  /-- The completion record is still owed; refusal's device and DETAIL; member indices of dissenters: collected at the
  anchor, and found here in the running span. -/
  recordOwed : Bool := false
  refusingEp : Nat := 0x3FFF
  detail : Nat := 0
  dissent : List Nat := []
  noted : List Nat := []
  /-- The chunks that board records have handled so far; one more than the highest chunk of which an input came before
  the slot `newSlot` (span and slot), and in that slot. -/
  begun : List Begun := []
  top : Nat := 0
  newSlot : Nat × Nat := (0, 0)
  newTop : Nat := 0
  beads : Tab Bead := []
  /-- (kind, sender, block) of grains added; (sender, element) of escaped words; (sender, element, segment) of images. -/
  got : List (Nat × Nat × Nat) := []
  escaped : List (Nat × Nat) := []
  images : List (Nat × Nat × Nat) := []
  missing : List Missing := []
  /-- Output blocks emitted. -/
  emitted : List Nat := []
  queues : Tab (List BeadImage) := []
  /-- Board slots whose part in the escape queues waits for late blocks, oldest first; the port and block of the first spilled
  image that an abort has discarded (R143). -/
  works : List Work := []
  left : Option (Nat × Nat) := none
  /-- Output grains kept for a re-send, with their port (R112, R185), and payloads of RESULT blocks (R483). -/
  copies : List (Nat × Grain) := []
  results : Tab (BitVec 2048) := []
  exhausted : Bool := false
  /-- The last RESULT grain has been emitted. -/
  finished : Bool := false
  deriving DecidableEq, Repr, Inhabited

/-- A barrier counter (R188, R189). -/
structure Barrier where
  mask : Nat := 0
  parent : Nat := 0x3F
  part : Nat := 0
  valid : Bool := false
  epoch : Bool := false
  arrived : List Nat := []
  broken : Bool := false
  deriving DecidableEq, Repr, Inhabited

/-- An ADMIT that was refused without holding its context: its completion record is owed (R173, R187). -/
structure Refused where
  desc : BitVec 1024 := 0
  fingerprint : Nat := 0
  status : Nat := 0
  detail : Nat := 0
  ep : Nat := 0
  span : Nat := 0
  ring : Option (Nat × Nat) := none
  deriving DecidableEq, Repr, Inhabited

/-- A completion record that waits for core A (Table 13.9). -/
structure Owed where
  desc : BitVec 1024 := 0
  record : Nat := 0
  status : Nat := 0
  endSpan : Nat := 0
  ring : Option (Nat × Nat) := none
  deriving DecidableEq, Repr, Inhabited

structure Board where
  refused : List Refused := []
  owed : List Owed := []
  ctxs : Tab Context := []
  rosters : Tab Roster := []
  barriers : Tab Barrier := []
  /-- Barrier entries that wait for the span boundary. -/
  pendingBarriers : Option (List (BitVec 128)) := none
  deriving DecidableEq, Repr, Inhabited

/-! ### Power, voltage and temperature (15) -/

/-- A learned phase record (Table 15.3): tag and the needs of LINK, MEMORY, BOARD and OPEN, in W. -/
structure Phaseset where
  tag : Nat := 0
  link : Nat := 0
  memory : Nat := 0
  board : Nat := 0
  open_ : Nat := 0
  deriving DecidableEq, Repr, Inhabited

structure Power where
  /-- VCORE setpoint in force, and the value toward which it moves, in mV. -/
  vcore : Nat := 750
  target : Nat := 750
  /-- Open acceptance and VBOARD that the cap has reached, and those of the throttle (R470); 850 is a VBOARD not lowered,
  which follows VCORE. -/
  acc : Nat := 256
  vb : Nat := 850
  accT : Nat := 256
  vbT : Nat := 850
  /-- Ceilings of R459. -/
  ceilA : Nat := 256
  ceilV : Nat := 850
  /-- A descent of R463 runs since State.ns = runAt; it has gone on for more than 2 ms. -/
  run : Bool := false
  runAt : Nat := 0
  /-- Direction of VBOARD now: 0 none, 1 down, 2 up; of the cap and of the throttle. -/
  dirV : Nat := 0
  dirT : Nat := 0
  /-- Consecutive samples at least 20 W below the cap; samples with every throttling sensor 5 °C below its limit. -/
  calm : Nat := 0
  cool : Nat := 0
  throttle : Bool := false
  /-- The throttle still lowers; it restores; the sensor that began it. -/
  low : Bool := false
  warm : Bool := false
  hotSensor : Nat := 0
  /-- Consecutive samples above 900 W, and the descent toward 900 W of R466. -/
  over900 : Nat := 0
  excursion : Bool := false
  /-- The cap written lies below the floor (R462). -/
  floorClamp : Bool := false
  /-- Last 160 samples, newest first, in units of 0.1 mW: the whole and FIXED, LINK, MEMORY, BOARD, OPEN. -/
  samples : List Nat := []
  classes : List (List Nat) := []
  /-- Temperatures of the 112 points in 1/16 °C; no entry is 0x8000. -/
  sensors : Tab Int := []
  /-- Latest reading of each rail (mV, 0.1 A) and consecutive samples without one (R452). -/
  rails : Tab (Nat × Nat) := []
  missing : Tab Nat := []
  /-- Voltage mode and VCORE_SET in effect (R467). -/
  mode : Nat := 0
  vset : Nat := 750
  /-- 7020:01 or 7020:02 has been written since the last control interval. -/
  written : Bool := false
  /-- Data of the last POWER trace record (Table 18.9). -/
  traced : Nat := 0
  /-- Overruns and least slack since the last control interval; intervals with slack of 16 or more. -/
  overruns : Nat := 0
  slackMin : Nat := 32
  goodRun : Nat := 0
  /-- Learned records, most recently used first (R460). -/
  learned : List Phaseset := []
  /-- Peak sample of LINK, MEMORY, BOARD and OPEN while a context was RESIDENT, per context. -/
  peaks : Tab (List Nat) := []
  /-- State of the board quarter domains: 0 off, 1 on, 2 switching. -/
  quarters : Tab Nat := []
  /-- A VBOARD lay below VCORE in the running span (7000:09). -/
  lowered : Bool := false
  /-- Engine cases at 75 °C or below since State.ns, per stopped engine (R472). -/
  stopped : List Nat := []
  deriving DecidableEq, Repr, Inhabited

/-! ### The whole state -/

structure State where
  /-- Commands waiting, first in first out. -/
  pending : List Sys2Proof.Instr := []
  /-- Everything the block has sent, oldest first (log 5). -/
  out : List Emit := []
  /-- Counter of the free values drawn so far: the model's own (log 6). -/
  fresh : Nat := 0
  /-- Nanoseconds counted by the power samples: the model's own clock (log 2). -/
  ns : Nat := 0
  boot : Boot := {}
  clock : Clock := {}
  sched : Sched := {}
  xbar : Xbar := {}
  host : HostIf := {}
  mgmt : Mgmt := {}
  /-- Volatile dictionary cells, keyed 256 times index plus sub-index; no entry is the default. -/
  regs : Tab Nat := []
  /-- Cells of the persistent store, same keys (R381). -/
  nv : Tab Nat := []
  /-- Write count of each persistent sub-index's blocks (R381). -/
  wear : Tab Nat := []
  /-- Step tokens per function: 0 to 64, 0x80 the management port, 0x81 VC6 (R358, R394). -/
  tokens : Tab TokenTable := []
  /-- Stepped operations that run, oldest first (R359). -/
  steps : List StepOp := []
  journal : Journal := {}
  exc : Exc := {}
  lock : LockStep := {}
  faults : Faults := {}
  pair : Pair := {}
  health : Health := {}
  tallies : Tallies := {}

  board : Board := {}
  keys : Keys := {}
  sec : Sec := {}
  refresh : Refresh := {}
  power : Power := {}
  ports : Tab PortState := []
  links : Tab LinkState := []
  disparity : Disparity := {}
  ep : EndPoint := {}
  /-- An accelerator's end-point (07). -/
  faette : EndPoint := { home := { tableAt := some 0x1000000 } }
  deriving DecidableEq, Repr, Inhabited

/-- The block right after reset: the package without power, PKG_RST_N low, every register at the value the spec
gives or the log names (log 4). -/
def State.reset : State := {}

end Sys2Proof.Machine
end

