-- ==== Sys2Proof/Machine/Arith.lean ====
section
/-! DEFINITION. The Counting Board's arithmetic: formats and the elements of a grain, exact decoding, carry words, bead
images, and rounding at the root (04 R128 to R137, R140, R148 to R155). -/

namespace Sys2Proof.Machine

/-! ### Formats (Table 4.2) -/

/-- What a format code is: an untyped word, an integer, a floating-point format, an MX format with a floating-point element,
or MXINT8. -/
inductive FmtKind where
  | bits
  | int
  | float
  | mx
  | mxint
  deriving DecidableEq, Repr, Inhabited

structure NumFmt where
  code : Nat
  kind : FmtKind
  /-- Element width in bits, and elements per grain. -/
  width : Nat
  per : Nat
  /-- Anchor. -/
  e0 : Int
  /-- Lane adds per handshake; 0 stands for 1/8. -/
  lanes : Nat
  /-- Partial sums travel as long carry words. -/
  long : Bool
  /-- Shape of the floating-point element. -/
  elem : Fmt := ⟨8, 23⟩
  /-- Precision, least normal exponent, largest finite value as n × 2^k, emax for the MX scale (Table 4.9). -/
  p : Nat := 0
  emin : Int := 0
  maxN : Nat := 0
  maxK : Int := 0
  emax : Int := 0
  /-- The format has infinities; its NaN code. -/
  infs : Bool := false
  nan : Nat := 0
  deriving DecidableEq, Repr, Inhabited

def numFmts : List NumFmt := [
  { code := 0x00, kind := .bits, width := 64, per := 32, e0 := 0, lanes := 1, long := false },
  { code := 0x01, kind := .int, width := 8, per := 256, e0 := 0, lanes := 2, long := false },
  { code := 0x02, kind := .int, width := 16, per := 128, e0 := 0, lanes := 1, long := false },
  { code := 0x03, kind := .int, width := 32, per := 64, e0 := 0, lanes := 1, long := false },
  { code := 0x04, kind := .int, width := 64, per := 32, e0 := 0, lanes := 1, long := true },
  { code := 0x10, kind := .float, width := 64, per := 32, e0 := -1074, lanes := 0, long := true, elem := ⟨11, 52⟩, p := 53,
    emin := -1022, maxN := 2 ^ 53 - 1, maxK := 971, infs := true, nan := 0x7FF8000000000000 },
  { code := 0x11, kind := .float, width := 32, per := 64, e0 := -149, lanes := 1, long := false, elem := ⟨8, 23⟩, p := 24,
    emin := -126, maxN := 2 ^ 24 - 1, maxK := 104, infs := true, nan := 0x7FC00000 },
  { code := 0x12, kind := .float, width := 16, per := 128, e0 := -133, lanes := 1, long := false, elem := ⟨8, 7⟩, p := 8,
    emin := -126, maxN := 255, maxK := 120, infs := true, nan := 0x7FC0 },
  { code := 0x13, kind := .float, width := 16, per := 128, e0 := -24, lanes := 1, long := false, elem := ⟨5, 10⟩, p := 11,
    emin := -14, maxN := 2047, maxK := 5, infs := true, nan := 0x7E00 },
  { code := 0x14, kind := .float, width := 8, per := 256, e0 := -9, lanes := 2, long := false, elem := ⟨4, 3⟩, p := 4,
    emin := -6, maxN := 14, maxK := 5, nan := 0x7F },
  { code := 0x15, kind := .float, width := 8, per := 256, e0 := -16, lanes := 2, long := false, elem := ⟨5, 2⟩, p := 3,
    emin := -14, maxN := 7, maxK := 13, infs := true, nan := 0x7E },
  { code := 0x20, kind := .mx, width := 8, per := 224, e0 := -136, lanes := 2, long := false, elem := ⟨4, 3⟩, p := 4,
    emin := -6, maxN := 14, maxK := 5, emax := 8 },
  { code := 0x21, kind := .mx, width := 8, per := 224, e0 := -143, lanes := 2, long := false, elem := ⟨5, 2⟩, p := 3,
    emin := -14, maxN := 7, maxK := 13, emax := 15 },
  { code := 0x22, kind := .mx, width := 6, per := 320, e0 := -131, lanes := 4, long := false, elem := ⟨3, 2⟩, p := 3,
    emin := -2, maxN := 7, maxK := 2, emax := 4 },
  { code := 0x23, kind := .mx, width := 6, per := 320, e0 := -130, lanes := 4, long := false, elem := ⟨2, 3⟩, p := 4,
    emin := 0, maxN := 15, maxK := -1, emax := 2 },
  { code := 0x24, kind := .mx, width := 4, per := 480, e0 := -128, lanes := 4, long := false, elem := ⟨2, 1⟩, p := 2,
    emin := 0, maxN := 3, maxK := 1, emax := 2 },
  { code := 0x25, kind := .mxint, width := 8, per := 224, e0 := -133, lanes := 2, long := false, emax := 0 }]

def fmtOf (code : Nat) : Option NumFmt := numFmts.find? fun f => f.code == code

def NumFmt.isMx (f : NumFmt) : Bool := f.kind == .mx || f.kind == .mxint

/-- Octets of a group of 32 MX elements: the scale and the elements. -/
def NumFmt.groupBytes (f : NumFmt) : Nat := 1 + 4 * f.width

/-- Windows that an element takes (R126). -/
def NumFmt.gang (f : NumFmt) : Nat := if f.code = 0x10 then 8 else 1

/-- Elements of a CARRY or LONG_CARRY grain (R137). -/
def NumFmt.words (f : NumFmt) : Nat := if f.long then 16 else 32

/-! ### Elements of a payload (R129) -/

/-- Element k of a payload: its code, and its group's scale. -/
def NumFmt.element (f : NumFmt) (payload k : Nat) : Nat × Nat :=
  if f.isMx then
    let base := 8 * (f.groupBytes * (k / 32))
    (fld payload (base + 8 + f.width * (k % 32) + f.width - 1) (base + 8 + f.width * (k % 32)), fld payload (base + 7) base)
  else (fld payload (f.width * k + f.width - 1) (f.width * k), 0)

/-- Put codes at their places from element 0 on: without a scale. -/
def packPlain (width : Nat) : List Nat → Nat
  | [] => 0
  | x :: l => x % 2 ^ width + 2 ^ width * packPlain width l

/-! ### Decoding (R130, R132) -/

/-- Sticky flags P, N and Q, and a value in units of 2^e0. -/
abbrev Addend := Nat × Int

def flagP : Nat := 1
def flagN : Nat := 2
def flagQ : Nat := 4

/-- to_int of an input element. -/
def NumFmt.toInt (f : NumFmt) (code scale : Nat) : Addend :=
  match f.kind with
  | .bits => (0, (code : Int))
  | .int => (0, toSigned f.width code)
  | .float =>
    if f.infs then
      if f.elem.isNan code then (flagQ, 0)
      else if f.elem.isInf code then (if f.elem.sign code then flagN else flagP, 0)
      else (0, f.elem.value code)
    else if code % 128 = 0x7F then (flagQ, 0)
    else (0, f.elem.value code)
  | .mx =>
    if scale = 0xFF then (flagQ, 0)
    else if f.code = 0x20 ∧ code % 128 = 0x7F then (flagQ, 0)
    else if f.code = 0x21 ∧ f.elem.isNan code then (flagQ, 0)
    else if f.code = 0x21 ∧ f.elem.isInf code then (if f.elem.sign code then flagN else flagP, 0)
    else (0, f.elem.value code * (2 ^ scale : Nat))
  | .mxint => if scale = 0xFF then (flagQ, 0) else (0, toSigned 8 code * (2 ^ scale : Nat))

/-! ### Beads (R132, R134) -/

/-- How an operation adds: sums, extremes, or the bitwise operations. -/
inductive OpMode where
  | sum
  | min
  | max
  | and
  | or
  | xor
  deriving DecidableEq, Repr, Inhabited

def opMode (op : Nat) : OpMode :=
  if op = 2 then .min else if op = 3 then .max else if op = 4 then .and else if op = 5 then .or
  else if op = 6 then .xor else .sum

def Extreme.lt : Extreme → Extreme → Bool
  | .negInf, .negInf => false
  | .negInf, _ => true
  | .fin _, .negInf => false
  | .fin a, .fin b => decide (a < b)
  | .fin _, .posInf => true
  | .posInf, _ => false

/-- V: the value of the words of a bead or gang in two's complement. -/
def Bead.v (b : Bead) : Int :=
  toSigned (320 * b.words.length) (b.words.foldr (fun w n => w.toNat + 2 ^ 320 * n) 0)

/-- A bead, or a gang of g, that holds a value; it never overflows (R132). -/
def Bead.set (g : Nat) (b : Bead) (v : Int) : Bead :=
  let u := ofSigned (320 * g) v
  { b with words := (List.range g).map fun k => BitVec.ofNat 320 (u / 2 ^ (320 * k)), started := true }

/-- A bead's flags once those of an addend have been added. -/
def Bead.mark (b : Bead) (flags : Nat) : Bead := { b with flags := b.flags ||| BitVec.ofNat 3 flags }

/-- bead_add: a wide add of an addend into a bead, or a gang of g. -/
def Bead.add (g : Nat) (b : Bead) (x : Addend) : Bead := (b.mark x.1).set g (b.v + x.2)

/-- minmax_add. -/
def Bead.extreme (b : Bead) (x : Addend) (isMin : Bool) : Bead :=
  if bit x.1 2 then b.mark flagQ
  else
    let v : Extreme := if bit x.1 0 then .posInf else if bit x.1 1 then .negInf else .fin x.2
    match b.ext with
    | none => { b with ext := some v }
    | some o => if (if isMin then v.lt o else o.lt v) then { b with ext := some v } else b

/-- The running word of a bitwise operation: bits [63:0] of the bead. -/
def Bead.running (b : Bead) : Nat := (b.v % (2 ^ 64 : Nat)).toNat

/-- A bitwise operation on the running word; the first addend is taken as it is. -/
def Bead.bitwise (b : Bead) (x : Nat) (m : OpMode) : Bead :=
  let w := b.running
  b.set 1 (if !b.started then x
    else match m with
      | .and => w &&& x
      | .or => w ||| x
      | _ => w ^^^ x : Nat)

/-- One addend of an element under an operation, into a bead or a gang of g. -/
def Bead.take (g : Nat) (m : OpMode) (b : Bead) (x : Addend) : Bead :=
  match m with
  | .sum => b.add g x
  | .min => b.extreme x true
  | .max => b.extreme x false
  | m => b.bitwise (x.2 % (2 ^ 64 : Nat)).toNat m

/-! ### Carry words (R135, R136) -/

/-- Shape of a carry word: width, bits of SIGNIFICAND and SCALE, bias. -/
structure WordShape where
  width : Nat
  sig : Nat
  scale : Nat
  bias : Int
  deriving DecidableEq, Repr, Inhabited

def NumFmt.shape (f : NumFmt) : WordShape := if f.long then ⟨128, 115, 12, 2048⟩ else ⟨64, 54, 9, 256⟩

def WordShape.special (w : WordShape) (c : Nat) : Nat := 2 ^ (w.width - 1) + (2 ^ w.scale - 1) * 2 ^ w.sig + c
def WordShape.escaped (w : WordShape) : Nat := 2 ^ (w.width - 1)

/-- Trailing zero bits of a value that is not zero. -/
def trailing : Nat → Nat → Nat
  | 0, _ => 0
  | fuel + 1, n => if n % 2 = 0 then 1 + trailing fuel (n / 2) else 0

/-- emit of a finite value: its word, or none where it escapes. -/
def NumFmt.emitValue (f : NumFmt) (v : Int) : Option Nat :=
  let w := f.shape
  if v = 0 then some 0
  else
    let z := trailing v.natAbs.log2 v.natAbs
    let m : Int := if v < 0 then -((v.natAbs / 2 ^ z : Nat) : Int) else ((v.natAbs / 2 ^ z : Nat) : Int)
    if m < -((2 ^ (w.sig - 1) : Nat) : Int) ∨ ((2 ^ (w.sig - 1) : Nat) : Int) ≤ m then none
    else some (ofSigned w.sig m + ((z : Int) + f.e0 + w.bias).toNat * 2 ^ w.sig)

/-- emit and minmax_emit: the word of a bead, or none where the element escapes. -/
def NumFmt.emit (f : NumFmt) (m : OpMode) (b : Bead) : Option Nat :=
  let w := f.shape
  match m with
  | .sum =>
    if bit b.flags.toNat 2 || (bit b.flags.toNat 0 && bit b.flags.toNat 1) then some (w.special 3)
    else if bit b.flags.toNat 0 then some (w.special 1)
    else if bit b.flags.toNat 1 then some (w.special 2)
    else f.emitValue b.v
  | .min | .max =>
    if bit b.flags.toNat 2 then some (w.special 3)
    else
      match b.ext with
      | some .posInf => some (w.special 1)
      | some .negInf => some (w.special 2)
      | some (.fin v) => f.emitValue v
      | none => some 0
  | _ => some b.running

/-- What a received word means. -/
inductive Word where
  | value (x : Addend)
  | escaped
  | reserved
  deriving DecidableEq, Repr, Inhabited

/-- A received carry word (Tables 4.5 and 4.6); raw words of BITS64 are values. -/
def NumFmt.readWord (f : NumFmt) (x : Nat) : Word :=
  if f.kind = .bits then .value (0, (x : Int))
  else
    let w := f.shape
    let sig := fld x (w.sig - 1) 0
    let scale := fld x (w.sig + w.scale - 1) w.sig
    if bit x (w.width - 1) then
      if scale = 0 ∧ sig = 0 then .escaped
      else if scale = 2 ^ w.scale - 1 ∧ sig = 1 then .value (flagP, 0)
      else if scale = 2 ^ w.scale - 1 ∧ sig = 2 then .value (flagN, 0)
      else if scale = 2 ^ w.scale - 1 ∧ sig = 3 then .value (flagQ, 0)
      else .reserved
    else if x = 0 then .value (0, 0)
    else
      let sh := (scale : Int) - w.bias - f.e0
      if sh < 0 ∨ sig = 0 then .reserved else .value (0, toSigned w.sig sig * (2 ^ sh.toNat : Nat))

/-! ### Bead images (R140) -/

/-- Segments of a value's image: one of 320 bits, or the eight of a gang. -/
def NumFmt.segments (f : NumFmt) (v : Int) : List Nat :=
  let u := ofSigned (320 * f.gang) v
  (List.range f.gang).map fun k => fld u (320 * k + 319) (320 * k)

/-- What a segment adds: the last one carries the sign. -/
def NumFmt.segmentValue (f : NumFmt) (k x : Nat) : Int :=
  (if k + 1 = f.gang then toSigned 320 x else (x : Int)) * (2 ^ (320 * k) : Nat)

/-! ### Rounding (R148 to R155) -/

/-- The stochastic generator (R152). -/
def gen (seed idx : Nat) : Nat :=
  let m := 2 ^ 64
  let z := (seed + (idx + 1) * 0x9E3779B97F4A7C15) % m
  let z := ((z ^^^ (z / 2 ^ 30)) * 0xBF58476D1CE4E5B9) % m
  let z := ((z ^^^ (z / 2 ^ 27)) * 0x94D049BB133111EB) % m
  (z ^^^ (z / 2 ^ 31)) / 2 ^ 32

/-- An exact element before rounding: NaN, an infinity, or num × 2^k / den. -/
inductive Exact where
  | nan
  | inf (neg : Bool)
  | fin (num : Int) (k : Int) (den : Nat)
  deriving DecidableEq, Repr, Inhabited

/-- a / b rounded by a mode: 0 RNE, 1 RTZ, 2 STOCHASTIC. -/
def roundQuot (a b mode seed idx : Nat) : Nat :=
  let k := a / b
  let r := a % b
  let up :=
    if mode = 0 then decide (b < 2 * r) || (2 * r == b && k % 2 == 1)
    else if mode = 2 then decide (gen seed idx < r * 2 ^ 32 / b)
    else false
  if up then k + 1 else k

/-- Numerator and denominator of n × 2^k / den. -/
def ratio (n : Nat) (k : Int) (den : Nat) : Nat × Nat := (n * 2 ^ k.toNat, den * 2 ^ (-k).toNat)

/-- floor(log2 (a / b)) of a positive quotient. -/
def floorLog (a b : Nat) : Int :=
  let e : Int := (a.log2 : Int) - (b.log2 : Int)
  let x := ratio b e 1
  if a * x.2 < x.1 then e - 1 else e

/-- Code of a magnitude given in units of the smallest subnormal, which it represents exactly. -/
def Fmt.code (f : Fmt) (n : Nat) : Nat :=
  if n < 2 ^ (f.m + 1) then n else (n.log2 - f.m) * 2 ^ f.m + n / 2 ^ (n.log2 - f.m)

def Fmt.signBit (f : Fmt) (neg : Bool) : Nat := b2n neg * 2 ^ (f.e + f.m)

/-- Code of the largest finite value. -/
def NumFmt.largest (f : NumFmt) (neg : Bool) : Nat :=
  f.elem.code (f.maxN * 2 ^ (f.maxK - (f.emin - (f.p : Int) + 1)).toNat) + f.elem.signBit neg

/-- round_float of num × 2^k / den (R150, R151); in an MX element an overflow is the largest value. -/
def NumFmt.roundFloat (f : NumFmt) (num k : Int) (den mode seed idx : Nat) : Nat :=
  if num = 0 then 0
  else
    let neg := decide (num < 0)
    let x := ratio num.natAbs k den
    let e := max (floorLog x.1 x.2) f.emin
    let q := e - (f.p : Int) + 1
    let y := ratio x.2 q 1
    let n := roundQuot (x.1 * y.2) y.1 mode seed idx
    let unit := f.emin - (f.p : Int) + 1
    let top := ratio f.maxN (f.maxK - q) 1
    if top.1 < n * top.2 then
      if f.infs && !f.isMx && mode != 1 then f.elem.inf neg else f.largest neg
    else if n = 0 then 0
    else f.elem.code (n * 2 ^ (q - unit).toNat) + f.elem.signBit neg

/-- A floating-point output element (R148, R150). -/
def NumFmt.roundElement (f : NumFmt) (x : Exact) (mode seed idx : Nat) : Nat :=
  match x with
  | .nan => f.nan
  | .inf neg => if f.infs then f.elem.inf neg else f.largest neg
  | .fin num k den => f.roundFloat num k den mode seed idx

/-- An integer output element (R155). -/
def NumFmt.roundInt (f : NumFmt) (x : Exact) (mode seed idx : Nat) (wrap : Bool) : Nat :=
  match x with
  | .fin num _ den =>
    let n := roundQuot num.natAbs den mode seed idx
    let v : Int := if num < 0 then -(n : Int) else (n : Int)
    let top : Int := ((2 ^ (f.width - 1) : Nat) : Int)
    ofSigned f.width (if wrap then v else if v < -top then -top else if top ≤ v then top - 1 else v)
  | _ => 0

def Exact.isFin : Exact → Bool
  | .fin _ _ _ => true
  | _ => false

/-- floor(log2 |v|) of an exact value; none for zero. -/
def Exact.log : Exact → Option Int
  | .fin num k den =>
    if num = 0 then none
    else
      let x := ratio num.natAbs k den
      some (floorLog x.1 x.2)
  | _ => none

/-- Scale exponent of a group of exact values (R154): floor(log2 amax) - emax within -127 to 127. -/
def NumFmt.groupScale (f : NumFmt) (l : List Exact) : Int :=
  let top := l.foldl (fun (a : Option Int) v =>
    match a, v.log with
    | none, x => x
    | some a, some x => some (max a x)
    | some a, none => some a) none
  match top with
  | none => -127
  | some e => max (-127) (min 127 (e - f.emax))

/-- round_mx (R154): scale and element codes of a group. -/
def NumFmt.roundGroup (f : NumFmt) (l : List Exact) (mode seed idx0 : Nat) : Nat × List Nat :=
  if l.any (fun v => !v.isFin) then (0xFF, l.map fun _ => 0)
  else
    let x := f.groupScale l
    ((x + 127).toNat, l.zipIdx.map fun (v, j) =>
      match v with
      | .fin num k den =>
        if f.kind = .mxint then
          let r := ratio num.natAbs (k - (x - 6)) den
          let n := min 127 (roundQuot r.1 r.2 mode seed (idx0 + j))
          ofSigned 8 (if num < 0 then -(n : Int) else (n : Int))
        else f.roundFloat num (k - x) den mode seed (idx0 + j)
      | _ => 0)

/-- The payload of one output block of exact elements, the first with index idx0 (R129, R148 to R155). -/
def NumFmt.resultPayload (f : NumFmt) (l : List Exact) (mode seed idx0 : Nat) (wrap : Bool) : Nat :=
  match f.kind with
  | .bits => packPlain 64 (l.map fun v => match v with
      | .fin n _ _ => (n % (2 ^ 64 : Nat)).toNat
      | _ => 0)
  | .int => packPlain f.width (l.zipIdx.map fun (v, j) => f.roundInt v mode seed (idx0 + j) wrap)
  | .float => packPlain f.width (l.zipIdx.map fun (v, j) => f.roundElement v mode seed (idx0 + j))
  | _ =>
    let groups := (List.range ((l.length + 31) / 32)).map fun g =>
      let vs := (l.drop (32 * g)).take 32
      let r := f.roundGroup vs mode seed (idx0 + 32 * g)
      r.1 + 256 * packPlain f.width r.2
    packPlain (8 * f.groupBytes) groups

end Sys2Proof.Machine
end

