-- ==== Sys2Proof/Machine/Keccak.lean ====
section
/-! DEFINITION. SHA3-512 (FIPS 202) and KMAC256 (NIST SP 800-185), which the spec names and does not give (log 12). -/

namespace Sys2Proof.Machine

/-- The 25 lanes of the Keccak state, lane x + 5y. -/
abbrev KState := List (BitVec 64)

def kLane (s : KState) (i : Nat) : BitVec 64 := s.getD i 0

/-- Rotation offsets of rho, in lane order. -/
def kRho : List Nat :=
  [0, 1, 62, 28, 27, 36, 44, 6, 55, 20, 3, 10, 43, 25, 39, 41, 45, 15, 21, 8, 18, 2, 61, 56, 14]

/-- Round constants of iota. -/
def kRound : List Nat :=
  [0x0000000000000001, 0x0000000000008082, 0x800000000000808A, 0x8000000080008000, 0x000000000000808B,
   0x0000000080000001, 0x8000000080008081, 0x8000000000008009, 0x000000000000008A, 0x0000000000000088,
   0x0000000080008009, 0x000000008000000A] ++
  [0x000000008000808B, 0x800000000000008B, 0x8000000000008089, 0x8000000000008003, 0x8000000000008002,
   0x8000000000000080, 0x000000000000800A, 0x800000008000000A, 0x8000000080008081, 0x8000000000008080,
   0x0000000080000001, 0x8000000080008008]

def kTheta (s : KState) : KState :=
  let c := (List.range 5).map fun x =>
    kLane s x ^^^ kLane s (x + 5) ^^^ kLane s (x + 10) ^^^ kLane s (x + 15) ^^^ kLane s (x + 20)
  let d := (List.range 5).map fun x => c.getD ((x + 4) % 5) 0 ^^^ (c.getD ((x + 1) % 5) 0).rotateLeft 1
  (List.range 25).map fun i => kLane s i ^^^ d.getD (i % 5) 0

/-- rho and pi: lane (x, y) moves to (y, 2x + 3y). -/
def kRhoPi (s : KState) : KState :=
  (List.range 25).map fun i =>
    let x := i % 5
    let y := i / 5
    let src := (x + 3 * y) % 5 + 5 * x
    (kLane s src).rotateLeft (kRho.getD src 0)

def kChi (s : KState) : KState :=
  (List.range 25).map fun i =>
    let x := i % 5
    let y := i - x
    kLane s i ^^^ (~~~ (kLane s ((x + 1) % 5 + y)) &&& kLane s ((x + 2) % 5 + y))

def kRoundStep (s : KState) (rc : Nat) : KState :=
  match kChi (kRhoPi (kTheta s)) with
  | [] => []
  | a :: r => (a ^^^ BitVec.ofNat 64 rc) :: r

/-- Keccak-f[1600]. -/
def keccakF (s : KState) : KState := kRound.foldl kRoundStep s

/-- XOR a block into the first lanes. -/
def kXorIn (s : KState) (block : Bytes) : KState :=
  (List.range 25).map fun i => kLane s i ^^^ BitVec.ofNat 64 (leAt block (8 * i) 8)

/-- Absorb n blocks of the given rate. -/
def kAbsorb (rate : Nat) : Nat → Bytes → KState → KState
  | 0, _, s => s
  | n + 1, bs, s => kAbsorb rate n (bs.drop rate) (keccakF (kXorIn s (bs.take rate)))

/-- The sponge with a domain suffix octet; out octets of at most one block. -/
def sponge (rate suffix out : Nat) (bs : Bytes) : Bytes :=
  let n := bs.length / rate + 1
  let pad := n * rate - bs.length
  let padded :=
    if pad = 1 then bs ++ [BitVec.ofNat 8 (suffix ||| 0x80)]
    else bs ++ [BitVec.ofNat 8 suffix] ++ List.replicate (pad - 2) 0 ++ [0x80]
  let s := kAbsorb rate n padded (List.replicate 25 0)
  ((List.range 25).flatMap fun i => natLe 8 (kLane s i).toNat).take out

/-- SHA3-512 of a byte string, as 64 octets. -/
def sha3 (bs : Bytes) : Bytes := sponge 72 0x06 64 bs

/-- SHA3-512 as a 512-bit value, octet 0 lowest. -/
def sha3n (bs : Bytes) : Nat := leNat (sha3 bs)

/-- Big-endian octets of a number without leading zeros, at least one. -/
def beBytes (x : Nat) : Bytes :=
  if x < 256 then [BitVec.ofNat 8 x] else [BitVec.ofNat 8 (x / 256), BitVec.ofNat 8 x]

def leftEncode (x : Nat) : Bytes := BitVec.ofNat 8 (beBytes x).length :: beBytes x
def rightEncode (x : Nat) : Bytes := beBytes x ++ [BitVec.ofNat 8 (beBytes x).length]
def encodeString (bs : Bytes) : Bytes := leftEncode (8 * bs.length) ++ bs

def bytepad (w : Nat) (bs : Bytes) : Bytes :=
  let t := leftEncode w ++ bs
  t ++ List.replicate ((w - t.length % w) % w) 0

/-- KMAC256 with a customisation string, out octets. -/
def kmac256 (key msg : Bytes) (out : Nat) (custom : Bytes) : Bytes :=
  let kmacName : Bytes := [0x4B, 0x4D, 0x41, 0x43]
  let m := bytepad 136 (encodeString kmacName ++ encodeString custom) ++ bytepad 136 (encodeString key) ++ msg
    ++ rightEncode (8 * out)
  sponge 136 0x04 out m

end Sys2Proof.Machine
end

