-- ==== Sys2Proof/Machine/Status.lean ====
section
/-! DEFINITION. The status codes, group by group (Table 0.4). -/

namespace Sys2Proof.Machine.St

def ok : Nat := 0x0000

/-! Transport (Table 3.12). -/
def targetLost : Nat := 0x0101
def resendExhausted : Nat := 0x0102
def agedOut : Nat := 0x0103

/-! Protection (08). -/
def keyMismatch : Nat := 0x0201
def bounds : Nat := 0x0202
def contextDenied : Nat := 0x0203
def regionDead : Nat := 0x0204

/-! Collective (05). -/
def mismatch : Nat := 0x0301
def claimRefused : Nat := 0x0302
def carryExhausted : Nat := 0x0303
def abortedPeer : Nat := 0x0304
def rosterInvalid : Nat := 0x0305
def featureAbsent : Nat := 0x0306
def admissionLate : Nat := 0x0307
def cancelled : Nat := 0x0308

/-! Memory (10). -/
def dataLost : Nat := 0x0401

/-! Schedule (Table 2.15). -/
def spanOverrun : Nat := 0x0501
def slotConflict : Nat := 0x0502
def tableInvalid : Nat := 0x0503
def activationLate : Nat := 0x0504
def notAligned : Nat := 0x0505
def alignLost : Nat := 0x0506
def loadBusy : Nat := 0x0507

/-! Service (13). -/
def serviceRestarting : Nat := 0x0601
def featureNotNegotiated : Nat := 0x0602
def stepPending : Nat := 0x0603
def wearWarn : Nat := 0x0604
def wearLimit : Nat := 0x0605
def objectUnknown : Nat := 0x0606
def accessMismatch : Nat := 0x0607
def valueRefused : Nat := 0x0608
def serviceFailed : Nat := 0x0609
def imageRejected : Nat := 0x060A

/-! Power (15). -/
def capClamped : Nat := 0x0701
def thermalThrottled : Nat := 0x0702

/-! Security (14). -/
def attestationRequired : Nat := 0x0801
def confidentialLocked : Nat := 0x0802
def sealKeyAbsent : Nat := 0x0803
def unwrapFailed : Nat := 0x0804

end Sys2Proof.Machine.St
end

