-- ==== Sys2Proof/Machine/Descriptors.lean ====
section
/-! DEFINITION. Descriptors, their fingerprint and checks, and what each member sends and receives (05 R158 to R164,
04 R129, R131). -/

namespace Sys2Proof.Machine

open Sys2Proof

/-! ### Descriptors (Table 5.2, R162 to R164) -/

abbrev Desc := BitVec 1024

def Desc.fd (d : Desc) (hi lo : Nat) : Nat := fld d.toNat hi lo
def dSpans (d : Desc) : Nat := Desc.fd d 463 448
def dRosterDigest (d : Desc) : Nat := Desc.fd d 447 384
def dDestOffset (d : Desc) : Nat := Desc.fd d 368 332
def dIssuer (d : Desc) : Nat := Desc.fd d 331 318
def dRoot (d : Desc) : Nat := Desc.fd d 317 304
def dLayer (d : Desc) : Nat := Desc.fd d 303 288
def dOperator (d : Desc) : Nat := Desc.fd d 287 256
def dFirst (d : Desc) : Nat := Desc.fd d 255 192
def dSeed (d : Desc) : Nat := Desc.fd d 191 128
def dChunk (d : Desc) : Nat := Desc.fd d 127 104
def dCount (d : Desc) : Nat := Desc.fd d 103 64
def dStaged (d : Desc) : Bool := Desc.fd d 60 60 == 1
def dDigest (d : Desc) : Bool := Desc.fd d 59 59 == 1
def dOut (d : Desc) : Nat := Desc.fd d 58 51
def dIn (d : Desc) : Nat := Desc.fd d 50 43
def dOp (d : Desc) : Nat := Desc.fd d 42 39
def dRounding (d : Desc) : Nat := Desc.fd d 38 37
def dWrap (d : Desc) : Bool := Desc.fd d 36 36 == 1
def dLong (d : Desc) : Bool := Desc.fd d 35 35 == 1
def dRoster (d : Desc) : Nat := Desc.fd d 34 23
def dPart (d : Desc) : Nat := Desc.fd d 22 17
def dCtx (d : Desc) : Nat := Desc.fd d 16 12
def dPrim (d : Desc) : Nat := Desc.fd d 11 8
def dVersion (d : Desc) : Nat := Desc.fd d 7 0

/-- The low 16 bits of FIRST_SPAN. -/
def dInst (d : Desc) : Nat := dFirst d % 65536

/-- ALL_GATHER, BROADCAST or ALL_TO_ALL (R160). -/
def isData (d : Desc) : Bool := dPrim d == 1 || dPrim d == 2 || dPrim d == 4

/-- The descriptor fingerprint (R163). -/
def fingerprint (d : Desc) : Nat :=
  let x := d.toNat - put (dIssuer d) 331 318 - put (b2n (dStaged d)) 60 60 - put (b2n (dDigest d)) 59 59
  sha3n (natLe 128 x) % 2 ^ 64

/-- The input and output formats, 0 where a code is not listed. -/
def inFmt (d : Desc) : NumFmt := (fmtOf (dIn d)).getD default
def outFmt (d : Desc) : NumFmt := (fmtOf (dOut d)).getD default

/-- Windows per element: 8 for FP64 (R171). -/
def gangOf (d : Desc) : Nat := (inFmt d).gang

/-- Long mode has an effect (R145). -/
def longMode (d : Desc) : Bool := dLong d && opMode (dOp d) == .sum

def NumFmt.isFloating (f : NumFmt) : Bool := f.kind == .float || f.isMx

/-- An operation of the input's kind (Table 4.3), and an output of that kind (R131). -/
def opAllowed (fi fo : NumFmt) (op rounding : Nat) : Bool :=
  (if fi.kind == .bits then 4 ≤ op && op ≤ 6 else op ≤ 3) && decide (rounding ≤ 2) &&
  (fi.isFloating == fo.isFloating) && ((fi.kind == .bits) == (fo.kind == .bits))

/-- The fields that a data primitive leaves zero (R160). -/
def dataFieldsOk (d : Desc) : Bool :=
  dOut d == dIn d && dOp d == 0 && dRounding d == 0 && !dWrap d && !dLong d && dSeed d == 0 && !dDigest d

/-- The checks of R164 for a roster of n members; OK or the status. -/
def descStatus (d : Desc) (n : Nat) : Nat :=
  if dVersion d ≠ 1 ∨ 4 < dPrim d then St.featureAbsent
  else if (fmtOf (dIn d)).isNone ∨ (fmtOf (dOut d)).isNone then St.featureAbsent
  else if isData d && !dataFieldsOk d then St.featureAbsent
  else if !isData d && !opAllowed (inFmt d) (outFmt d) (dOp d) (dRounding d) then St.featureAbsent
  else if dCount d = 0 ∨ dChunk d = 0 ∨ dSpans d = 0 then St.featureAbsent
  else if Desc.fd d 1023 464 ≠ 0 ∨ Desc.fd d 383 369 ≠ 0 ∨ Desc.fd d 63 61 ≠ 0 then St.featureAbsent
  else if (dPrim d = 2 ∨ dPrim d = 3) ∧ n ≤ dRoot d then St.rosterInvalid
  else if dDestOffset d % 64 ≠ 0 then St.bounds
  else St.ok

/-! ### Who sends and receives what (Table 5.1, R159) -/

/-- The shard length P. -/
def shard (d : Desc) (n : Nat) : Nat :=
  let p := ceilDiv (dCount d) n
  if (outFmt d).isMx then (p + 31) / 32 * 32 else p

/-- First element and number of elements of member i's shard. -/
def shardOf (d : Desc) (n i : Nat) : Nat × Nat :=
  (i * shard d n, min (dCount d) ((i + 1) * shard d n) - i * shard d n)

/-- Elements that member i sends. -/
def sentBy (d : Desc) (n i : Nat) : Nat :=
  match dPrim d with
  | 1 => (shardOf d n i).2
  | 2 => if i = dRoot d then dCount d else 0
  | 4 => n * dCount d
  | _ => dCount d

/-- Elements that member i receives. -/
def receivedBy (d : Desc) (n i : Nat) : Nat :=
  match dPrim d with
  | 0 => (shardOf d n i).2
  | 1 => dCount d
  | 2 => if i = dRoot d then 0 else dCount d
  | 3 => if i = dRoot d then dCount d else 0
  | _ => n * dCount d

/-- Octets of k packed elements (R129). -/
def NumFmt.octets (f : NumFmt) (k : Nat) : Nat := if f.isMx then ceilDiv k 32 * f.groupBytes else ceilDiv (k * f.width) 8

/-- Elements of the smallest unit that is packed by itself, and its octets: a group of an MX format (R129). -/
def NumFmt.unit (f : NumFmt) : Nat × Nat := if f.isMx then (32, f.groupBytes) else (1, f.width / 8)

/-- Octet at which the unit of element e begins in a packed sequence. -/
def NumFmt.place (f : NumFmt) (e : Nat) : Nat := e / f.unit.1 * f.unit.2

end Sys2Proof.Machine
end

