-- ==== Sys2Proof/Config.lean ====
section
/-! DEFINITION. What an implementation fixes and what the spec leaves open.  Every constant is opaque: no proof can
see a value, so a claim holds whatever the value is.  A free value is drawn at a counter of State (log 6). -/

namespace Sys2Proof.Config

/-- The n-th draw of the random source (R427). -/
opaque random : Nat → Nat → Nat

/-- What a byte reads as that nothing has written since its memory was last filled: fill number, address (R333). -/
opaque unwritten : Nat → Nat → Byte

/-- The draw of a tile's early-discard generator, in units of 2^-64 (R117). -/
opaque redDraw : Nat → Nat

/-- The payload of a NaN that FADD delivers, where more than one is allowed (R220). -/
opaque nan : Nat → Nat → Nat

/-- Octets of an accelerator's own memory, which the spec does not give. -/
opaque faetteMemory : Nat

/-- The partition that an accelerator's host software has named for management by a span, if any (R395). -/
opaque mgmtNamed : (span : Nat) → Option Nat

/-- A value that the spec does not state: draw number and the operands it may depend on. -/
opaque unstated : Nat → List Nat → Nat

/-- Values held by the key store die from manufacture (R396, R428): serial, stepping, date, MAC address. -/
opaque serial : BitVec 64
opaque stepping : BitVec 16
opaque made : BitVec 32
opaque mac : BitVec 48
opaque bootRomVersion : BitVec 32
opaque bootRomMeasurement : BitVec 512
opaque identityPublic : BitVec 20736
opaque certificate : BitVec 37016
opaque caDigests : BitVec 2048
opaque defaultPhases : BitVec 32768

/-- ML-DSA-87 (FIPS 204): the signature by the identity key and the check of one (log 11). -/
opaque mldsaSign : (context : String) → (message : Bytes) → Nat
opaque mldsaVerify : (key : Bytes) → (context : String) → (message signature : Bytes) → Bool

/-- Digests of firmware signers that the key store holds, and the trust of a certificate of a peer: its identity public
key and signature under a held CA key (R408, R432). -/
opaque signerHeld : (digest : Nat) → Bool
opaque certified : (identity certificate : Bytes) → Bool

/-- ML-KEM-1024 (FIPS 203), the private half named by a draw (log 11). -/
opaque mlkemPublic : Nat → Nat
opaque mlkemEncaps : (publicKey draw : Nat) → Nat
opaque mlkemSecret : (publicKey draw : Nat) → Nat
opaque mlkemDecaps : (draw ciphertext : Nat) → Nat

/-- The management install key's public half, and decapsulation by it (R447, log 15). -/
opaque installPublic : BitVec 12544
opaque installDecaps : (ciphertext : Nat) → Nat

/-- AES-256-GCM: key, IV, additional data and plaintext give the ciphertext and its 16-octet tag (log 11). -/
opaque gcmSeal : (key iv : Nat) → (aad plaintext : Bytes) → Bytes

/-- The 16 parity symbols of a Reed-Solomon codeword RS(592,576) over GF(2^10), of its 576 message symbols (log 178). -/
opaque rsParity : List Nat → List Nat

/-- The register with which a test pattern begins (log 180). -/
opaque patternStart : (kind : Nat) → Nat

/-- AES-256-XTS (IEEE 1619) of one chunk, the tweak the second operand: under a partition's or the device's key with the
chunk's address (R331), under a content key with a seal's (R444, log 11). -/
opaque xtsEncrypt : (key tweak : Nat) → Bytes → Bytes
opaque xtsDecrypt : (key tweak : Nat) → Bytes → Bytes

/-- What another switch reports in its 1020:05, by its end-point ID (R8). -/
opaque lockstepCapable : (ep : Nat) → Bool

/-- Status (0) and the other values of an operation that the key primary has carried out for its partner, by a draw (R271,
log 26). -/
opaque primaryResult : (draw which : Nat) → Nat

/-- Instruction of the test access port that shifted bits name: 0 IDCODE, 1 BYPASS, 2 another (log 17). -/
opaque tapInstr : List Bool → Nat

end Sys2Proof.Config
end

