-- ==== Sys2Proof/Machine/Coding.lean ====
section
/-! DEFINITION. What the lanes of a link carry: the inner and the outer code of the data lanes, their scrambler, the test
patterns, and the 8b/10b code of lane C (09 R291 to R293, R297, R305, R320). -/

namespace Sys2Proof.Machine

open Sys2Proof

/-! ### The inner code (R291) -/

/-- An odd number of the 75 bits of check group j is set: bit i of a unit belongs to group i mod 4. -/
def groupOdd (x j : Nat) : Bool := (List.range 75).foldl (fun b i => b != bit x (4 * i + j)) false

/-- The four parities of a unit hold. -/
def unitHolds (u : BitVec 300) : Bool := (List.range 4).all fun j => !groupOdd u.toNat j

/-- A unit as a lane sends it: 296 coded bits, then the even parity of each group. -/
def unitOf (coded : Nat) : BitVec 300 :=
  let x := coded % 2 ^ 296
  BitVec.ofNat 300 (x + ((List.range 4).foldl (fun n j => n + b2n (groupOdd x j) * 2 ^ j) 0) * 2 ^ 296)

/-- What is still wrong in a unit once every group whose parity failed has had its least reliable bit flipped, and the flips. -/
def unitDecoded (u : UnitNoise) : Nat × Nat :=
  (List.range 4).foldl (fun x j =>
    if groupOdd u.wrong.toNat j then (x.1 ^^^ 2 ^ (4 * (u.weak.getD j 0).val + j), x.2 + 1) else x) (u.wrong.toNat, 0)

/-! ### The outer code (R292) -/

/-- Symbols of a frame, and the message symbols among them. -/
def frameSymbols : Nat := 1184
def messageSymbols : Nat := 1152

/-- The codeword to which symbol k of a frame belongs, with L active data lanes. -/
def codewordOf (lanes k : Nat) : Nat := if lanes % 2 = 1 then k % 2 else (k + k / lanes) % 2

/-- The symbol of a frame that stands at a coded bit of a lane's share of it: symbol k goes on the (k mod L)-th active lane. -/
def symbolAt (lanes lane : Nat) (pos : Int) : Option Nat :=
  if pos < 0 then none
  else
    let k := lane + lanes * (pos.toNat / 10)
    if lane < lanes ∧ k < frameSymbols then some k else none

/-- The frame symbols that the inner code leaves wrong. -/
def wrongSymbols (lanes : Nat) (noise : List UnitNoise) : List Nat :=
  (noise.flatMap fun u => (maskBits (unitDecoded u).1 296).filterMap fun (i : Nat) =>
    symbolAt lanes u.lane.val (u.start + (i : Int))).eraseDups

/-- The codewords of a frame with more than 8 symbols wrong: the decoder does not correct them. -/
def badCodewords (lanes : Nat) (wrong : List Nat) : List Nat :=
  [0, 1].filter fun c => 8 < (wrong.filter fun k => codewordOf lanes k == c).length

/-- The symbols that carry n bits of the frame from one of its message bits on. -/
def symbolsOf (bit0 n : Nat) : List Nat := (List.range (n / 10 + 2)).map (bit0 / 10 + ·) |>.filter fun k => 10 * k < bit0 + n

/-- What the decoders make of a grain position (R291, R292, R104): no codeword of the grain is uncorrectable, none that carries
header bytes is; with the symbols corrected, the codewords not corrected, and the flips of the frame. -/
structure FecOut where
  fecOk : Bool := true
  headerOk : Bool := true
  corrected : Nat := 0
  uncorrectable : Nat := 0
  flips : Nat := 0
  deriving DecidableEq, Repr, Inhabited

/-- The outcome of a position among L active lanes.  A frame counts once, with the last of its five positions. -/
def fecOut (lanes : Nat) (l : IngressLine) : FecOut :=
  let wrong := wrongSymbols lanes l.noise
  let bad := badCodewords lanes wrong
  let clear (n : Nat) : Bool := bad.isEmpty || (symbolsOf (2304 * l.pos.val) n).all fun k => !bad.contains (codewordOf lanes k)
  let whole := l.pos.val == 4
  { fecOk := clear 2304, headerOk := clear 192,
    corrected := if whole then (wrong.filter fun k => !bad.contains (codewordOf lanes k)).length else 0,
    uncorrectable := if whole then bad.length else 0,
    flips := if whole then l.noise.foldl (fun n u => n + (unitDecoded u).2) 0 else 0 }

/-- The message symbols of a frame: the bits of five grain positions in order, bit 0 first. -/
def messageOf (grains : List Bytes) : List Nat :=
  let x := leNat (grains.flatMap fun b => sliceB b 0 288)
  (List.range messageSymbols).map fun k => fld x (10 * k + 9) (10 * k)

/-- A frame: the message symbols, then the parity symbols of the two codewords, dealt to them by c(k).  The field polynomial
of the code is not in the spec: the parity is a free function of a codeword's message (log 178). -/
def frameOf (lanes : Nat) (grains : List Bytes) : List Nat :=
  let m := messageOf grains
  let parity (c : Nat) : List Nat :=
    Config.rsParity (m.zipIdx.filterMap fun x => if codewordOf lanes x.2 == c then some x.1 else none)
  m ++ (List.range 32).map fun j =>
    let k := messageSymbols + j
    let c := codewordOf lanes k
    (parity c).getD ((List.range j).filter fun i => codewordOf lanes (messageSymbols + i) == c).length 0 % 1024

/-- The symbols of a frame that one of L active lanes carries, in order. -/
def laneShare (lanes lane : Nat) (frame : List Nat) : List Nat :=
  frame.zipIdx.filterMap fun x => if x.2 % lanes == lane then some x.1 else none

/-! ### The scrambler (R293) -/

/-- The register of a lane's scrambler as LOCK seeds it: the lane number in bits [3:0], every other bit one. -/
def scramblerSeed (lane : Nat) : Nat := 2 ^ 58 - 16 + lane % 16

/-- One step of an additive register of n bits that feeds back the bits a and b: the bit it gives, and the register. -/
def lfsrStep (n a b x : Nat) : Bool × Nat :=
  let v := bit x (a - 1) != bit x (b - 1)
  (v, (2 * x) % 2 ^ n + b2n v)

/-- The next bits of such a register, first bit lowest, and the register after them. -/
def lfsrRun (n a b : Nat) : Nat → Nat → Nat × Nat
  | 0, x => (0, x)
  | k + 1, x =>
    let y := lfsrStep n a b x
    let r := lfsrRun n a b k y.2
    (b2n y.1 + 2 * r.1, r.2)

/-- The scrambler x^58 + x^39 + 1 over the 296 coded bits of a unit. -/
def scramble (reg coded : Nat) : Nat × Nat :=
  let r := lfsrRun 58 58 39 296 reg
  (coded % 2 ^ 296 ^^^ r.1, r.2)

/-- A unit as it goes on the line, and the lane's register after it. -/
def lineUnit (reg coded : Nat) : BitVec 300 × Nat := (unitOf (scramble reg coded).1, (scramble reg coded).2)

/-- Product of two polynomials over GF(2) modulo x^58 + x^19 + 1, by the bits of the first from the highest on; the reciprocal
of the scrambler's polynomial counts its steps. -/
def polyMul (y : Nat) : Nat → Nat → Nat
  | 0, _ => 0
  | n + 1, x =>
    let r := 2 * polyMul y n (x / 2)
    let r := if 2 ^ 58 ≤ r then (r - 2 ^ 58) ^^^ (2 ^ 19 + 1) else r
    if x % 2 = 1 then r ^^^ y else r

/-- x^n modulo that polynomial, for n below 2^fuel. -/
def polyPow : Nat → Nat → Nat
  | 0, _ => 1
  | fuel + 1, n =>
    let h := polyPow fuel (n / 2)
    let q := polyMul h 58 h
    if n % 2 = 1 then polyMul 2 58 q else q

/-- The scrambler's register n steps on: bit j of it is the bit given n - 1 - j steps in, a sum of bits that the register and
its next 58 steps hold. -/
def scramblerAfter (reg n : Nat) : Nat :=
  let next := (lfsrRun 58 58 39 58 reg).1
  let past (i : Nat) : Bool := if i < 58 then bit reg (57 - i) else bit next (i - 58)
  let c := polyPow 64 n
  (List.range 58).foldl (fun (x : Nat) j =>
    let b := (maskBits c 58).foldl (fun b k => b != past (k + (57 - j))) false
    x + b2n b * 2 ^ j) 0

/-- The receiver has found a lane's unit boundary: all four parities hold in 64 consecutive units. -/
def findsBoundary (units : List (BitVec 300)) : Bool :=
  decide (64 ≤ (units.foldl (fun (n : Nat) u => if 64 ≤ n then n else if unitHolds u then n + 1 else 0) 0))

/-! ### Test patterns (R305, R320) -/

/-- The next 2,048 bits of PRBS31 (x^31 + x^28 + 1) or, for KIND 2, of PRBS15, and the register after them (log 180). -/
def testPattern (kind reg : Nat) : Nat × Nat :=
  if kind = 2 then lfsrRun 15 15 14 2048 reg else lfsrRun 31 31 28 2048 reg

/-! ### The 8b/10b code of lane C (R297, log 179) -/

/-- Six-bit codes of the 5-bit values at negative disparity, bit a lowest. -/
def code6 : List Nat :=
  [0x39, 0x2E, 0x2D, 0x23, 0x2B, 0x25, 0x26, 0x07, 0x27, 0x29, 0x2A, 0x0B, 0x2C, 0x0D, 0x0E, 0x3A] ++
  [0x36, 0x31, 0x32, 0x13, 0x34, 0x15, 0x16, 0x17, 0x33, 0x19, 0x1A, 0x1B, 0x1C, 0x1D, 0x1E, 0x35]

/-- Four-bit codes of the 3-bit values at negative disparity, bit f lowest. -/
def code4 : List Nat := [0xD, 0x9, 0xA, 0x3, 0xB, 0x5, 0x6, 0x7]

/-- The code of an unbalanced or alternating sub-block at positive disparity is its complement. -/
def codeAt (plus : Bool) (bits code alt : Nat) : Nat :=
  if plus && (2 * popcount code bits != bits || code == alt) then 2 ^ bits - 1 - code else code

/-- Code group of a data octet. -/
def dataGroup (plus : Bool) (b : Byte) : BitVec 10 :=
  let x := b.toNat % 32
  let y := b.toNat / 32
  let six := codeAt plus 6 (code6.getD x 0) 0x07
  let mid := if 2 * popcount six 6 = 6 then plus else !plus
  let alt := y == 7 && (if mid then [11, 13, 14].contains x else [17, 18, 20].contains x)
  let four := if alt then codeAt mid 4 0xE 0 else codeAt mid 4 (code4.getD y 0) 0x3
  BitVec.ofNat 10 (six + 64 * four)

/-- Control symbols and their code groups at negative disparity; at positive disparity the complement. -/
def controlGroups : List (Nat × Nat) :=
  [(0x1C, 0x0BC), (0x3C, 0x27C), (0x5C, 0x2BC), (0x7C, 0x33C), (0x9C, 0x13C), (0xBC, 0x17C), (0xDC, 0x1BC), (0xFC, 0x07C),
   (0xF7, 0x057), (0xFB, 0x05B), (0xFD, 0x05D), (0xFE, 0x05E)]

def controlGroup (plus : Bool) (k : Nat) : BitVec 10 :=
  let c := ((controlGroups.find? fun x => x.1 == k).map (·.2)).getD 0
  BitVec.ofNat 10 (if plus then 1023 - c else c)

/-- Running disparity after a code group. -/
def disparityAfter (plus : Bool) (g : BitVec 10) : Bool :=
  let n := popcount g.toNat 10
  if 5 < n then true else if n < 5 then false else plus

/-- A symbol: an octet of data, or a control symbol. -/
inductive Symbol where
  | data (b : Byte)
  | control (k : Nat)
  deriving DecidableEq, Repr, Inhabited

def Symbol.group (plus : Bool) : Symbol → BitVec 10
  | .data b => dataGroup plus b
  | .control k => controlGroup plus k

/-- The code groups of symbols from a running disparity on. -/
def encodeSymbols : Bool → List Symbol → List (BitVec 10)
  | _, [] => []
  | plus, x :: r => x.group plus :: encodeSymbols (disparityAfter plus (x.group plus)) r

/-- The symbol of a code group; none: a code or a disparity error. -/
def decodeGroup (plus : Bool) (g : BitVec 10) : Option Symbol :=
  match controlGroups.find? (fun x => controlGroup plus x.1 == g) with
  | some x => some (.control x.1)
  | none =>
    let six := g.toNat % 64
    match (List.range 32).find? (fun x => codeAt plus 6 (code6.getD x 0) 0x07 == six) with
    | none => none
    | some x => ((List.range 8).find? fun y => dataGroup plus (BitVec.ofNat 8 (x + 32 * y)) == g).map fun y =>
        .data (BitVec.ofNat 8 (x + 32 * y))

/-- The symbols of code groups from a running disparity on; none: one of them is an error. -/
def decodeGroups : Bool → List (BitVec 10) → Option (List Symbol)
  | _, [] => some []
  | plus, g :: r =>
    match decodeGroup plus g, decodeGroups (disparityAfter plus g) r with
    | some x, some l => some (x :: l)
    | _, _ => none

/-- Running disparity after code groups. -/
def disparityOver (plus : Bool) (l : List (BitVec 10)) : Bool := l.foldl disparityAfter plus

/-- The idle ordered set K28.5 D16.2, and the beacon K30.7 D21.5 (Table 9.4). -/
def idleSet : List Symbol := [.control 0xBC, .data 0x50]
def beaconSet : List Symbol := [.control 0xFE, .data 0xB5]

/-! ### Tokens (R298) -/

/-- Tokens of Table 9.4: name, K symbol, data octets with their CRC. -/
def tokenTypes : List (String × Nat × Nat) :=
  [("SpanMarker", 0x1C, 10), ("Credit", 0x5C, 5), ("NACK", 0x7C, 11), ("End", 0x9C, 9), ("Barrier", 0xDC, 4), ("Lane", 0x3C, 5),
   ("Fragment", 0xFB, 11)]

/-- K symbol and length of a kind of token. -/
def tokenType (k : String) : Nat × Nat := ((tokenTypes.find? fun x => x.1 == k).map (·.2)).getD (0, 0)

/-- The symbols of a token: its K symbol, its fields, and the CRC-8 over them. -/
def tokenSymbols (k : String) (fields : Nat) : List Symbol :=
  let t := tokenType k
  let bs := natLe (t.2 - 1) fields
  .control t.1 :: (bs ++ [BitVec.ofNat 8 (crc8 bs)]).map Symbol.data

/-- The fields of a received token of a kind; none: it is discarded, for a code or disparity error, a K symbol that Table 9.4
does not list or that is not this kind's, a K symbol among its octets, a wrong length or a failing CRC. -/
def tokenFields (plus : Bool) (t : RawToken) (k : String) : Option Nat :=
  match decodeGroups plus t.groups with
  | some (.control c :: r) =>
    let bs := r.filterMap fun x => match x with
      | .data b => some b
      | .control _ => none
    let n := (tokenType k).2
    if c = (tokenType k).1 ∧ bs.length = n ∧ r.length = n ∧ leAt bs (n - 1) 1 = crc8 (bs.take (n - 1)) then
      some (leNat (bs.take (n - 1))) else none
  | _ => none

/-- A token as it arrives at a running disparity. -/
def tokenAt (plus : Bool) (k : String) (fields : Nat) : RawToken := ⟨encodeSymbols plus (tokenSymbols k fields)⟩

/-! ### Exchange messages (R307) -/

/-- What the CRC-32C of a message covers. -/
def exCover (type : Nat) (body : Bytes) : Bytes := natLe 1 type ++ natLe 2 body.length ++ body

/-- The octets of a message: TYPE, LENGTH, body, CRC-32C. -/
def exOctets (type : Nat) (body : Bytes) : Bytes := exCover type body ++ natLe 4 (crc32c (exCover type body))

/-- The fields of the fragments that carry octets, nine each (Table 9.5); `n` is their number. -/
def fragmentFields (first : Bool) : Nat → Bytes → List Nat
  | 0, _ => []
  | n + 1, bs => (put (b2n first) 79 79 + put (b2n (n == 0)) 78 78 + leAt bs 0 9) :: fragmentFields false n (bs.drop 9)

/-- The fragments of a message. -/
def exFragments (type : Nat) (body : Bytes) : List Nat :=
  let bs := exOctets type body
  fragmentFields true (ceilDiv bs.length 9) bs

/-- The fields of received fragments; none: one has been discarded. -/
def fragsOf : Bool → List RawToken → Option (List Nat)
  | _, [] => some []
  | plus, t :: r =>
    match tokenFields plus t "Fragment", fragsOf (disparityOver plus t.groups) r with
    | some x, some l => some (x :: l)
    | _, _ => none

/-- Running disparity after the fragments of a message. -/
def disparityFrags (plus : Bool) (x : Exch) : Bool := x.frags.foldl (fun b t => disparityOver b t.groups) plus

/-- The body of a received message of a TYPE, its fragments whole and in order, its length as LENGTH has it and its CRC-32C
right; none: it is discarded. -/
def exBody (plus : Bool) (x : Exch) (type : Nat) : Option Bytes :=
  match fragsOf plus x.frags with
  | none => none
  | some l =>
    let bs := l.flatMap fun f => natLe 9 f
    let n := leAt bs 1 2
    let body := sliceB bs 3 n
    let ends := l.zipIdx.all fun e => bit e.1 79 == (e.2 == 0) && bit e.1 78 == (e.2 + 1 == l.length)
    if l ≠ [] ∧ ends ∧ leAt bs 0 1 = type ∧ ceilDiv (n + 7) 9 = l.length ∧ leAt bs (3 + n) 4 = crc32c (exCover type body) then
      some body else none

/-- A message as it arrives, its fragments sent at a running disparity. -/
def exArrives (plus : Bool) (type : Nat) (body : Bytes) : Exch :=
  ⟨((exFragments type body).foldl (fun (x : Bool × List RawToken) f =>
    let t := tokenAt x.1 "Fragment" f
    (disparityOver x.1 t.groups, x.2 ++ [t])) (plus, [])).2⟩

end Sys2Proof.Machine
end

