-- ==== Sys2Proof/Machine/Objects.lean ====
section
/-! DEFINITION. The objects of the dictionary (12 R370 to R373): one row per sub-index, or per run of sub-indices of
one kind, as the chapters' object tables give them. -/

namespace Sys2Proof.Machine

/-- One row of the dictionary: n objects from idx on, m sub-indices from sub on, of one access code (Table 12.3),
type code (Table 12.2), size in octets, default, and least and greatest value that a write may carry. -/
structure Obj where
  idx : Nat
  n : Nat
  sub : Nat
  m : Nat
  acc : Nat
  typ : Nat
  size : Nat
  dflt : Nat
  lo : Nat
  hi : Nat
  deriving DecidableEq, Repr, Inhabited

def objs0 : List Obj := [
  ⟨0x1000, 1, 0x01, 1, 0, 0x21, 16, 0, 0, 0⟩,
  ⟨0x1000, 1, 0x02, 1, 0, 0x21, 16, 0, 0, 0⟩,
  ⟨0x1000, 1, 0x03, 1, 0, 0x21, 16, 0, 0, 0⟩,
  ⟨0x1000, 1, 0x04, 1, 0, 0x21, 16, 0, 0, 0⟩,
  ⟨0x1000, 1, 0x05, 1, 0, 0x04, 8, 0, 0, 0⟩,
  ⟨0x1000, 1, 0x06, 1, 0, 0x02, 2, 0, 0, 0⟩,
  ⟨0x1000, 1, 0x07, 1, 0, 0x03, 4, 0, 0, 0⟩,
  ⟨0x1000, 1, 0x08, 1, 0, 0x20, 6, 0, 0, 0⟩,
  ⟨0x1000, 1, 0x09, 1, 1, 0x02, 2, 0x3FFF, 0, 0x3FFF⟩,
  ⟨0x1010, 1, 0x01, 1, 0, 0x03, 4, 0, 0, 0⟩,
  ⟨0x1010, 1, 0x02, 1, 0, 0x03, 4, 0, 0, 0⟩,
  ⟨0x1010, 1, 0x03, 1, 0, 0x02, 2, 0x100, 0, 0⟩,
  ⟨0x1010, 1, 0x04, 1, 0, 0x02, 2, 0x101, 0, 0⟩,
  ⟨0x1010, 1, 0x05, 1, 0, 0x02, 2, 0x100, 0, 0⟩,
  ⟨0x1010, 1, 0x06, 1, 0, 0x01, 1, 1, 0, 0⟩,
  ⟨0x1010, 1, 0x07, 1, 0, 0x01, 1, 1, 0, 0⟩,
  ⟨0x1020, 1, 0x01, 1, 0, 0x01, 1, 0, 0, 0⟩,
  ⟨0x1020, 1, 0x02, 1, 0, 0x01, 1, 0, 0, 0⟩,
  ⟨0x1020, 1, 0x03, 1, 0, 0x03, 4, 0, 0, 0⟩,
  ⟨0x1020, 1, 0x04, 1, 0, 0x03, 4, 0, 0, 0⟩,
  ⟨0x1020, 1, 0x05, 1, 0, 0x01, 1, 0, 0, 0⟩,
  ⟨0x1020, 1, 0x06, 1, 0, 0x01, 1, 0, 0, 0⟩,
  ⟨0x1020, 1, 0x07, 1, 0, 0x03, 4, 0, 0, 0⟩,
  ⟨0x1020, 1, 0x08, 1, 0, 0x01, 1, 0, 0, 0⟩,
  ⟨0x1030, 1, 0x01, 1, 0, 0x02, 2, 0, 0, 0⟩,
  ⟨0x1030, 1, 0x02, 1, 0, 0x04, 8, 0, 0, 0⟩,
  ⟨0x1030, 1, 0x03, 1, 1, 0x02, 2, 0, 0, 0xFFFF⟩,
  ⟨0x1030, 1, 0x04, 1, 1, 0x04, 8, 0, 0, 0xFFFFFFFFFFFFFFFF⟩,
  ⟨0x1030, 1, 0x05, 1, 0, 0x02, 2, 0, 0, 0⟩,
  ⟨0x1030, 1, 0x06, 1, 0, 0x04, 8, 0, 0, 0⟩,
  ⟨0x2000, 1, 0x01, 1, 0, 0x03, 4, 0x80000, 0, 0⟩,
  ⟨0x2000, 1, 0x02, 1, 0, 0x02, 2, 0, 0, 0⟩,
  ⟨0x2000, 1, 0x03, 1, 0, 0x03, 4, 0, 0, 0⟩,
  ⟨0x2000, 1, 0x04, 1, 5, 0x01, 1, 0, 1, 1⟩,
  ⟨0x2000, 1, 0x05, 1, 0, 0x02, 2, 0, 0, 0⟩,
  ⟨0x2000, 1, 0x06, 1, 0, 0x02, 2, 0, 0, 0⟩,
  ⟨0x2000, 1, 0x07, 1, 0, 0x02, 2, 0, 0, 0⟩,
  ⟨0x2010, 1, 0x01, 1, 2, 0x01, 1, 3, 2, 8⟩,
  ⟨0x2010, 1, 0x02, 1, 0, 0x03, 4, 0, 0, 0⟩,
  ⟨0x2020, 1, 0x01, 1, 2, 0x20, 4096, 0, 0, 0⟩,
  ⟨0x2020, 1, 0x02, 1, 0, 0x03, 4, 0, 0, 0⟩,
  ⟨0x2030, 1, 0x01, 1, 2, 0x01, 1, 0x10, 0, 0x20⟩,
  ⟨0x2030, 1, 0x02, 1, 2, 0x01, 1, 0x10, 0, 0x20⟩,
  ⟨0x2030, 1, 0x03, 1, 2, 0x01, 1, 0x40, 8, 0x80⟩,
  ⟨0x2030, 1, 0x04, 1, 0, 0x03, 4, 0, 0, 0⟩]

def objs1 : List Obj := [
  ⟨0x2040, 1, 0x01, 1, 2, 0x03, 4, 0, 0, 0xFFFFFFFF⟩,
  ⟨0x2040, 1, 0x02, 1, 2, 0x01, 1, 0x18, 8, 0x1E⟩,
  ⟨0x2040, 1, 0x03, 1, 2, 0x20, 16, 0, 0, 0xFFFFFFFFFFFFFFFFFFFFFFFFFFFFFFFF⟩,
  ⟨0x2040, 1, 0x04, 1, 2, 0x01, 1, 0x40, 0x10, 0x7F⟩,
  ⟨0x2040, 1, 0x05, 1, 2, 0x02, 2, 0x4FF6, 1, 0xFFFF⟩,
  ⟨0x2040, 1, 0x06, 1, 2, 0x02, 2, 0, 0, 0xFFFF⟩,
  ⟨0x2040, 1, 0x07, 1, 0, 0x03, 4, 0, 0, 0⟩,
  ⟨0x2050, 1, 0x01, 1, 2, 0x01, 1, 0xFF, 0, 0xFF⟩,
  ⟨0x2050, 1, 0x02, 1, 0, 0x03, 4, 0, 0, 0⟩,
  ⟨0x3000, 24, 0x01, 1, 1, 0x01, 1, 2, 0, 0xFF⟩,
  ⟨0x3000, 24, 0x02, 1, 3, 0x01, 1, 0, 1, 1⟩,
  ⟨0x3000, 24, 0x03, 1, 3, 0x01, 1, 0, 1, 1⟩,
  ⟨0x3000, 24, 0x04, 1, 0, 0x01, 1, 0, 0, 0⟩,
  ⟨0x3000, 24, 0x05, 1, 0, 0x01, 1, 0, 0, 0⟩,
  ⟨0x3000, 24, 0x06, 1, 0, 0x01, 1, 0, 0, 0⟩,
  ⟨0x3000, 24, 0x07, 1, 0, 0x02, 2, 0, 0, 0⟩,
  ⟨0x3000, 24, 0x08, 1, 0, 0x02, 2, 0, 0, 0⟩,
  ⟨0x3000, 24, 0x09, 1, 0, 0x02, 2, 0, 0, 0⟩,
  ⟨0x3000, 24, 0x0A, 1, 1, 0x02, 2, 0x3FFF, 0, 0x3FFF⟩,
  ⟨0x3000, 24, 0x0B, 1, 0, 0x01, 1, 0, 0, 0⟩,
  ⟨0x3000, 24, 0x0C, 1, 3, 0x03, 4, 0, 0, 0xFFFFFFFF⟩,
  ⟨0x3000, 24, 0x0D, 1, 0, 0x01, 1, 0, 0, 0⟩,
  ⟨0x3000, 24, 0x0E, 8, 0, 0x04, 8, 0, 0, 0⟩,
  ⟨0x3000, 24, 0x16, 1, 0, 0x04, 8, 0, 0, 0⟩,
  ⟨0x3000, 24, 0x17, 1, 0, 0x20, 8, 0, 0, 0⟩,
  ⟨0x3000, 24, 0x18, 1, 0, 0x20, 8, 0, 0, 0⟩,
  ⟨0x3000, 24, 0x19, 1, 0, 0x20, 9, 0, 0, 0⟩,
  ⟨0x3000, 24, 0x1A, 1, 0, 0x02, 2, 0x3FFF, 0, 0⟩,
  ⟨0x3080, 1, 0x01, 1, 1, 0x01, 1, 8, 2, 0x40⟩,
  ⟨0x3080, 1, 0x02, 1, 1, 0x01, 1, 4, 1, 7⟩,
  ⟨0x3080, 1, 0x03, 1, 1, 0x01, 1, 0x20, 4, 0x30⟩,
  ⟨0x3080, 1, 0x04, 1, 1, 0x01, 1, 4, 0, 8⟩,
  ⟨0x3081, 1, 0x01, 1, 1, 0x02, 2, 0xC0, 0, 0xFFFF⟩,
  ⟨0x3081, 1, 0x02, 1, 1, 0x02, 2, 0x100, 0, 0xFFFF⟩,
  ⟨0x3081, 1, 0x03, 1, 1, 0x02, 2, 0x10, 0, 0xFFFF⟩,
  ⟨0x3081, 1, 0x04, 1, 1, 0x02, 2, 0x60, 0, 0xFFFF⟩,
  ⟨0x3081, 1, 0x05, 1, 1, 0x02, 2, 0xC0, 0, 0xFFFF⟩,
  ⟨0x3081, 1, 0x06, 1, 1, 0x02, 2, 0x40, 0, 0xFFFF⟩,
  ⟨0x3081, 1, 0x07, 1, 1, 0x02, 2, 0x20, 0, 0xFFFF⟩,
  ⟨0x3081, 1, 0x08, 1, 1, 0x02, 2, 0x60, 0, 0xFFFF⟩,
  ⟨0x3081, 1, 0x09, 1, 1, 0x02, 2, 0x100, 0, 0xFFFF⟩,
  ⟨0x3090, 1, 0x01, 1, 5, 0x01, 1, 0, 1, 1⟩,
  ⟨0x3090, 1, 0x02, 1, 1, 0x04, 8, 0, 0, 0xFFFFFFFFFFFFFFFF⟩,
  ⟨0x3090, 1, 0x03, 1, 0, 0x02, 2, 0, 0, 0⟩,
  ⟨0x3090, 1, 0x04, 1, 1, 0x02, 2, 0, 0, 0xFFFF⟩]

def objs2 : List Obj := [
  ⟨0x3091, 1, 0x01, 8, 0, 0x04, 8, 0, 0, 0⟩,
  ⟨0x3100, 64, 0x01, 1, 1, 0x03, 4, 0, 0, 0xFFFFFFFF⟩,
  ⟨0x3100, 64, 0x02, 1, 1, 0x03, 4, 0, 0, 0xFFFFFFFF⟩,
  ⟨0x3100, 64, 0x03, 1, 1, 0x03, 4, 0, 0, 0xFFFFFFFF⟩,
  ⟨0x3100, 64, 0x04, 1, 1, 0x03, 4, 0, 0, 0xFFFFFFFF⟩,
  ⟨0x4000, 1, 0x01, 1, 0, 0x04, 8, 0, 0, 0⟩,
  ⟨0x4000, 1, 0x02, 1, 0, 0x02, 2, 0x800, 0, 0⟩,
  ⟨0x4000, 1, 0x03, 1, 0, 0x01, 1, 0x20, 0, 0⟩,
  ⟨0x4000, 1, 0x04, 1, 0, 0x01, 1, 0, 0, 0⟩,
  ⟨0x4000, 1, 0x05, 1, 1, 0x01, 1, 0, 0, 1⟩,
  ⟨0x4000, 1, 0x06, 1, 1, 0x01, 1, 0xFF, 0, 0xFF⟩,
  ⟨0x4000, 1, 0x07, 1, 3, 0x04, 8, 0, 0, 0xFFFFFFFFFFFFFFFF⟩,
  ⟨0x4000, 1, 0x08, 1, 0, 0x02, 2, 0, 0, 0⟩,
  ⟨0x4010, 1, 0x01, 1, 5, 0x01, 1, 0, 1, 1⟩,
  ⟨0x4010, 1, 0x02, 1, 1, 0x04, 8, 0, 0, 0xFFFFFFFFFFFFFFFF⟩,
  ⟨0x4010, 1, 0x03, 1, 1, 0x04, 8, 0, 0, 0xFFFFFFFFFFFFFFFF⟩,
  ⟨0x4010, 1, 0x04, 1, 0, 0x01, 1, 0, 0, 0⟩,
  ⟨0x4010, 1, 0x05, 1, 0, 0x02, 2, 0, 0, 0⟩,
  ⟨0x4010, 1, 0x06, 1, 0, 0x03, 4, 0xFFFFFFFF, 0, 0⟩,
  ⟨0x4010, 1, 0x07, 1, 3, 0x01, 1, 0, 1, 1⟩,
  ⟨0x4010, 1, 0x08, 1, 0, 0x20, 64, 0, 0, 0⟩,
  ⟨0x4010, 1, 0x09, 1, 0, 0x20, 64, 0, 0, 0⟩,
  ⟨0x4010, 1, 0x0A, 1, 0, 0x04, 8, 0, 0, 0⟩,
  ⟨0x4020, 1, 0x01, 1, 1, 0x02, 2, 0x100, 0x20, 0x400⟩,
  ⟨0x4030, 1, 0x01, 4, 0, 0x01, 1, 0, 0, 0⟩,
  ⟨0x4030, 1, 0x05, 4, 4, 0x01, 1, 0x20, 0, 0⟩,
  ⟨0x4031, 1, 0x01, 1, 0, 0x04, 8, 0, 0, 0⟩,
  ⟨0x4031, 1, 0x02, 1, 0, 0x04, 8, 0, 0, 0⟩,
  ⟨0x4031, 1, 0x03, 1, 0, 0x03, 4, 0, 0, 0⟩,
  ⟨0x4031, 1, 0x04, 1, 0, 0x02, 2, 0, 0, 0⟩,
  ⟨0x4031, 1, 0x05, 1, 0, 0x04, 8, 0, 0, 0⟩,
  ⟨0x4031, 1, 0x06, 1, 4, 0x01, 1, 0, 0, 0⟩,
  ⟨0x4050, 1, 0x01, 24, 0, 0x12, 2, 0, 0, 0⟩,
  ⟨0x4060, 1, 0x01, 1, 5, 0x01, 1, 0, 1, 1⟩,
  ⟨0x4060, 1, 0x02, 1, 1, 0x04, 8, 0, 0, 0xFFFFFFFFFFFFFFFF⟩,
  ⟨0x4060, 1, 0x03, 1, 1, 0x04, 8, 0, 0, 0xFFFFFFFFFFFFFFFF⟩,
  ⟨0x4060, 1, 0x04, 1, 0, 0x01, 1, 0, 0, 0⟩,
  ⟨0x4060, 1, 0x05, 1, 0, 0x02, 2, 0, 0, 0⟩,
  ⟨0x4060, 1, 0x06, 1, 0, 0x04, 8, 0, 0, 0⟩,
  ⟨0x4060, 1, 0x07, 1, 3, 0x01, 1, 0, 1, 1⟩,
  ⟨0x4060, 1, 0x08, 1, 0, 0x03, 4, 0, 0, 0⟩]

def objs3 : List Obj := [
  ⟨0x5000, 1, 0x01, 1, 0, 0x02, 2, 0x8000, 0, 0⟩,
  ⟨0x5000, 1, 0x02, 1, 0, 0x01, 1, 0, 0, 0⟩,
  ⟨0x5000, 1, 0x03, 1, 1, 0x02, 2, 0x4B0, 0, 0xFFFF⟩,
  ⟨0x5000, 1, 0x04, 1, 1, 0x01, 1, 8, 0, 0x20⟩,
  ⟨0x5000, 1, 0x05, 1, 0, 0x04, 8, 0, 0, 0⟩,
  ⟨0x5000, 1, 0x06, 1, 0, 0x04, 8, 0, 0, 0⟩,
  ⟨0x5010, 1, 0x01, 1, 5, 0x01, 1, 0, 1, 1⟩,
  ⟨0x5010, 1, 0x02, 1, 1, 0x02, 2, 0, 0, 0xFFF⟩,
  ⟨0x5010, 1, 0x03, 1, 1, 0x04, 8, 0, 0, 0xFFFFFFFFFFFFFFFF⟩,
  ⟨0x5010, 1, 0x04, 1, 0, 0x02, 2, 0, 0, 0⟩,
  ⟨0x5010, 1, 0x05, 1, 0, 0x04, 8, 0, 0, 0⟩,
  ⟨0x5020, 1, 0x01, 32, 0, 0x04, 8, 0, 0, 0⟩,
  ⟨0x5040, 1, 0x01, 1, 0, 0x04, 8, 0, 0, 0⟩,
  ⟨0x5040, 1, 0x02, 1, 0, 0x04, 8, 0, 0, 0⟩,
  ⟨0x5040, 1, 0x03, 1, 0, 0x03, 4, 0, 0, 0⟩,
  ⟨0x5040, 1, 0x04, 1, 0, 0x04, 8, 0, 0, 0⟩,
  ⟨0x5040, 1, 0x05, 1, 0, 0x03, 4, 0, 0, 0⟩,
  ⟨0x5040, 1, 0x06, 1, 0, 0x04, 8, 0, 0, 0⟩,
  ⟨0x5040, 1, 0x07, 1, 4, 0x01, 1, 0, 0, 0⟩,
  ⟨0x5050, 1, 0x01, 1, 0, 0x04, 8, 0, 0, 0⟩,
  ⟨0x5050, 1, 0x02, 1, 0, 0x20, 128, 0, 0, 0⟩,
  ⟨0x5050, 1, 0x03, 1, 0, 0x20, 128, 0, 0, 0⟩,
  ⟨0x5060, 1, 0x01, 1, 5, 0x01, 1, 0, 1, 1⟩,
  ⟨0x5060, 1, 0x02, 1, 1, 0x04, 8, 0, 0, 0xFFFFFFFFFFFFFFFF⟩,
  ⟨0x5060, 1, 0x03, 1, 0, 0x02, 2, 0, 0, 0⟩,
  ⟨0x6000, 1, 0x01, 1, 0, 0x03, 4, 0, 0, 0⟩,
  ⟨0x6000, 1, 0x02, 1, 0, 0x03, 4, 0, 0, 0⟩,
  ⟨0x6000, 1, 0x03, 1, 0, 0x01, 1, 1, 0, 0⟩,
  ⟨0x6000, 1, 0x04, 1, 0, 0x04, 8, 0, 0, 0⟩,
  ⟨0x6010, 1, 0x01, 1, 1, 0x03, 4, 0, 0, 0xFFFFFFFF⟩,
  ⟨0x6010, 1, 0x02, 1, 1, 0x20, 16, 0, 0, 0xFFFFFFFFFFFFFFFFFFFFFFFFFFFFFFFF⟩,
  ⟨0x6010, 1, 0x03, 1, 1, 0x20, 16, 0, 0, 0xFFFFFFFFFFFFFFFFFFFFFFFFFFFFFFFF⟩,
  ⟨0x6010, 1, 0x04, 1, 5, 0x01, 1, 0, 1, 4⟩,
  ⟨0x6010, 1, 0x05, 1, 0, 0x02, 2, 0, 0, 0⟩,
  ⟨0x6020, 1, 0x01, 1, 5, 0x01, 1, 0, 1, 1⟩,
  ⟨0x6020, 1, 0x02, 1, 1, 0x04, 8, 0, 0, 0xFFFFFFFFFFFFFFFF⟩,
  ⟨0x6020, 1, 0x03, 1, 0, 0x02, 2, 0, 0, 0⟩,
  ⟨0x6020, 1, 0x04, 1, 0, 0x03, 4, 0xFFFFFFFF, 0, 0⟩,
  ⟨0x6020, 1, 0x05, 1, 0, 0x03, 4, 0, 0, 0⟩,
  ⟨0x6020, 1, 0x06, 1, 0, 0x03, 4, 0, 0, 0⟩]

def objs4 : List Obj := [
  ⟨0x6030, 1, 0x01, 1, 1, 0x01, 1, 1, 0, 1⟩,
  ⟨0x6030, 1, 0x02, 1, 1, 0x01, 1, 1, 0, 1⟩,
  ⟨0x6030, 1, 0x03, 1, 0, 0x04, 8, 0, 0, 0⟩,
  ⟨0x6030, 1, 0x04, 1, 0, 0x04, 8, 0, 0, 0⟩,
  ⟨0x6030, 1, 0x05, 1, 0, 0x04, 8, 0, 0, 0⟩,
  ⟨0x6030, 1, 0x06, 1, 0, 0x04, 8, 0, 0, 0⟩,
  ⟨0x6030, 1, 0x07, 1, 4, 0x01, 1, 0, 0, 0⟩,
  ⟨0x6040, 1, 0x01, 49, 1, 0x04, 8, 0, 0, 0xFFFFFFFFFFFFFFFF⟩,
  ⟨0x6100, 64, 0x01, 1, 0, 0x01, 1, 0, 0, 0⟩,
  ⟨0x6100, 64, 0x02, 1, 5, 0x01, 1, 0, 1, 2⟩,
  ⟨0x6100, 64, 0x03, 1, 1, 0x03, 4, 0, 0, 0xFFFFFFFF⟩,
  ⟨0x6100, 64, 0x04, 1, 1, 0x03, 4, 0, 0, 0xFFFFFFFF⟩,
  ⟨0x6100, 64, 0x05, 1, 1, 0x02, 2, 0, 0, 0x100⟩,
  ⟨0x6100, 64, 0x06, 1, 0, 0x03, 4, 0, 0, 0⟩,
  ⟨0x6200, 1, 0x01, 1, 0, 0x02, 2, 0x3FFF, 0, 0⟩,
  ⟨0x6200, 1, 0x02, 1, 0, 0x01, 1, 0xFF, 0, 0⟩,
  ⟨0x6200, 1, 0x03, 1, 1, 0x04, 8, 0, 0, 0xFFFFFFFFFFFFFFFF⟩,
  ⟨0x6200, 1, 0x04, 1, 1, 0x04, 8, 0, 0, 0xFFFFFFFFFFFFFFFF⟩,
  ⟨0x6200, 1, 0x05, 1, 1, 0x04, 8, 0, 0, 0xFFFFFFFFFFFFFFFF⟩,
  ⟨0x6200, 1, 0x06, 1, 1, 0x04, 8, 0, 0, 0xFFFFFFFFFFFFFFFF⟩,
  ⟨0x6200, 1, 0x07, 1, 1, 0x03, 4, 0x400, 0x40, 0x10000⟩,
  ⟨0x6200, 1, 0x08, 1, 0, 0x03, 4, 0, 0, 0⟩,
  ⟨0x6200, 1, 0x09, 1, 1, 0x03, 4, 0, 0, 0xFFFFFFFF⟩,
  ⟨0x6200, 1, 0x0A, 1, 0, 0x04, 8, 0, 0, 0⟩,
  ⟨0x6200, 1, 0x0B, 1, 3, 0x01, 1, 0, 0, 0xFF⟩,
  ⟨0x6200, 1, 0x0C, 1, 0, 0x03, 4, 0x8000, 0, 0⟩,
  ⟨0x6200, 1, 0x0D, 1, 0, 0x03, 4, 0, 0, 0⟩,
  ⟨0x6200, 1, 0x0E, 1, 0, 0x04, 8, 0, 0, 0⟩,
  ⟨0x6300, 1, 0x01, 7, 0, 0x04, 8, 0, 0, 0⟩,
  ⟨0x6300, 1, 0x08, 7, 0, 0x04, 8, 0, 0, 0⟩,
  ⟨0x6310, 1, 0x01, 1, 1, 0x01, 1, 0, 0, 0x3F⟩,
  ⟨0x6310, 1, 0x02, 1, 5, 0x01, 1, 0, 1, 1⟩,
  ⟨0x6310, 1, 0x03, 1, 0, 0x01, 1, 0, 0, 0⟩,
  ⟨0x6310, 1, 0x04, 1, 0, 0x02, 2, 0, 0, 0⟩,
  ⟨0x6310, 1, 0x05, 1, 0, 0x04, 8, 0, 0, 0⟩,
  ⟨0x6310, 1, 0x06, 1, 0, 0x04, 8, 0, 0, 0⟩,
  ⟨0x6320, 1, 0x01, 4, 0, 0x04, 8, 0, 0, 0⟩,
  ⟨0x6320, 1, 0x05, 2, 0, 0x04, 8, 0, 0, 0⟩,
  ⟨0x6320, 1, 0x07, 1, 0, 0x04, 8, 0, 0, 0⟩,
  ⟨0x6320, 1, 0x08, 1, 0, 0x04, 8, 0, 0, 0⟩,
  ⟨0x6320, 1, 0x09, 1, 0, 0x04, 8, 0, 0, 0⟩,
  ⟨0x6320, 1, 0x0A, 1, 0, 0x04, 8, 0, 0, 0⟩,
  ⟨0x6320, 1, 0x0B, 1, 0, 0x01, 1, 0, 0, 0⟩,
  ⟨0x6320, 1, 0x0C, 1, 4, 0x01, 1, 0, 0, 0⟩]

def objs5 : List Obj := [
  ⟨0x7000, 1, 0x01, 1, 1, 0x02, 2, 0x384, 0, 0x384⟩,
  ⟨0x7000, 1, 0x02, 1, 0, 0x02, 2, 0x384, 0, 0⟩,
  ⟨0x7000, 1, 0x03, 1, 0, 0x02, 2, 0, 0, 0⟩,
  ⟨0x7000, 1, 0x04, 1, 0, 0x01, 1, 0, 0, 0⟩,
  ⟨0x7000, 1, 0x05, 1, 0, 0x02, 2, 0, 0, 0⟩,
  ⟨0x7000, 1, 0x06, 1, 0, 0x20, 8, 0, 0, 0⟩,
  ⟨0x7000, 1, 0x07, 1, 0, 0x03, 4, 0, 0, 0⟩,
  ⟨0x7000, 1, 0x08, 1, 0, 0x03, 4, 0, 0, 0⟩,
  ⟨0x7000, 1, 0x09, 1, 0, 0x04, 8, 0, 0, 0⟩,
  ⟨0x7000, 1, 0x0A, 1, 0, 0x20, 10, 0, 0, 0⟩,
  ⟨0x7010, 1, 0x01, 1, 0, 0x20, 50, 0, 0, 0⟩,
  ⟨0x7010, 1, 0x02, 1, 1, 0x01, 1, 0xF, 0, 0xFF⟩,
  ⟨0x7020, 1, 0x01, 1, 1, 0x01, 1, 0, 0, 1⟩,
  ⟨0x7020, 1, 0x02, 1, 1, 0x02, 2, 0x2EE, 0x258, 0x352⟩,
  ⟨0x7020, 1, 0x03, 1, 1, 0x02, 2, 0x320, 0x258, 0x352⟩,
  ⟨0x7020, 1, 0x04, 1, 0, 0x02, 2, 0x2EE, 0, 0⟩,
  ⟨0x7020, 1, 0x05, 1, 0, 0x03, 4, 0, 0, 0⟩,
  ⟨0x7020, 1, 0x06, 1, 0, 0x04, 8, 0, 0, 0⟩,
  ⟨0x7020, 1, 0x07, 1, 0, 0x20, 28, 0, 0, 0⟩,
  ⟨0x7020, 1, 0x08, 1, 0, 0x03, 4, 0, 0, 0⟩,
  ⟨0x7030, 1, 0x01, 1, 0, 0x02, 2, 0, 0, 0⟩,
  ⟨0x7030, 1, 0x02, 1, 1, 0x02, 2, 0, 0, 0x3FF⟩,
  ⟨0x7030, 1, 0x03, 1, 0, 0x20, 16, 0, 0, 0⟩,
  ⟨0x7030, 1, 0x04, 1, 3, 0x01, 1, 0, 1, 1⟩,
  ⟨0x7040, 1, 0x01, 1, 0, 0x20, 224, 0, 0, 0⟩,
  ⟨0x7040, 1, 0x02, 1, 0, 0x12, 2, 0, 0, 0⟩,
  ⟨0x7040, 1, 0x03, 1, 0, 0x01, 1, 0, 0, 0⟩,
  ⟨0x7040, 1, 0x04, 1, 0, 0x03, 4, 0, 0, 0⟩,
  ⟨0x7040, 1, 0x05, 1, 0, 0x03, 4, 0, 0, 0⟩,
  ⟨0x7040, 1, 0x06, 1, 0, 0x12, 2, 0, 0, 0⟩,
  ⟨0x7040, 1, 0x07, 1, 0, 0x20, 64, 0, 0, 0⟩,
  ⟨0x8010, 1, 0x01, 1, 1, 0x02, 2, 0, 0, 0xDFF⟩,
  ⟨0x8010, 1, 0x02, 1, 0, 0x20, 4096, 0, 0, 0⟩,
  ⟨0x8010, 1, 0x03, 1, 0, 0x04, 8, 0, 0, 0⟩,
  ⟨0x8010, 1, 0x04, 1, 0, 0x02, 2, 0, 0, 0⟩,
  ⟨0x8010, 1, 0x05, 1, 0, 0x20, 4096, 0, 0, 0⟩,
  ⟨0x8020, 1, 0x01, 8, 1, 0x03, 4, 0, 0, 0xFFFFFFFF⟩,
  ⟨0x8020, 1, 0x09, 1, 0, 0x04, 8, 0, 0, 0⟩,
  ⟨0x8030, 1, 0x01, 1, 1, 0x03, 4, 0x145856, 0x536, 0x4F790D55⟩,
  ⟨0x8030, 1, 0x02, 1, 0, 0x20, 196, 0, 0, 0⟩,
  ⟨0x8030, 1, 0x03, 1, 0, 0x20, 196, 0, 0, 0⟩,
  ⟨0x8030, 1, 0x04, 1, 0, 0x04, 8, 0, 0, 0⟩,
  ⟨0x8030, 1, 0x05, 1, 0, 0x02, 2, 0, 0, 0⟩]

def objs6 : List Obj := [
  ⟨0x8040, 64, 0x01, 1, 1, 0x02, 2, 0, 0, 0xFFFF⟩,
  ⟨0x8040, 64, 0x02, 1, 0, 0x20, 160, 0, 0, 0⟩,
  ⟨0x8040, 64, 0x03, 1, 0, 0x20, 160, 0, 0, 0⟩,
  ⟨0x8100, 64, 0x01, 1, 0, 0x20, 128, 0, 0, 0⟩,
  ⟨0x8100, 64, 0x02, 1, 0, 0x04, 8, 0, 0, 0⟩,
  ⟨0x8200, 24, 0x01, 1, 0, 0x20, 64, 0, 0, 0⟩,
  ⟨0x8300, 1, 0x01, 1, 1, 0x02, 2, 0, 0, 0xFFFF⟩,
  ⟨0x8300, 1, 0x02, 1, 1, 0x01, 1, 0x14, 0xA, 0x28⟩,
  ⟨0x8300, 1, 0x03, 1, 1, 0x01, 1, 0x10, 8, 0x20⟩,
  ⟨0x8300, 1, 0x04, 1, 1, 0x01, 1, 0, 0, 1⟩,
  ⟨0x8300, 1, 0x05, 1, 0, 0x04, 8, 0, 0, 0⟩,
  ⟨0x8300, 1, 0x06, 1, 0, 0x04, 8, 0, 0, 0⟩,
  ⟨0x8300, 1, 0x07, 1, 0, 0x04, 8, 0, 0, 0⟩,
  ⟨0x8300, 1, 0x08, 1, 3, 0x01, 1, 0, 1, 1⟩,
  ⟨0x8300, 1, 0x09, 1, 1, 0x04, 8, 0, 0, 0xFFFFFFFFFFFFFFFF⟩,
  ⟨0x8300, 1, 0x0A, 1, 1, 0x04, 8, 0, 0, 0xFFFFFFFFFFFFFFFF⟩,
  ⟨0x8300, 1, 0x0B, 1, 1, 0x03, 4, 0, 1, 0x400000⟩,
  ⟨0x8300, 1, 0x0C, 1, 5, 0x01, 1, 0, 1, 1⟩,
  ⟨0x8300, 1, 0x0D, 1, 0, 0x02, 2, 0, 0, 0⟩,
  ⟨0x8300, 1, 0x0E, 1, 0, 0x04, 8, 0, 0, 0⟩,
  ⟨0x8300, 1, 0x0F, 1, 0, 0x04, 8, 0xFFFFFFFFFFFFFFFF, 0, 0⟩,
  ⟨0x8300, 1, 0x10, 1, 0, 0x04, 8, 0, 0, 0⟩,
  ⟨0x9000, 1, 0x01, 1, 0, 0x20, 2592, 0, 0, 0⟩,
  ⟨0x9000, 1, 0x02, 1, 0, 0x20, 64, 0, 0, 0⟩,
  ⟨0x9000, 1, 0x03, 1, 0, 0x20, 4096, 0, 0, 0⟩,
  ⟨0x9000, 1, 0x04, 1, 0, 0x20, 531, 0, 0, 0⟩,
  ⟨0x9000, 1, 0x05, 1, 0, 0x20, 256, 0, 0, 0⟩,
  ⟨0x9000, 1, 0x06, 1, 0, 0x01, 1, 0, 0, 0⟩,
  ⟨0x9020, 1, 0x01, 1, 5, 0x20, 96, 0, 0, 0⟩,
  ⟨0x9020, 1, 0x02, 1, 0, 0x02, 2, 0, 0, 0⟩,
  ⟨0x9020, 1, 0x03, 1, 0, 0x20, 512, 0, 0, 0⟩,
  ⟨0x9020, 1, 0x04, 1, 0, 0x20, 4096, 0, 0, 0⟩,
  ⟨0x9020, 1, 0x05, 1, 0, 0x20, 531, 0, 0, 0⟩,
  ⟨0x9020, 1, 0x06, 1, 0, 0x04, 8, 0, 0, 0⟩,
  ⟨0x9030, 1, 0x01, 16, 1, 0x20, 64, 0, 0, 0⟩,
  ⟨0x9040, 24, 0x01, 1, 0, 0x03, 4, 0, 0, 0⟩,
  ⟨0x9040, 24, 0x02, 1, 0, 0x20, 64, 0, 0, 0⟩,
  ⟨0x9040, 24, 0x03, 1, 0, 0x20, 64, 0, 0, 0⟩,
  ⟨0x9040, 24, 0x04, 1, 0, 0x01, 1, 0, 0, 0⟩,
  ⟨0x9040, 24, 0x05, 1, 3, 0x01, 1, 0, 1, 1⟩,
  ⟨0x9040, 24, 0x06, 1, 0, 0x03, 4, 0, 0, 0⟩,
  ⟨0x9040, 24, 0x07, 1, 0, 0x04, 8, 0, 0, 0⟩,
  ⟨0x9060, 1, 0x01, 1, 2, 0x01, 1, 0, 0, 1⟩,
  ⟨0x9060, 1, 0x02, 1, 0, 0x01, 1, 0, 0, 0⟩,
  ⟨0x9060, 1, 0x03, 1, 0, 0x03, 4, 0, 0, 0⟩]

def objs7 : List Obj := [
  ⟨0x9070, 1, 0x01, 1, 0, 0x20, 1568, 0, 0, 0⟩,
  ⟨0x9070, 1, 0x02, 1, 3, 0x20, 1616, 0, 0, 0⟩,
  ⟨0x9070, 1, 0x03, 1, 3, 0x01, 1, 0, 1, 1⟩,
  ⟨0x9070, 1, 0x04, 1, 0, 0x03, 4, 0, 0, 0⟩,
  ⟨0x9080, 1, 0x01, 1, 5, 0x20, 48, 0, 0, 0⟩,
  ⟨0x9080, 1, 0x02, 1, 0, 0x02, 2, 0, 0, 0⟩,
  ⟨0x9080, 1, 0x03, 1, 0, 0x20, 1568, 0, 0, 0⟩,
  ⟨0x9080, 1, 0x04, 1, 0, 0x20, 512, 0, 0, 0⟩,
  ⟨0x9080, 1, 0x05, 1, 0, 0x20, 4096, 0, 0, 0⟩,
  ⟨0x9080, 1, 0x06, 1, 0, 0x20, 531, 0, 0, 0⟩,
  ⟨0x9080, 1, 0x07, 1, 5, 0x20, 1648, 0, 0, 0⟩,
  ⟨0x9080, 1, 0x08, 1, 3, 0x03, 4, 0, 0, 0xFFFFFFFF⟩,
  ⟨0x9080, 1, 0x09, 1, 0, 0x02, 2, 0, 0, 0⟩,
  ⟨0xA000, 1, 0x01, 1, 5, 0x01, 1, 0, 1, 1⟩,
  ⟨0xA000, 1, 0x02, 1, 1, 0x04, 8, 0, 0, 0xFFFFFFFFFFFFFFFF⟩,
  ⟨0xA000, 1, 0x03, 1, 1, 0x03, 4, 0, 1, 0x400000⟩,
  ⟨0xA000, 1, 0x04, 1, 1, 0x04, 8, 0, 0, 0xFFFFFFFFFFFFFFFF⟩,
  ⟨0xA000, 1, 0x05, 1, 3, 0x01, 1, 0, 1, 1⟩,
  ⟨0xA000, 1, 0x06, 1, 0, 0x01, 1, 0, 0, 0⟩,
  ⟨0xA000, 1, 0x07, 1, 0, 0x02, 2, 0, 0, 0⟩,
  ⟨0xA000, 1, 0x08, 1, 0, 0x20, 6, 0, 0, 0⟩,
  ⟨0xA000, 1, 0x09, 1, 0, 0x20, 24, 0, 0, 0⟩,
  ⟨0xA000, 1, 0x0A, 1, 0, 0x04, 8, 0, 0, 0⟩,
  ⟨0xA010, 1, 0x01, 1, 0, 0x03, 4, 0, 0, 0⟩,
  ⟨0xA010, 1, 0x02, 16, 0, 0x20, 64, 0, 0, 0⟩,
  ⟨0xA010, 1, 0x12, 1, 0, 0x03, 4, 0, 0, 0⟩,
  ⟨0xA020, 1, 0x01, 1, 0, 0x01, 1, 0, 0, 0⟩,
  ⟨0xA020, 1, 0x02, 1, 0, 0x01, 1, 0, 0, 0⟩,
  ⟨0xA020, 1, 0x03, 1, 4, 0x01, 1, 0, 0, 0⟩,
  ⟨0xA020, 1, 0x04, 1, 3, 0x01, 1, 0, 1, 1⟩,
  ⟨0xA030, 1, 0x01, 1, 0, 0x20, 64, 0, 0, 0⟩,
  ⟨0xA030, 1, 0x02, 1, 0, 0x20, 64, 0, 0, 0⟩,
  ⟨0xA030, 1, 0x03, 1, 0, 0x20, 64, 0, 0, 0⟩,
  ⟨0xA030, 1, 0x04, 1, 0, 0x20, 64, 0, 0, 0⟩,
  ⟨0xA100, 1, 0x01, 1, 0, 0x01, 1, 0, 0, 0⟩,
  ⟨0xA100, 1, 0x02, 1, 0, 0x01, 1, 0, 0, 0⟩,
  ⟨0xA100, 1, 0x03, 1, 0, 0x01, 1, 0, 0, 0⟩,
  ⟨0xA100, 1, 0x04, 1, 0, 0x03, 4, 0, 0, 0⟩,
  ⟨0xA100, 1, 0x05, 1, 0, 0x03, 4, 0, 0, 0⟩,
  ⟨0xA100, 1, 0x06, 1, 0, 0x03, 4, 0, 0, 0⟩]

def objs8 : List Obj := [
  ⟨0xA110, 1, 0x01, 1, 0, 0x01, 1, 0, 0, 0⟩,
  ⟨0xA110, 1, 0x02, 1, 0, 0x04, 8, 0, 0, 0⟩,
  ⟨0xA110, 1, 0x03, 1, 0, 0x04, 8, 0, 0, 0⟩,
  ⟨0xA110, 1, 0x04, 1, 0, 0x04, 8, 0, 0, 0⟩,
  ⟨0xA110, 1, 0x05, 1, 0, 0x04, 8, 0, 0, 0⟩,
  ⟨0xA110, 1, 0x06, 1, 0, 0x04, 8, 0, 0, 0⟩,
  ⟨0xA110, 1, 0x07, 1, 0, 0x01, 1, 0, 0, 0⟩,
  ⟨0xB000, 1, 0x01, 1, 1, 0x02, 2, 0x3E8, 0x64, 0x2710⟩,
  ⟨0xB000, 1, 0x02, 1, 1, 0x01, 1, 1, 0, 0xFF⟩,
  ⟨0xB000, 1, 0x03, 1, 1, 0x01, 1, 0, 0, 0x3F⟩,
  ⟨0xB000, 1, 0x04, 1, 1, 0x02, 2, 0x3FFF, 0, 0x3FFF⟩,
  ⟨0xB000, 1, 0x05, 1, 1, 0x03, 4, 0, 0, 0xFFFFFFFF⟩,
  ⟨0xB000, 1, 0x06, 1, 1, 0x20, 16, 0, 0, 0xFFFFFFFFFFFFFFFFFFFFFFFFFFFFFFFF⟩,
  ⟨0xB000, 1, 0x07, 1, 1, 0x02, 2, 0x4FF7, 1, 0xFFFF⟩,
  ⟨0xB000, 1, 0x08, 1, 0, 0x04, 8, 0, 0, 0⟩,
  ⟨0xB000, 1, 0x09, 1, 0, 0x04, 8, 0, 0, 0⟩,
  ⟨0xB000, 1, 0x0A, 1, 0, 0x04, 8, 0, 0, 0⟩,
  ⟨0xB000, 1, 0x0B, 1, 0, 0x02, 2, 0, 0, 0⟩,
  ⟨0xB000, 1, 0x0C, 1, 0, 0x20, 4096, 0, 0, 0⟩,
  ⟨0xB010, 1, 0x01, 1, 0, 0x01, 1, 0, 0, 0⟩,
  ⟨0xB010, 1, 0x02, 1, 1, 0x01, 1, 0xFF, 0, 0xFF⟩,
  ⟨0xB010, 1, 0x03, 1, 1, 0x01, 1, 0, 0, 7⟩,
  ⟨0xB010, 1, 0x04, 1, 1, 0x02, 2, 0x40, 0x10, 0x1000⟩,
  ⟨0xB010, 1, 0x05, 1, 0, 0x03, 4, 0, 0, 0⟩,
  ⟨0xB010, 1, 0x06, 1, 0, 0x04, 8, 0, 0, 0⟩,
  ⟨0xB010, 1, 0x07, 1, 0, 0x03, 4, 0, 0, 0⟩,
  ⟨0xB010, 1, 0x08, 1, 0, 0x04, 8, 0, 0, 0⟩,
  ⟨0xB010, 1, 0x09, 1, 0, 0x20, 64, 0, 0, 0⟩,
  ⟨0xB010, 1, 0x0A, 1, 0, 0x04, 8, 0, 0, 0⟩,
  ⟨0xB010, 1, 0x0B, 1, 5, 0x01, 1, 0, 1, 1⟩,
  ⟨0xB010, 1, 0x0C, 1, 0, 0x02, 2, 0, 0, 0⟩,
  ⟨0xB010, 1, 0x0D, 1, 0, 0x03, 4, 0, 0, 0⟩,
  ⟨0xB020, 1, 0x01, 1, 1, 0x01, 1, 2, 0, 0x18⟩,
  ⟨0xB020, 1, 0x02, 1, 0, 0x01, 1, 0, 0, 0⟩,
  ⟨0xB020, 1, 0x03, 1, 0, 0x03, 4, 0, 0, 0⟩,
  ⟨0xB030, 1, 0x01, 24, 0, 0x01, 1, 0, 0, 0⟩,
  ⟨0xB030, 1, 0x19, 4, 0, 0x01, 1, 0, 0, 0⟩,
  ⟨0xB030, 1, 0x1D, 1, 0, 0x20, 24, 0, 0, 0⟩,
  ⟨0xB030, 1, 0x1E, 1, 1, 0x03, 4, 0x10000, 0x400, 0x100000⟩,
  ⟨0xB030, 1, 0x1F, 1, 1, 0x01, 1, 0x3C, 1, 0x63⟩,
  ⟨0xB030, 1, 0x20, 1, 1, 0x01, 1, 0x4B, 1, 0x64⟩,
  ⟨0xB030, 1, 0x21, 1, 1, 0x01, 1, 0x19, 0, 0x63⟩,
  ⟨0xB030, 1, 0x22, 1, 1, 0x01, 1, 3, 1, 0x10⟩]

def objs9 : List Obj := [
  ⟨0xB040, 1, 0x01, 1, 1, 0x01, 1, 0, 0, 1⟩,
  ⟨0xB040, 1, 0x02, 1, 1, 0x03, 4, 0x4000000, 0x10000, 0x80000000⟩,
  ⟨0xB040, 1, 0x03, 1, 1, 0x03, 4, 0x4000, 0x400, 0x100000⟩,
  ⟨0xB040, 1, 0x04, 1, 0, 0x01, 1, 0, 0, 0⟩,
  ⟨0xB040, 1, 0x05, 1, 0, 0x03, 4, 0, 0, 0⟩,
  ⟨0xB040, 1, 0x06, 1, 0, 0x03, 4, 0, 0, 0⟩,
  ⟨0xB050, 1, 0x01, 1, 1, 0x02, 2, 0x10, 1, 0x1000⟩,
  ⟨0xB050, 1, 0x02, 1, 0, 0x03, 4, 0, 0, 0⟩,
  ⟨0xB050, 1, 0x03, 1, 0, 0x02, 2, 0x3FFF, 0, 0⟩,
  ⟨0xB100, 1, 0x01, 1, 0, 0x04, 8, 0, 0, 0⟩,
  ⟨0xB100, 1, 0x02, 1, 0, 0x20, 64, 0, 0, 0⟩,
  ⟨0xB100, 1, 0x03, 1, 1, 0x04, 8, 0, 0, 0xFFFFFFFFFFFFFFFF⟩,
  ⟨0xB100, 1, 0x04, 1, 0, 0x04, 8, 0, 0, 0⟩,
  ⟨0xB100, 1, 0x05, 1, 0, 0x04, 8, 0, 0, 0⟩,
  ⟨0xB100, 1, 0x06, 1, 1, 0x04, 8, 0, 0, 0xFFFFFFFFFFFFFFFF⟩,
  ⟨0xB100, 1, 0x07, 1, 1, 0x04, 8, 0, 0, 0xFFFFFFFFFFFFFFFF⟩,
  ⟨0xB100, 1, 0x08, 1, 1, 0x03, 4, 0, 1, 0x100000⟩,
  ⟨0xB100, 1, 0x09, 1, 5, 0x01, 1, 0, 1, 1⟩,
  ⟨0xB100, 1, 0x0A, 1, 0, 0x02, 2, 0, 0, 0⟩,
  ⟨0xB100, 1, 0x0B, 1, 1, 0x04, 8, 0, 0, 0xFFFFFFFFFFFFFFFF⟩,
  ⟨0xB100, 1, 0x0C, 1, 0, 0x20, 128, 0, 0, 0⟩,
  ⟨0xB100, 1, 0x0D, 1, 0, 0x04, 8, 0xFFFFFFFFFFFFFFFF, 0, 0⟩,
  ⟨0xB110, 1, 0x01, 1, 1, 0x03, 4, 0, 0, 0xFFFFFFFF⟩,
  ⟨0xB110, 1, 0x02, 1, 0, 0x01, 1, 0xFF, 0, 0⟩,
  ⟨0xB110, 1, 0x03, 1, 1, 0x01, 1, 1, 0, 1⟩,
  ⟨0xB110, 1, 0x04, 1, 0, 0x04, 8, 0, 0, 0⟩,
  ⟨0xB110, 1, 0x05, 1, 0, 0x03, 4, 0, 0, 0⟩,
  ⟨0xB110, 1, 0x06, 1, 0, 0x20, 16, 0, 0, 0⟩,
  ⟨0xB110, 1, 0x07, 1, 4, 0x01, 1, 0, 0, 0⟩,
  ⟨0xB110, 1, 0x08, 1, 1, 0x01, 1, 4, 1, 8⟩,
  ⟨0xB120, 1, 0x01, 1, 0, 0x20, 64, 0, 0, 0⟩,
  ⟨0xB120, 1, 0x02, 1, 0, 0x04, 8, 0, 0, 0⟩,
  ⟨0xB120, 1, 0x03, 1, 0, 0x04, 8, 0, 0, 0⟩,
  ⟨0xB130, 1, 0x01, 1, 1, 0x03, 4, 0, 0, 0xFFFFFFFF⟩,
  ⟨0xB130, 1, 0x02, 1, 1, 0x04, 8, 0, 0, 0xFFFFFFFFFFFFFFFF⟩,
  ⟨0xB130, 1, 0x03, 1, 1, 0x04, 8, 0, 0, 0xFFFFFFFFFFFFFFFF⟩,
  ⟨0xB130, 1, 0x04, 1, 5, 0x01, 1, 0, 1, 1⟩,
  ⟨0xB130, 1, 0x05, 1, 0, 0x02, 2, 0, 0, 0⟩,
  ⟨0xB130, 1, 0x06, 1, 0, 0x20, 64, 0, 0, 0⟩,
  ⟨0xB130, 1, 0x07, 1, 0, 0x01, 1, 0, 0, 0⟩,
  ⟨0xB140, 1, 0x01, 6, 0, 0x04, 8, 0, 0, 0⟩,
  ⟨0xB140, 1, 0x07, 1, 0, 0x20, 4096, 0, 0, 0⟩,
  ⟨0xB140, 1, 0x08, 1, 0, 0x04, 8, 0, 0, 0⟩,
  ⟨0xB140, 1, 0x09, 1, 4, 0x01, 1, 0, 0, 0⟩]

def objs10 : List Obj := [
  ⟨0xB150, 1, 0x01, 24, 1, 0x12, 2, 0x8000, 0, 0xFFFF⟩,
  ⟨0xB150, 1, 0x19, 1, 0, 0x20, 24, 0, 0, 0⟩,
  ⟨0xB150, 1, 0x1A, 1, 0, 0x20, 24, 0, 0, 0⟩,
  ⟨0xF000, 1, 0x01, 1, 0, 0x03, 4, 0, 0, 0⟩,
  ⟨0xF000, 1, 0x02, 1, 1, 0x03, 4, 0, 0, 0xFFFFFFFF⟩,
  ⟨0xF000, 1, 0x03, 1, 0, 0x20, 50, 0, 0, 0⟩,
  ⟨0xF000, 1, 0x04, 1, 0, 0x01, 1, 0, 0, 0⟩,
  ⟨0xF000, 1, 0x05, 1, 0, 0x20, 8, 0, 0, 0⟩]

/-- The rows of the dictionary. -/
def objTable : List Obj := objs0 ++ objs1 ++ objs2 ++ objs3 ++ objs4 ++ objs5 ++ objs6 ++ objs7 ++ objs8 ++ objs9 ++ objs10

/-- The row that defines a sub-index (R371). -/
def findObj (idx sub : Nat) : Option Obj :=
  objTable.find? fun o =>
    decide (o.idx ≤ idx) && decide (idx < o.idx + o.n) && decide (o.sub ≤ sub) && decide (sub < o.sub + o.m)

/-- The highest sub-index that an object defines, 0 where no chapter defines the index (R370). -/
def objCount (idx : Nat) : Nat :=
  objTable.foldl (fun c o => if decide (o.idx ≤ idx) && decide (idx < o.idx + o.n) then max c (o.sub + o.m - 1) else c) 0

/-- Key of a dictionary cell. -/
def regKey (idx sub : Nat) : Nat := 256 * idx + sub

/-- Whether a sub-index lives in the persistent store: RWP objects, the start history with FAILED_COUNT, the last
trip and the sequence floor (R381, R416, R447). -/
def isPersistent (idx sub : Nat) : Bool :=
  (match findObj idx sub with
   | some o => o.acc == 2
   | none => false) ||
  (idx == 0xA010 && sub == 1) || (idx == 0xA020 && sub == 3) || (idx == 0x7040 && sub == 7) || (idx == 0x9070 && sub == 4)

end Sys2Proof.Machine
end

