-- ==== Sys2Proof/Machine/Ops.lean ====
section
/-! DEFINITION. Operations that every chapter uses: the register file, emissions, time stamps, free values, tallies,
trace records, fault events, timing exceptions and the journal. -/

namespace Sys2Proof.Machine

/-- What a command answers. -/
abbrev Out := Host.Outcome State Fault Refusal

/-! ### Emissions and free values (log 5, log 6) -/

/-- Append one emission. -/
def State.emit (s : State) (e : Emit) : State := { s with out := s.out ++ [e] }

/-- Append emissions in order. -/
def State.emits (s : State) (l : List Emit) : State := { s with out := s.out ++ l }

/-- Move to the next free value. -/
def State.draw (s : State) : State := { s with fresh := s.fresh + 1 }

/-! ### The register file (12) -/

/-- Default of a sub-index for the fitted variant (Table 10.4, 5000:03, R456, R531). -/
def regDefault (v : Variant) (idx sub : Nat) : Nat :=
  match findObj idx sub with
  | none => 0
  | some o =>
    if idx = 0x2030 ∧ sub = 2 ∧ v ≠ .f then 8
    else if idx = 0x2030 ∧ sub = 3 ∧ v ≠ .f then 32
    else if idx = 0x5000 ∧ sub = 3 ∧ v ≠ .f then 600
    else if idx = 0x7010 ∧ sub = 2 ∧ v = .n then 0
    else if idx = 0x2020 ∧ sub = 1 then Config.defaultPhases.toNat
    else if 0x8040 ≤ idx ∧ idx < 0x8080 ∧ sub = 1 then (if idx < 0x8060 then 0xFF00 + (idx - 0x8040) else 0xFFFF)
    else o.dflt

/-- The value held in a dictionary cell. -/
def State.reg (s : State) (idx sub : Nat) : Nat :=
  if isPersistent idx sub then tget s.nv (regKey idx sub) (regDefault s.boot.variant idx sub)
  else tget s.regs (regKey idx sub) (regDefault s.boot.variant idx sub)

/-- The value of a persistent setting that the running start began with (R398). -/
def State.inForce (s : State) (idx sub : Nat) : Nat :=
  tget s.boot.config (regKey idx sub) (regDefault s.boot.variant idx sub)

/-- Set a dictionary cell, with no check and no wear. -/
def State.setReg (s : State) (idx sub v : Nat) : State :=
  if isPersistent idx sub then { s with nv := tset s.nv (regKey idx sub) v }
  else { s with regs := tset s.regs (regKey idx sub) v }

/-- Add to a dictionary cell of a given width in bits, modulo 2^w. -/
def State.addReg (s : State) (idx sub w n : Nat) : State := s.setReg idx sub ((s.reg idx sub + n) % 2 ^ w)

/-- The device's end-point ID (1000:09), 0x3FFF for none. -/
def State.ownEp (s : State) : Nat := s.reg 0x1000 9

/-- Confidential mode is in force (9060:02). -/
def State.confidential (s : State) : Bool := s.reg 0x9060 2 == 1

/-- The device is in boot ROM or in minimal mode, before a released image (R380, R404). -/
def State.bootSet (s : State) : Bool :=
  match s.boot.phase with
  | .ready => false
  | .initialising => false
  | _ => true

/-- READY has been reached (Table 13.7). -/
def State.isReady (s : State) : Bool := s.boot.phase == .ready

/-! ### Units that may be absent: only 1020 tells (R3, R7) -/

/-- The Counting Board is present. -/
def State.hasBoard (s : State) : Bool := s.reg 0x1020 1 != 0

/-- Fitted HBM3E stacks, and LPDDR5X halves of 128 GiB (R326, Table 10.1). -/
def State.stacks (s : State) : List Nat := maskBits (s.reg 0x1020 2) 4
def State.halves (s : State) : List Nat := (List.range 2).filter fun k => decide (128 * k < s.reg 0x1020 4)

/-! ### Time (R36, R538, R539) -/

/-- Slot length, span length and slots per span in force. -/
def State.slotLen (s : State) : Nat := 2 ^ s.sched.slotLog
def State.spanLen (s : State) : Nat := 2 ^ s.sched.spanLog
def State.slots (s : State) : Nat := 2 ^ (s.sched.spanLog - s.sched.slotLog)

/-- Grain offset of an event: the slot in which it falls begins there (log 20). -/
def State.offsetNow (s : State) : Nat := s.clock.slot * s.slotLen

/-- Span of a time stamp (R539). -/
def State.stampSpan (s : State) : Nat := if s.clock.running then s.clock.span else 0xFFFFFFFFFFFFFFFF

/-- Grain offset of a time stamp (R539). -/
def State.stampOffset (s : State) : Nat := if s.clock.running then s.offsetNow else 0x3FFF

/-- A stamp taken now carries UNALIGNED. -/
def State.unaligned (s : State) : Bool := !s.clock.running || s.clock.align != 2

/-! ### Tallies (18) -/

/-- Add n to tally number k; no device tally counts in confidential mode (R524, R537). -/
def State.tally (s : State) (k n : Nat) : State :=
  if s.confidential then s
  else { s with tallies := { s.tallies with counts := tmod s.tallies.counts k 0 (fun c => (c + n) % 2 ^ 64) } }

def State.portTally (s : State) (p e n : Nat) : State := s.tally (48 * p + e) n
def State.quarterTally (s : State) (q e n : Nat) : State := s.tally (2744 + 64 * q + e) n
def State.memTally (s : State) (u e n : Nat) : State := s.tally (3000 + 32 * u + e) n
def State.devTally (s : State) (e n : Nat) : State := s.tally (3192 + e) n

/-- Value of a tally. -/
def State.tallyOf (s : State) (k : Nat) : Nat := tget s.tallies.counts k 0

/-- Add to count c of partition p's set; it counts only while p is OPEN, but for ADMITS_REFUSED (R535). -/
def State.partTally (s : State) (p c n : Nat) : State :=
  if s.confidential then s
  else if s.reg (0x6100 + p) 1 = 1 ∨ c = 12 then
    { s with tallies := { s.tallies with parts := tmod s.tallies.parts (16 * p + c) 0 (fun v => (v + n) % 2 ^ 64) } }
  else s

/-- Add to value i of link n's light set, in every mode (R536). -/
def State.light (s : State) (link i n : Nat) : State :=
  { s with tallies := { s.tallies with light := tmod s.tallies.light (8 * link + i) 0 (fun v => (v + n) % 2 ^ 64) } }

/-- A tagged set as it stands, by default bound to context k on all ports for k below 32 (R531). -/
def State.tagSet (s : State) (k : Nat) : TagSet := tget s.tallies.sets k (if k < 32 then { ctx := k } else {})

/-- A set counts events of its bound context, at its port for the events that the filter concerns (R532). -/
def TagSet.hears (t : TagSet) (ctx : Nat) (port : Option Nat) : Bool :=
  t.ctx == ctx && (t.filter == 0xFF || port.isNone || port == some t.filter)

def State.tagOne (ctx : Nat) (port : Option Nat) (c n : Nat) (s : State) (k : Nat) : State :=
  let t := s.tagSet k
  if t.hears ctx port then
    { s with tallies := { s.tallies with
      sets := tset s.tallies.sets k { t with counts := tmod t.counts c 0 (fun v => (v + n) % 2 ^ 64) } } }
  else s

/-- Add to count c of every tagged set that hears an event (R532). -/
def State.tagTally (s : State) (ctx : Nat) (port : Option Nat) (c n : Nat) : State :=
  if s.confidential then s else (List.range 64).foldl (State.tagOne ctx port c n) s

/-! ### Trace records (18) -/

/-- Records that the trace ring holds (R541). -/
def State.traceCap (s : State) : Nat := s.reg 0x8300 0x10

/-- Write one trace record of a class with a stamp; `resumed`: of a domain that was down (R540 to R543). -/
def State.traceAt (s : State) (span offset : Nat) (cls kind port : Nat) (part : Option Nat) (subject data : Nat)
    (resumed : Bool := false) : State :=
  if s.confidential || !bit (s.reg 0x8300 1) cls then s
  else
    let t := s.tallies
    let full := s.traceCap ≤ t.written - t.oldest
    if s.traceCap = 0 ∨ (full ∧ s.reg 0x8300 4 = 1) then
      { s with tallies := { t with lost := t.lost + 1, lossMark := true } }
    else
      let bits := put data 127 0 + put subject 151 128 + put kind 159 152 + put (b2n t.lossMark) 162 162
        + put (b2n s.unaligned) 163 163 + put (b2n resumed) 164 164 + put (b2n part.isSome) 165 165 + put (part.getD 0) 171 166
        + put port 177 172 + put offset 191 178 + put span 255 192
      let old := if full then t.oldest + 1 else t.oldest
      let s := { s with tallies := { t with
        trace := t.trace.filter (fun (r : TraceRec) => decide (old ≤ r.num)) ++ [TraceRec.mk t.written (BitVec.ofNat 256 bits)],
        written := t.written + 1, oldest := old, lossMark := false } }
      s.devTally 14 1

/-- Write one trace record stamped now. -/
def State.trace (s : State) (cls kind port : Nat) (part : Option Nat) (subject data : Nat) : State :=
  s.traceAt s.stampSpan s.stampOffset cls kind port part subject data

/-! ### Fault events (17) -/

def FaultRep.sameKey (a b : FaultRep) : Bool :=
  a.kind == b.kind && a.subjType == b.subjType && a.subjId == b.subjId && a.closing == b.closing

/-- Fold event b into report a (R516). -/
def FaultRep.absorb (a b : FaultRep) : FaultRep :=
  { a with
    count := satAdd a.count b.count 0xFFFFFFFF, lastSpan := b.lastSpan, reporters := a.reporters ||| b.reporters,
    sustained := a.sustained || b.sustained }

/-- Fold an event: into its open window, into its queued report, or into a window that it opens (R516). -/
def State.foldNow (s : State) (f : FaultRep) : State :=
  if s.faults.windows.any f.sameKey then
    ({ s with faults := { s.faults with windows := lmodFirst s.faults.windows f.sameKey (·.absorb f) } }).addReg 0xB000 9 64 f.count
  else if s.faults.queue.any f.sameKey then
    ({ s with faults := { s.faults with queue := lmodFirst s.faults.queue f.sameKey (·.absorb f) } }).addReg 0xB000 9 64 f.count
  else { s with faults := { s.faults with windows := s.faults.windows ++ [f] } }

/-- Take an event: core T folds it, or while core T is stopped it waits, as one of at most 1,024 (Table 13.9). -/
def State.foldEvent (s : State) (f : FaultRep) : State :=
  let s := s.devTally 2 f.count
  let s := s.traceAt s.stampSpan s.stampOffset 5 8 0x3F f.part f.kind
    (put f.subjId 31 0 + put f.subjType 35 32 + put f.detail 67 36 + put f.status 83 68) f.resumed
  if (tget s.boot.cores 4 {}).state < 2 then s.foldNow f
  else if s.faults.waiting.length < 1024 then { s with faults := { s.faults with waiting := s.faults.waiting ++ [f] } }
  else ({ s with faults := { s.faults with loss := true } }).addReg 0xB000 0x0A 64 f.count

/-- A fault event of this device, with the stamp of R513. -/
def State.event (s : State) (kind subjType subjId status detail severity : Nat)
    (part : Option Nat := none) (closing : Bool := false) (sustained : Bool := false) : FaultRep :=
  { kind, subjType, subjId, closing, status, detail, severity, part, sustained, count := 1,
    unaligned := s.unaligned, firstSpan := s.stampSpan, lastSpan := s.stampSpan,
    firstOffset := s.stampOffset, reporters := 2 ^ 48 }

/-- Raise a fault event of this device. -/
def State.fault (s : State) (kind subjType subjId status detail severity : Nat)
    (part : Option Nat := none) (closing : Bool := false) (sustained : Bool := false) : State :=
  s.foldEvent (s.event kind subjType subjId status detail severity part closing sustained)

/-- An event of a domain that was down, stamped with the edge on which the domain resumes (R540). -/
def State.resumeEvent (s : State) (f : FaultRep) : FaultRep :=
  { f with resumed := true, unaligned := s.unaligned, firstSpan := s.stampSpan, lastSpan := s.stampSpan,
           firstOffset := s.stampOffset }

/-! ### Declared timing exceptions (16) -/

/-- Count one exception and log it, one record per kind, port and span (R478, R479). -/
def State.exception (s : State) (kind port part slot : Nat) : State :=
  let e := s.exc
  let same (r : ExcRec) : Bool := r.kind == kind && r.port == port && r.span == s.clock.span
  let log :=
    if e.log.any same then
      lmodFirst e.log same (fun r =>
        { r with count := satAdd r.count 1 0xFFFFFFFF, part := if r.part = part then r.part else 127 })
    else (({ span := s.clock.span, kind, port, part, slot, count := 1 } : ExcRec) :: e.log).take 256
  { s with exc := { e with
      counts := tmod e.counts kind 0 (fun c => (c + 1) % 2 ^ 64), log, lastSpan := s.clock.span,
      firstSpan := some (e.firstSpan.getD s.clock.span) } }

/-- Count of a kind (B140:01 to B140:06). -/
def State.excCount (s : State) (kind : Nat) : Nat := tget s.exc.counts kind 0

/-! ### The journal (16) -/

/-- The 128 octets of an entry as a number (Table 16.6). -/
def JEntry.bits (e : JEntry) : Nat :=
  put e.flags 175 168 + put e.kind 183 176 + put e.primitive 190 187 + put e.ctx 195 191 + put e.part 201 196
  + put e.ep 215 202 + put e.count 255 216 + put e.status 271 256 + put e.layerTag 287 272 + put e.opTag 319 288
  + put e.reference 383 320 + put e.seq 447 384 + put e.span 511 448 + put e.digest 1023 512

def JEntry.bytes (e : JEntry) : Bytes := natLe 128 e.bits

/-- Entries that the ring holds (B100:04). -/
def State.journalCap (s : State) : Nat := s.reg 0xB100 4

/-- The entry that would be overwritten next may be overwritten (R491). -/
def State.journalRoom (s : State) : Bool :=
  decide (s.journal.next < s.journalCap) || decide (s.journal.next - s.journalCap ≤ s.reg 0xB100 3)

/-- Write one entry with the next SEQUENCE and extend the chain (R488, R489). -/
def State.journalPut (s : State) (e : JEntry) : State :=
  let j := s.journal
  let e := { e with seq := j.next, span := if s.clock.align = 2 then s.clock.span else 0, ep := s.ownEp }
  let keep := j.next + 1 - s.journalCap
  let e := { e with chain := sha3n (natLe 64 j.head ++ e.bytes) }
  let s := { s with journal := { j with
    entries := j.entries.filter (fun (x : JEntry) => decide (keep ≤ x.seq)) ++ [e], next := j.next + 1, head := e.chain } }
  s.devTally 4 1

/-- Count an entry that finds no room (R491). -/
def State.journalLose (s : State) : State :=
  let j := s.journal
  let s' := { s with journal := { j with
    lost := j.lost + 1, gap := j.gap + 1, gapSpan := if j.gap = 0 then s.clock.span else j.gapSpan } }
  if j.gap = 0 then s'.fault 0x14 0 0 St.ok 100 2 else s'

/-- The 90 % report, armed again below 80 % (R491). -/
def State.journalFill (s : State) : State :=
  let un := s.journal.next - 1 - s.reg 0xB100 3
  if !s.journal.filling && decide (9 * s.journalCap ≤ 10 * un) then
    ({ s with journal := { s.journal with filling := true } }).fault 0x14 0 0 St.ok 90 2
  else if s.journal.filling && decide (10 * un < 8 * s.journalCap) then
    { s with journal := { s.journal with filling := false } }
  else s

/-- A CHECKPOINT entry before every entry whose SEQUENCE is a multiple of 65,536 (Table 16.7, log 21). -/
def State.journalCheckpoint (s : State) : State :=
  if (s.journal.next + 1) % 65536 = 0 ∧ s.journalRoom then
    s.journalPut { kind := 9, digest := s.journal.head, reference := s.journal.next - 1 }
  else s

/-- A GAP entry when room has returned after lost entries (R491). -/
def State.journalGap (s : State) : State :=
  if s.journal.gap ≠ 0 ∧ s.journalRoom then
    let s := s.journalPut { kind := 8, count := s.journal.gap, reference := s.journal.gapSpan }
    { s with journal := { s.journal with gap := 0 } }
  else s

/-- Append an entry to the audit journal (R488 to R491). -/
def State.append (s : State) (e : JEntry) : State :=
  let s := (s.journalGap).journalCheckpoint
  if s.journalRoom then (s.journalPut e).journalFill else s.journalLose

/-! ### Vectors (11) -/

def State.fn (s : State) (f : Nat) : FnState := tget s.host.fns f {}

def State.setFn (s : State) (f : Nat) (x : FnState) : State :=
  { s with host := { s.host with fns := tset s.host.fns f x } }

def State.modFn (s : State) (f : Nat) (g : FnState → FnState) : State := s.setFn f (g (s.fn f))

/-- Signal a vector of a function, or set its pending bit while it is masked (R362). -/
def State.signal (s : State) (f v : Nat) : State :=
  if (s.fn f).unmasked.contains v then s.emit (.vector f v)
  else if (s.fn f).pendingVec.contains v ∨ (if f = 0 then 64 else 31) ≤ v then s
  else s.modFn f fun x => { x with pendingVec := x.pendingVec ++ [v] }

end Sys2Proof.Machine
end

