-- ==== Sys2Proof/Machine/Grains.lean ====
section
/-! DEFINITION. Grains: their header fields (Tables 3.1 to 3.8), their check word, how one is formed, and the routes by
which an open grain or a token leaves the device (03). -/

namespace Sys2Proof

/-! ### Header fields -/

/-- Field [hi:lo] of the class part of the header. -/
def Grain.f (g : Grain) (hi lo : Nat) : Nat := Machine.fld g.body.toNat hi lo

/-! Memory grains (Table 3.4); DST_EP lies at the same place on VC1 and VC6 (Tables 3.5, 3.7). -/
def Grain.dst (g : Grain) : Nat := g.f 111 98
def Grain.key (g : Grain) : Nat := g.f 97 66
def Grain.ctxLocal (g : Grain) : Nat := g.f 65 56
def Grain.handle (g : Grain) : Nat := g.f 55 35
def Grain.chunk (g : Grain) : Nat := g.f 34 4
def Grain.chunks (g : Grain) : Nat := g.f 3 2
def Grain.colour (g : Grain) : Nat := g.f 1 0

/-- The 16-bit context identifier (R84). -/
def Grain.ctxId (g : Grain) : Nat := g.part.toNat * 1024 + g.ctxLocal

/-! Responses (Table 3.5). -/
def Grain.status (g : Grain) : Nat := g.f 97 82
def Grain.reqVc (g : Grain) : Nat := g.f 81 79
def Grain.cumulative (g : Grain) : Bool := g.f 78 78 == 1
def Grain.respChunks (g : Grain) : Nat := g.f 77 76
def Grain.target (g : Grain) : Nat := g.f 75 62
def Grain.path (g : Grain) : Bool := g.f 61 61 == 1

/-! Collective grains (Table 3.6). -/
def Grain.context (g : Grain) : Nat := g.f 111 107
def Grain.sender (g : Grain) : Nat := g.f 106 93
def Grain.block (g : Grain) : Nat := g.f 92 69
def Grain.count (g : Grain) : Nat := g.f 68 66
def Grain.fingerprint (g : Grain) : Nat := g.f 63 0

/-! Management grains (Table 3.7). -/
def Grain.mTarget (g : Grain) : Nat := g.f 97 95
def Grain.mKind (g : Grain) : Nat := g.f 94 87
def Grain.mFragment (g : Grain) : Nat := g.f 86 79
def Grain.mLast (g : Grain) : Bool := g.f 78 78 == 1
def Grain.mLength (g : Grain) : Nat := g.f 77 69

/-! Maintenance grains (Table 3.8). -/
def Grain.laneMask (g : Grain) : Nat := g.f 111 104
def Grain.sequence (g : Grain) : Nat := g.f 103 72

def Grain.isMem (g : Grain) : Bool := g.vc == 0 || g.vc == 2 || g.vc == 3 || g.vc == 4
def Grain.isSched (g : Grain) : Bool := g.vc == 4 || g.vc == 5
def Grain.isOpen (g : Grain) : Bool := g.vc == 0 || g.vc == 1 || g.vc == 2 || g.vc == 3 || g.vc == 6

/-- The 192-bit header (Table 3.1). -/
def Grain.header (g : Grain) : Nat :=
  g.body.toNat + g.tag.toNat * 2 ^ 112 + g.birth.toNat * 2 ^ 127 + g.src.toNat * 2 ^ 133 + g.part.toNat * 2 ^ 147
  + g.op.toNat * 2 ^ 153 + g.vc.toNat * 2 ^ 157 + g.check.toNat * 2 ^ 160

/-- The same grain with another colour (R115). -/
def Grain.withColour (g : Grain) (c : Nat) : Grain :=
  { g with body := BitVec.ofNat 112 (g.body.toNat - g.colour + c % 4) }

/-- The check word: CRC-32C of the header with CHECK and COLOUR zero and of the payload (R94). -/
def Grain.crc (g : Grain) : Nat :=
  let h := { (if g.isMem then g.withColour 0 else g) with check := 0 }
  Machine.crc32c (Machine.natLe 24 h.header ++ Machine.natLe 256 h.payload.toNat)

def Grain.checkOk (g : Grain) : Bool := g.check.toNat == g.crc

/-- Fill BIRTH and CHECK for a send in a span (R83, R94). -/
def Grain.seal (g : Grain) (span : Nat) : Grain :=
  let g := { g with birth := BitVec.ofNat 6 span, check := 0 }
  { g with check := BitVec.ofNat 32 g.crc }

def Grain.bytes (g : Grain) : Bytes := Machine.natLe 256 g.payload.toNat

/-- Chunk i of the payload. -/
def Grain.chunkBytes (g : Grain) (i : Nat) : Bytes := Machine.sliceB g.bytes (64 * i) 64

/-- The mask octets 192 to 215 of a STORE_MASKED: byte j of chunk i is enabled (R88). -/
def Grain.enabled (g : Grain) (i j : Nat) : Bool := Machine.bit g.payload.toNat (8 * 192 + 64 * i + j)

/-- VC and OP are listed together in Table 3.3 (R85). -/
def Grain.legal (g : Grain) : Bool :=
  let v := g.vc.toNat
  let o := g.op.toNat
  (v == 0 && (o ≤ 3 || o == 15)) || (v == 1 && o ≤ 2) || (v == 2 && (o ≤ 8 || o == 15)) ||
  ((v == 3 || v == 4) && (o == 2 || o == 3 || o == 15)) || (v == 5 && o ≤ 6) || (v == 6 && (o ≤ 2 || o == 15)) ||
  (v == 7 && o ≤ 2)

def Grain.isSeqReset (g : Grain) : Bool := g.op == 15 && (g.isMem || g.vc == 6)

/-- A request: a memory grain, or a VC6 REQUEST or SEQ_RESET (R86, R92). -/
def Grain.isRequest (g : Grain) : Bool := g.isMem || (g.vc == 6 && (g.op == 0 || g.op == 15))

end Sys2Proof

namespace Sys2Proof.Machine

/-! ### The operand block of an atomic (R197, R199) -/

/-- Fields of the operand block (Table 6.2). -/
structure AtomOp where
  op : Nat := 0
  size : Nat := 0
  signed : Bool := false
  bf : Bool := false
  offset : Nat := 0
  a : Nat := 0
  b : Nat := 0
  deriving DecidableEq, Repr, Inhabited

def atomOp (g : Grain) : AtomOp :=
  let p := g.payload.toNat
  { op := g.op.toNat, size := fld p 14 13, signed := bit p 12, bf := bit p 11, offset := fld p 5 0, a := fld p 127 64,
    b := fld p 191 128 }

def AtomOp.bytes (o : AtomOp) : Nat := 2 * 2 ^ o.size

/-- An operand has bits above the operand size (R199). -/
def AtomOp.tooWide (o : AtomOp) (a : Nat) : Bool := decide (2 ^ (8 * o.bytes) ≤ a)

/-- The block is malformed whatever OPERAND_A it holds (R199). -/
def AtomOp.misshapen (o : AtomOp) : Bool :=
  o.size == 3 || o.offset % o.bytes != 0 || (o.bf && !(o.op == 8 && o.size == 0)) ||
  (o.signed && !(o.op == 1 || o.op == 2)) || (o.b != 0 && o.op != 7) || o.tooWide o.b

/-- The block is malformed (R199). -/
def AtomOp.bad (o : AtomOp) : Bool := o.misshapen || o.tooWide o.a

/-! ### Forming grains -/

/-- A memory grain (Table 3.4). -/
def mkMem (vc op part src dst key ctx handle chunk chunks : Nat) (payload : Nat) : Grain :=
  { vc := BitVec.ofNat 3 vc, op := BitVec.ofNat 4 op, part := BitVec.ofNat 6 part, src := BitVec.ofNat 14 src,
    body := BitVec.ofNat 112 (put dst 111 98 + put key 97 66 + put ctx 65 56 + put handle 55 35 + put chunk 34 4
      + put chunks 3 2),
    payload := BitVec.ofNat 2048 payload }

/-- A response (Table 3.5) to a request. -/
def mkResp (req : Grain) (src op status : Nat) (cumulative path : Bool) (chunks payload : Nat) : Grain :=
  { vc := 1, op := BitVec.ofNat 4 op, part := req.part, src := BitVec.ofNat 14 src, tag := req.tag,
    body := BitVec.ofNat 112 (put req.src.toNat 111 98 + put status 97 82 + put req.vc.toNat 81 79
      + put (b2n cumulative) 78 78 + put chunks 77 76 + put req.dst 75 62 + put (b2n path) 61 61),
    payload := BitVec.ofNat 2048 payload }

/-- A collective grain (Table 3.6). -/
def mkColl (op part src ctx sender block count fp payload : Nat) : Grain :=
  { vc := 5, op := BitVec.ofNat 4 op, part := BitVec.ofNat 6 part, src := BitVec.ofNat 14 src,
    body := BitVec.ofNat 112 (put ctx 111 107 + put sender 106 93 + put block 92 69 + put count 68 66 + put fp 63 0),
    payload := BitVec.ofNat 2048 payload }

/-- A management grain (Table 3.7). -/
def mkMgmt (op part src dst target kind fragment : Nat) (last : Bool) (data : Bytes) : Grain :=
  { vc := 6, op := BitVec.ofNat 4 op, part := BitVec.ofNat 6 part, src := BitVec.ofNat 14 src,
    body := BitVec.ofNat 112 (put dst 111 98 + put target 97 95 + put kind 94 87 + put fragment 86 79
      + put (b2n last) 78 78 + put (max 1 data.length) 77 69),
    payload := BitVec.ofNat 2048 (leNat data) }

/-! ### Ports and routes (R43, R100, R101) -/

def State.port (s : State) (p : Nat) : PortState := tget s.ports p {}
def State.setPort (s : State) (p : Nat) (x : PortState) : State := { s with ports := tset s.ports p x }
def State.modPort (s : State) (p : Nat) (f : PortState → PortState) : State := s.setPort p (f (s.port p))
def State.link (s : State) (n : Nat) : LinkState := tget s.links n {}
def State.setLink (s : State) (n : Nat) (x : LinkState) : State := { s with links := tset s.links n x }
def State.modLink (s : State) (n : Nat) (f : LinkState → LinkState) : State := s.setLink n (f (s.link n))

/-- ACTIVE or DEGRADED (Table 9.6); the internal port always is. -/
def State.portUp (s : State) (p : Nat) : Bool :=
  p == 48 || (s.port p).state == 5 || (s.port p).state == 7

/-- The link of a port. -/
def linkOf (p : Nat) : Nat := p / 2

/-- The ports of a link under its fixed split. -/
def State.portsOf (s : State) (n : Nat) : List Nat :=
  if (s.link n).split = some true then [2 * n, 2 * n + 1] else [2 * n]

def State.linkUp (s : State) (n : Nat) : Bool := (s.portsOf n).any s.portUp

/-- A half-link: a port of a split link (R33). -/
def State.isHalf (s : State) (p : Nat) : Bool := p != 48 && (s.link (linkOf p)).split == some true

/-- Route table entry of an end-point ID; 0xFFFF before a load (R100). -/
def State.routeEntry (s : State) (dst : Nat) : Nat := tget s.xbar.routes dst 0xFFFF

/-- Mask of an uplink group (3091). -/
def State.group (s : State) (k : Nat) : Nat := tget s.xbar.groups k 0

/-- ACTIVE or DEGRADED ports of a mask, lowest first. -/
def State.activeOf (s : State) (mask : Nat) : List Nat := (maskBits mask 49).filter s.portUp

/-- The hash of R101. -/
def routeHash (src dst vc seed : Nat) : Nat := (src * 40503 + dst * 32587 + vc * 61 + seed) % 65536

/-- The port toward an end-point for one pair and channel (R100, R101); none: unreachable.  DESIGN CHOICE (log 189): so is an
entry of a single port that is still coming up (TRAIN, LOCK, EXCHANGE) or in MARGIN. -/
def State.route (s : State) (src dst vc : Nat) : Option Nat :=
  if dst = s.ownEp then some 48
  else
    let e := s.routeEntry dst
    if e = 0xFFFF then none
    else if e < 0x8000 then (if s.portUp (e % 64) then some (e % 64) else none)
    else
      let l := s.activeOf (s.group (e % 8))
      if l.length = 0 then none else l[routeHash src dst vc (s.reg 0x3090 4) % l.length]?

/-- The device's pair link leads to a port's peer. -/
def State.onPairLink (s : State) (p : Nat) : Bool := p != 48 && linkOf p == s.reg 0xB010 2

/-- An end-point attaches to the device's switch pair (R194): it is the device's own or its partner's, a link is assigned to it
(R230), or the route to it is the pair link alone, whether or not the links run (log 30). -/
def State.attached (s : State) (ep : Nat) : Bool :=
  ep == s.ownEp || (ep != 0x3FFF && (ep == s.pair.partner || ((List.range 24).any fun n => s.reg (0x3000 + n) 0x0A == ep) ||
    (decide (s.routeEntry ep < 0x8000) && s.onPairLink (s.routeEntry ep % 64))))

/-- The device's route to an end-point is a single port (bit 15 = 0; R100, R214). -/
def State.singleRoute (s : State) (ep : Nat) : Bool := ep == s.ownEp || decide (s.routeEntry ep < 0x8000)

/-- The port to which the route table sends an end-point directly. -/
def State.leafPort (s : State) (ep : Nat) : Option Nat :=
  if ep = s.ownEp then some 48 else if s.routeEntry ep < 0x8000 then some (s.routeEntry ep % 64) else none

/-! ### End-points -/

def State.epOf (s : State) : EpSel → EndPoint
  | .internal => s.ep
  | .faette => s.faette

def State.setEp (s : State) : EpSel → EndPoint → State
  | .internal, e => { s with ep := e }
  | .faette, e => { s with faette := e }

def State.modEp (s : State) (w : EpSel) (f : EndPoint → EndPoint) : State := s.setEp w (f (s.epOf w))

def State.modHome (s : State) (w : EpSel) (f : Home → Home) : State :=
  s.modEp w fun e => { e with home := f e.home }

def State.home (s : State) (w : EpSel) : Home := (s.epOf w).home

/-- The end-point's own ID (1000:09 for the device; R230 for a Faette). -/
def State.epId (s : State) : EpSel → Nat
  | .internal => s.ownEp
  | .faette => s.faette.id

def State.epSpan (s : State) : EpSel → Nat
  | .internal => s.clock.span
  | .faette => s.faette.span

/-- A dictionary cell of the end-point: the Faette has its own (R262). -/
def State.epReg (s : State) (w : EpSel) (idx sub : Nat) : Nat :=
  match w with
  | .internal => s.reg idx sub
  | .faette => tget s.faette.regs (regKey idx sub) (regDefault s.boot.variant idx sub)

def State.setEpReg (s : State) (w : EpSel) (idx sub v : Nat) : State :=
  match w with
  | .internal => s.setReg idx sub v
  | .faette => { s with faette := { s.faette with regs := tset s.faette.regs (regKey idx sub) v } }

/-- Side that a link of an accelerator's end-point is (R229, R230). -/
def EndPoint.sideOf (e : EndPoint) (link : Nat) : Nat := if e.cross then 1 - link else link

/-- The port number under which an end-point's grain leaves: 48, or 64 plus the Faette's side (log 22).  Side by the hash of
R102 with n = 2 and seed 0, of a request to a switch of the pair the side of that switch; the other side only while the chosen
one is not up. -/
def State.epPort (s : State) (w : EpSel) (g : Grain) : Nat :=
  match w with
  | .internal => 48
  | .faette =>
    let k := if g.isRequest && s.faette.switches.contains g.dst then s.faette.switches.idxOf g.dst % 2
      else routeHash s.faette.id g.dst g.vc.toNat 0 % 2
    if s.faette.sideUp.contains k then 64 + k
    else if s.faette.sideUp.contains (1 - k) then 64 + (1 - k) else 64 + k

/-- A VC whose grains need credit (R301). -/
def openVc (vc : Nat) : Bool := vc == 0 || vc == 1 || vc == 2 || vc == 3 || vc == 6

/-- An end-point may send one more grain of an open channel on a side (R258). -/
def EndPoint.hasCredit (e : EndPoint) (side vc : Nat) : Bool :=
  let k := 8 * side + vc
  decide ((tget e.credSent k 0 + 65536 - tget e.credFreed k 0) % 65536 < tget e.credInitial k 0)

/-- A grain of an open channel waits for credit on a side. -/
def EndPoint.boxed (e : EndPoint) (side : Nat) (vc : BitVec 3) : Bool :=
  e.outbox.any fun x => x.1 == side && x.2.vc == vc

/-- A grain may leave an end-point on a side now: the side runs, and an open channel has credit that nothing before it waits
for (R258). -/
def EndPoint.mayLeave (e : EndPoint) (side : Nat) (g : Grain) : Bool :=
  e.sideUp.contains side && (!openVc g.vc.toNat || (!e.boxed side g.vc && e.hasCredit side g.vc.toNat))

/-- A grain may leave an end-point now; the internal one's goes to the crossbar. -/
def State.mayLeave (s : State) (w : EpSel) (g : Grain) : Bool :=
  match w with
  | .internal => true
  | .faette => s.faette.mayLeave (s.epPort .faette g - 64) g

/-! ### Lane C of a link (R297, R298) -/

/-- The link of a port's lane C; an accelerator's end-point's links are 64 and 65. -/
def laneCOf (p : Nat) : Nat := if p < 48 then linkOf p else p

/-- A list of links at positive disparity once a link stands at `plus`. -/
def withDisparity (l : List Nat) (n : Nat) (plus : Bool) : List Nat :=
  let r := l.filter (· != n)
  if plus then linsert (fun a b => decide (a < b)) n r else r

/-- What a token looks like as it leaves a port: inside the device it has no code groups. -/
def State.tokenOut (s : State) (p : Nat) (k : String) (fields : Nat) : Emit :=
  .token p k fields (if p = 48 then [] else encodeSymbols (s.disparity.tx.contains (laneCOf p)) (tokenSymbols k fields))

/-- A token leaves a port, and its lane's disparity goes on. -/
def State.putToken (s : State) (p : Nat) (k : String) (fields : Nat) : State :=
  if p = 48 then s.emit (s.tokenOut p k fields)
  else
    let n := laneCOf p
    let plus := s.disparity.tx.contains n
    let after := disparityOver plus (encodeSymbols plus (tokenSymbols k fields))
    { s.emit (s.tokenOut p k fields) with disparity := { s.disparity with tx := withDisparity s.disparity.tx n after } }

/-! ### Grains on a link (R82, R95) -/

/-- Grain positions of a direction in each eight grain times: a half-link has every second, seven lanes skip the eighth. -/
def framePattern (half seven : Bool) (phase : Nat) : List Nat :=
  (List.range 8).filter fun t =>
    let j := (t + 8 - phase % 8) % 8
    !(half && j % 2 == 1) && !(seven && j == 7)

/-- The grain counter at a position of a direction, of which `c0` positions had passed when the running span began: the span
that many spans on, and the grain offset in the frame of the direction's sender (R95). -/
def State.grainCount (s : State) (pat : List Nat) (c0 : Nat) (spans : Int) (offset : Nat) : Nat :=
  let idx := offset / 8 * pat.length + (pat.filter (· < offset % 8)).length
  ((c0 + idx : Int) + spans * ((s.spanLen / 8 * pat.length : Nat) : Int)).toNat

/-- The 24 header octets, which the hop tag authenticates. -/
def headerOctets (g : Grain) : Bytes := natLe 24 g.header

/-- What AES-256-GCM makes of a grain at a grain counter: the encrypted payload, then the tag (R95). -/
def hopSealed (key salt count : Nat) (g : Grain) : Bytes :=
  Config.gcmSeal key (salt % 2 ^ 32 + count % 2 ^ 64 * 2 ^ 32) (headerOctets g) g.bytes

/-- The hop tag: the first 64 bits of the tag. -/
def hopTag (key salt count : Nat) (g : Grain) : BitVec 64 := BitVec.ofNat 64 (leAt (hopSealed key salt count g) 256 8)

/-- The 288 octets of a grain that leaves a port in a grain time; inside the device it has none. -/
def State.wire (s : State) (p : Nat) (g : Grain) (span offset : Nat) : Bytes :=
  if p < 48 then
    let x := s.port p
    let k := (s.link (linkOf p)).session.getD {}
    let salt := if s.isHalf p && p % 2 == 1 then k.saltTxB else k.saltTx
    let n := s.grainCount (framePattern (s.isHalf p) x.lostTx.isSome 0) x.txCount ((span : Int) - s.clock.span) offset
    headerOctets g ++ sliceB (hopSealed k.keyTx salt n g) 0 256 ++ natLe 8 (hopTag k.keyTx salt n g).toNat
  else []

/-- The hop tag of a received grain verifies (R95); inside the device there is none. -/
def State.hopOk (s : State) (p : Nat) (l : IngressLine) : Bool :=
  if p < 48 then
    let x := s.port p
    let k := (s.link (linkOf p)).session.getD {}
    let salt := if s.isHalf p && p % 2 == 1 then k.saltRxB else k.saltRx
    let spans := -(((l.offset : Int) + tget s.clock.offsets (linkOf p) 0) / s.spanLen)
    let n := s.grainCount (framePattern (s.isHalf p) x.lostRx.isSome 0) x.rxCount spans l.offset
    l.tag == hopTag k.keyRx salt n l.grain
  else true

/-- Data lanes on which a port receives (Table 9.2). -/
def State.rxLanes (s : State) (p : Nat) : Nat :=
  if s.isHalf p then 4 else if (s.port p).lostRx.isSome then 7 else 8

/-- What the decoders make of a position at a port; inside the device there are none. -/
def State.decoded (s : State) (p : Nat) (l : IngressLine) : FecOut := if p < 48 then fecOut (s.rxLanes p) l else {}

/-- An idle grain (R294). -/
def idleGrain : Grain := { vc := 7, op := 15 }

/-- A grain of an accelerator's end-point leaves on a side. -/
def State.faetteOut (s : State) (side : Nat) (g : Grain) : State :=
  let g := g.seal s.faette.span
  let s := if openVc g.vc.toNat then
      { s with faette := { s.faette with
        credSent := tmod s.faette.credSent (8 * side + g.vc.toNat) 0 fun n => (n + 1) % 65536 } } else s
  s.emit (.grain (64 + side) g s.faette.span s.offsetNow [])

/-- A grain goes out on a side, or waits there for credit (R258). -/
def State.faetteSend (s : State) (side : Nat) (g : Grain) : State :=
  if s.faette.mayLeave side g then s.faetteOut side g
  else { s with faette := { s.faette with outbox := s.faette.outbox ++ [(side, g)] } }

/-- Send one grain from an end-point; an accelerator's waits for credit (R258). -/
def State.epEmit (s : State) (w : EpSel) (g : Grain) : State :=
  match w with
  | .internal => s.emit (.grain 48 (g.seal s.clock.span) s.clock.span s.offsetNow [])
  | .faette => s.faetteSend (s.epPort .faette g - 64) g

/-- Credit has come on a side: what waited for it goes, in order; `fuel` is the number that wait. -/
def State.faetteFlush (side vc : Nat) : Nat → State → State
  | 0, s => s
  | n + 1, s =>
    match s.faette.outbox.find? (fun x => x.1 == side && x.2.vc.toNat == vc) with
    | none => s
    | some x =>
      if s.faette.sideUp.contains side && s.faette.hasCredit side vc then
        State.faetteFlush side vc n (({ s with faette := { s.faette with outbox := s.faette.outbox.erase x } }).faetteOut side x.2)
      else s

/-- Fields of a credit token (Table 9.5). -/
def creditFields (half vc freed : Nat) : Nat := put half 31 31 + put vc 30 28 + put freed 15 0

/-- A grain comes in at an end-point: an accelerator's frees its receive buffer at once and tells its link (R258, R301). -/
def State.took (s : State) (a : Arrival) (vc : Nat) (grains : Nat := 1) : State :=
  match a with
  | .internal => s
  | .link k =>
    let side := s.faette.sideOf k.val
    let s := { s with faette := { s.faette with rxSide := side } }
    if openVc vc then
      let n := (tget s.faette.freedHere (8 * side + vc) 0 + grains) % 65536
      ({ s with faette := { s.faette with freedHere := tset s.faette.freedHere (8 * side + vc) n } }).putToken (64 + side)
        "Credit" (creditFields 0 vc n)
    else s

/-! ### Tokens (Table 9.5) -/

/-- Fields of a NACK for a grain not on VC5 (R105). -/
def nackFields (src dst vc tag birth cause : Nat) : Nat :=
  put src 79 66 + put vc 65 63 + put birth 62 57 + put cause 56 55 + put tag 54 40 + put dst 39 26

/-- Fields of a NACK on VC5. -/
def nackFields5 (src ctx sender block birth cause : Nat) : Nat :=
  put src 79 66 + put 5 65 63 + put birth 62 57 + put cause 56 55 + put ctx 54 50 + put (sender / 16) 49 40
  + put (sender % 16) 39 36 + put block 35 12

/-- Send a token on a port and count it. -/
def State.token (s : State) (p : Nat) (k : String) (fields : Nat) : State := (s.putToken p k fields).portTally p 29 1

/-- Send an exchange message as its fragments, one message whole after the other (R307). -/
def State.sendEx (s : State) (p type : Nat) (body : Bytes) : State :=
  (exFragments type body).foldl (fun s f => if p < 48 then s.token p "Fragment" f else s.putToken p "Fragment" f)
    (s.emit (.exchange p type body))

/-- Forward a NACK toward its source by the route table (R105); a NACK for the device's own end-point is delivered.  DESIGN CHOICE
(log 188): where the route is a group, its hash takes the source as both end-points, and the NACK's channel. -/
def State.sendNack (s : State) (fields : Nat) : State :=
  let src := fld fields 79 66
  if src = s.ownEp then s.putToken 48 "NACK" fields
  else
    match s.route src src (fld fields 65 63) with
    | none => s
    | some p =>
      let s := (s.token p "NACK" fields).portTally p 26 1
      s.trace 3 6 p none 0 (put fields 79 0 + put 1 80 80)

/-- A NACK for a scheduled grain is a declared exception of kind 4 (Table 16.3). -/
def State.nackException (s : State) (port vc part : Nat) : State :=
  if vc = 4 ∨ vc = 5 then s.exception 4 port part s.clock.slot else s

/-- Raise a NACK for a received grain (R105). -/
def State.nackGrain (s : State) (port : Nat) (g : Grain) (cause : Nat) : State :=
  let f := if g.vc = 5 then nackFields5 g.src.toNat g.context g.sender g.block g.birth.toNat cause
    else nackFields g.src.toNat g.dst g.vc.toNat g.tag.toNat g.birth.toNat cause
  let s := (s.sendNack f).partTally g.part.toNat 10 1
  s.nackException port g.vc.toNat g.part.toNat

/-- A NACK sent by an end-point as destination: the internal one's goes through the control crossbar, a Faette's on its
parent side (Table 7.7). -/
def State.epNack (s : State) (w : EpSel) (part fields : Nat) : State :=
  match w with
  | .internal => (s.sendNack fields).nackException 48 (fld fields 65 63) part
  | .faette => s.putToken (64 + s.faette.parent % 2) "NACK" fields

/-! ### Answers by a device on the path (R90, R114, R567) -/

/-- The device answers a request with ERROR and PATH 1. -/
def State.pathError (s : State) (g : Grain) (status : Nat) : State :=
  let r := (mkResp g s.ownEp 2 status false true 0 0).seal s.clock.span
  s.emit (.deliver "xbar" 48 r)

end Sys2Proof.Machine
end

