-- ==== Sys2Proof/Machine/Memory.lean ====
section
/-! DEFINITION. The octets of a home's memory: a sorted list of (address, octet), what an unlisted address reads as, and
uncorrectable chunks (06 R211, 10 R333, R336). -/

namespace Sys2Proof.Machine

/-- The octet listed at an address. -/
def memGet : List Host.Cell → Nat → Option Byte
  | [], _ => none
  | (b, v) :: r, a => if b = a then some v else memGet r a

/-- Write one octet, keeping the addresses rising. -/
def memSet : List Host.Cell → Nat → Byte → List Host.Cell
  | [], a, v => [(a, v)]
  | (b, w) :: r, a, v => if a < b then (a, v) :: (b, w) :: r else if a = b then (a, v) :: r else (b, w) :: memSet r a v

/-- Write octets from an address upward. -/
def memWrite (m : List Host.Cell) (a : Nat) : Bytes → List Host.Cell
  | [] => m
  | b :: bs => memWrite (memSet m a b) (a + 1) bs

/-- Drop every octet of an address range. -/
def memDrop (m : List Host.Cell) (a n : Nat) : List Host.Cell :=
  m.filter fun c => !(decide (a ≤ c.1) && decide (c.1 < a + n))

/-- The addresses of a memory rise strictly: its canonical form. -/
def memWf : List Host.Cell → Bool
  | [] => true
  | (_, _) :: [] => true
  | (a, _) :: (b, w) :: r => decide (a < b) && memWf ((b, w) :: r)

/-- An address lies in the home table (R277). -/
def Home.inTable (h : Home) (a : Nat) : Bool :=
  match h.tableAt with
  | some b => decide (b ≤ a) && decide (a < b + 2 ^ 26)
  | none => false

/-- What an octet reads as that no entry lists: zero in the home table, whose records are zero at first (Tables 8.1 and 8.3),
elsewhere a free value, since nothing has written it since the fill (R333, log 9). -/
def Home.unlisted (h : Home) (a : Nat) : Byte :=
  if h.inTable a then 0 else Config.unwritten (h.gen * 2 ^ 64 + tget h.unitGen (a / 2 ^ 21) 0) a

/-- What an octet reads as. -/
def Home.byte (h : Home) (a : Nat) : Byte := (memGet h.mem a).getD (h.unlisted a)

/-- n octets from an address. -/
def Home.read (h : Home) (a n : Nat) : Bytes := (List.range n).map fun i => h.byte (a + i)

/-- Write octets from an address. -/
def Home.write (h : Home) (a : Nat) (bs : Bytes) : Home :=
  let hit := match h.watch with
    | some (b, n) => decide (a < b + n) && decide (b < a + bs.length)
    | none => false
  { h with mem := memWrite h.mem a bs, wrote := h.wrote || hit }

/-! ### The home table (R277) -/

/-- The home's entry for a handle (Table 8.1). -/
def Home.entry (h : Home) (handle : Nat) : BitVec 128 :=
  match h.tableAt with
  | some b => BitVec.ofNat 128 (leNat (h.read (b + 32 * handle + 16) 16))
  | none => tget h.table handle 0

/-- The partner record of a handle (Table 8.3). -/
def Home.partner (h : Home) (handle : Nat) : BitVec 128 :=
  match h.tableAt with
  | some b => BitVec.ofNat 128 (leNat (h.read (b + 32 * handle) 16))
  | none => tget h.partners handle 0

/-- Write the record of a handle. -/
def Home.setRecord (h : Home) (handle : Nat) (ent par : BitVec 128) : Home :=
  match h.tableAt with
  | some b => h.write (b + 32 * handle) (natLe 16 par.toNat ++ natLe 16 ent.toNat)
  | none => { h with table := tset h.table handle ent, partners := tset h.partners handle par }

/-- Address of the chunk that holds an octet. -/
def chunkOf (a : Nat) : Nat := a / 64 * 64

/-- A chunk is uncorrectable (R336). -/
def Home.isBad (h : Home) (a : Nat) : Bool := h.bad.contains (chunkOf a)

/-- Some chunk of a range is uncorrectable. -/
def Home.anyBad (h : Home) (a n : Nat) : Bool :=
  h.bad.any fun c => decide (c + 64 > a) && decide (c < a + n)

/-- A write of all 64 octets makes a chunk readable again (R336). -/
def Home.writeChunk (h : Home) (a : Nat) (bs : Bytes) : Home :=
  { h.write a bs with bad := h.bad.filter (· != chunkOf a) }

/-- Scrub a 2 MiB unit: raw zero ciphertext, which reads as an unspecified value (R333, R344). -/
def Home.scrub (h : Home) (unit : Nat) : Home :=
  { h with mem := memDrop h.mem (unit * 2 ^ 21) (2 ^ 21), unitGen := tmod h.unitGen unit 0 (· + 1),
           bad := h.bad.filter fun c => c / 2 ^ 21 != unit, tags := tdel h.tags unit }

/-- The fill of every chunk at a start (R333). -/
def Home.fill (h : Home) : Home :=
  { h with mem := [], gen := h.gen + 1, unitGen := [], bad := [], tags := [], unitReported := [],
           group := [], held := [], mirrorWait := [], seals := [], table := [], partners := [], watch := none, wrote := false }

end Sys2Proof.Machine
end

