-- ==== Sys2Proof/Machine/Send.lean ====
section
/-! DEFINITION. The source half of transport: tags, copies, windows, fences, re-sends and failures (03 R106 to R114,
06 R208 to R210, 07 R242 to R245). -/

namespace Sys2Proof.Machine

/-- Key of a channel: end-point and VC. -/
def chanKey (ep vc : Nat) : Nat := 8 * ep + vc

def EndPoint.chan (e : EndPoint) (dst vc : Nat) : SendChan := tget e.send (chanKey dst vc) {}

def EndPoint.setChan (e : EndPoint) (dst vc : Nat) (c : SendChan) : EndPoint :=
  { e with send := tset e.send (chanKey dst vc) c }

/-- Tag a is earlier than tag b modulo 32,768 (R107, R108). -/
def tagBefore (a b : Nat) : Bool := a != b && decide ((b + 32768 - a) % 32768 < 16384)

/-- Copies held over all channels (6200:0D). -/
def EndPoint.copiesHeld (e : EndPoint) : Nat :=
  e.send.foldl (fun n c => n + c.2.copies.length) 0 + e.insts.foldl (fun n i => n + i.copies.length) 0

/-- Copies of VC4 and VC5 grains among them. -/
def EndPoint.copiesReserved (e : EndPoint) : Nat :=
  e.send.foldl (fun n c => if c.1 % 8 = 4 then n + c.2.copies.length else n) 0 +
  e.insts.foldl (fun n i => n + i.copies.length) 0

/-- Room for one more copy: 32,768 in all, 8,192 of them for VC4 and VC5 only (R244). -/
def EndPoint.room (e : EndPoint) (vc : Nat) : Bool :=
  if vc = 4 ∨ vc = 5 then decide (e.copiesHeld < 32768)
  else decide (e.copiesHeld - e.copiesReserved < 24576) && decide (e.copiesHeld < 32768)

/-- Unacknowledged grains a channel may hold (R107). -/
def window (vc : Nat) : Nat := if vc = 2 then 256 else 16384

/-- Copies of a channel wait to go again before any new grain of it (R109). -/
def SendChan.hasDue (c : SendChan) : Bool := c.copies.any (·.due)

/-- An earlier request keeps one issued after a fence waiting: it goes to the same destination on another channel, or to the
observer's own memory (R208). -/
def heldBy (own : Nat) (q : Queued) (k : Grain) (epoch : Nat) : Bool :=
  decide (epoch < q.epoch) && ((k.dst == q.grain.dst && k.vc != q.grain.vc) || k.dst == own)

/-- A request issued after a fence must still wait (R208, R209, R249): for an earlier request that is unacknowledged, not yet
sent or not yet translated, or for a FENCE.REMOTE before it. -/
def EndPoint.fenced (e : EndPoint) (own : Nat) (q : Queued) : Bool :=
  e.send.any (fun c => c.2.copies.any fun k => heldBy own q k.grain k.epoch) ||
  e.queue.any (fun k => heldBy own q k.grain k.epoch) || e.vc4.any (fun k => heldBy own q k.grain k.epoch) ||
  e.waitTrans.any (fun x => decide (x.epoch < q.epoch)) || e.fences.any (fun f => f.remote && decide (f.no ≤ q.epoch))

/-- A VC6 request of a reading kind (R568): a dictionary READ, DESCRIBE or STEP_QUERY, MIRROR_QUERY, KIND 0x62 and 0x64. -/
def readsOnly (g : Grain) : Bool :=
  g.mKind == 0x42 || g.mKind == 0x62 || g.mKind == 0x64 ||
  (g.mKind == 1 && g.mFragment == 0 && g.mLast && fld g.payload.toNat 15 8 != 2)

/-- VC6 messages that are not of a reading kind and not yet answered by a destination, by their numbers (R568). -/
def EndPoint.unanswered (e : EndPoint) (dst : Nat) : List Nat :=
  (((e.chan dst 6).copies.filter fun k => k.grain.op == 0 && !readsOnly k.grain).map (·.req)).eraseDups

/-- A new message may begin: no more than 64 that are not of a reading kind are unanswered (R568). -/
def EndPoint.mayAsk (e : EndPoint) (g : Grain) : Bool :=
  g.vc != 6 || g.mFragment != 0 || readsOnly g || decide ((e.unanswered g.dst).length < 64)

/-- Drop the copies of chunks that a store or an atomic is sent to (R206, R248). -/
def EndPoint.dropCopies (e : EndPoint) (g : Grain) : EndPoint :=
  if (g.vc = 0 ∧ g.op ≠ 0 ∧ g.op ≠ 1) ∨ g.vc = 2 ∨ g.vc = 4 then
    { e with store := e.store.filter fun x =>
        !(x.1 == g.dst && x.2.1 == g.handle && decide (g.chunk ≤ x.2.2.1) && decide (x.2.2.1 ≤ g.chunk + g.chunks)) }
  else e

/-- Send SEQ_RESET on a channel with its next tag (R110); it names no region (R267). -/
def State.sendReset (s : State) (w : EpSel) (dst vc part : Nat) (target epoch : Nat) : State :=
  let e := s.epOf w
  let c := e.chan dst vc
  let g : Grain :=
    if vc = 6 then mkMgmt 15 part (s.epId w) dst target 0 0 true []
    else mkMem vc 15 part (s.epId w) dst 0 0 0 0 0 0
  let g := { g with tag := BitVec.ofNat 15 c.next }.seal (s.epSpan w)
  let k : Copy := { grain := g, firstSpan := s.epSpan w, lastSpan := s.epSpan w, epoch := epoch, seq := e.seq }
  let e := { e with seq := e.seq + 1 }
  let s := s.setEp w (e.setChan dst vc { next := (c.next + 1) % 32768, needReset := false, copies := c.copies ++ [k] })
  s.epEmit w g

/-- Send one grain that R106 obliges the source to keep; a copy of what it writes goes in the same grain time (R248). -/
def State.sendKept (s : State) (w : EpSel) (q : Queued) : State :=
  let dst := q.grain.dst
  let vc := q.grain.vc.toNat
  let e := s.epOf w
  let c := e.chan dst vc
  let g := { q.grain with tag := BitVec.ofNat 15 c.next }.seal (s.epSpan w)
  let k : Copy := { grain := g, firstSpan := s.epSpan w, lastSpan := s.epSpan w, epoch := q.epoch, seq := e.seq, req := q.req, pos := q.pos }
  let e := { e with seq := e.seq + 1 }.dropCopies g
  let s := s.setEp w (e.setChan dst vc { c with next := (c.next + 1) % 32768, copies := c.copies ++ [k] })
  s.epEmit w g

/-- A queued grain, or the SEQ_RESET that its channel needs first, may be sent now: window, copy room, credit, fences, R568,
no re-send of its channel due and no earlier grain of it still queued. -/
def State.maySend (s : State) (w : EpSel) (blocked : List Nat) (q : Queued) : Bool :=
  let e := s.epOf w
  let vc := q.grain.vc.toNat
  let c := e.chan q.grain.dst vc
  !blocked.contains (chanKey q.grain.dst vc) && decide (c.copies.length < window vc) && !c.hasDue && e.room vc &&
  e.mayAsk q.grain && s.mayLeave w q.grain && !e.fenced (s.epId w) q

/-- The channel of a queued grain must begin with SEQ_RESET (R110). -/
def State.needsReset (s : State) (w : EpSel) (q : Queued) : Bool := ((s.epOf w).chan q.grain.dst q.grain.vc.toNat).needReset

/-- SEQ_RESET for the channel of a queued grain. -/
def State.resetFor (s : State) (w : EpSel) (q : Queued) : State :=
  s.sendReset w q.grain.dst q.grain.vc.toNat q.grain.part.toNat (if q.grain.vc = 6 then q.grain.mTarget else 0) q.epoch

/-- Try the queued grains in order; those that must wait stay queued. -/
def State.pumpLoop (w : EpSel) : List Queued → List Nat → List Queued → State → State
  | [], _, keep, s => s.modEp w fun e => { e with queue := keep }
  | q :: r, blocked, keep, s =>
    let s := if s.needsReset w q && s.maySend w blocked q then s.resetFor w q else s
    if !s.needsReset w q && s.maySend w blocked q then State.pumpLoop w r blocked keep (s.sendKept w q)
    else State.pumpLoop w r (chanKey q.grain.dst q.grain.vc.toNat :: blocked) (keep ++ [q]) s

/-- Send what may be sent. -/
def State.pump (s : State) (w : EpSel) : State := State.pumpLoop w (s.epOf w).queue [] [] s

/-- Queue a formed grain under a fence epoch. -/
def State.enqueueAt (s : State) (w : EpSel) (g : Grain) (req : Nat) (pos : Int) (epoch : Nat) : State :=
  s.modEp w fun e => { e with queue := e.queue ++ [{ grain := g, epoch, req, pos }] }

/-- Queue a formed grain under the running fence epoch. -/
def State.enqueue (s : State) (w : EpSel) (g : Grain) (req : Nat) : State := s.enqueueAt w g req 0 (s.epOf w).epoch

/-! ### Re-sends (R109, R110) -/

/-- A copy leaves with a new BIRTH: its first send, or one more re-send. -/
def Copy.again (c : Copy) (span : Nat) : Copy :=
  { c with
    grain := c.grain.seal span, lastSpan := span, firstSpan := if c.first then span else c.firstSpan,
    resends := if c.first then c.resends else c.resends + 1, due := false, first := false, cause := none }

/-- One copy of a channel goes again (R109). -/
def State.resend (s : State) (w : EpSel) (dst vc : Nat) (k : Copy) : State :=
  let k' := k.again (s.epSpan w)
  let s := s.modEp w fun e =>
    let c := e.chan dst vc
    (e.setChan dst vc { c with copies := lmod c.copies (fun x => x.grain.tag == k.grain.tag) (fun _ => k') }).dropCopies k.grain
  s.epEmit w k'.grain

/-- The due copies of a channel go, in tag order, as far as credit reaches. -/
def State.resendLoop (w : EpSel) (dst vc : Nat) : List Copy → State → State
  | [], s => s
  | k :: r, s =>
    if !k.due then State.resendLoop w dst vc r s
    else if s.mayLeave w k.grain then State.resendLoop w dst vc r (s.resend w dst vc k)
    else s

/-- Send what is due on a channel; VC4 waits for owned grain times (R111). -/
def State.sendDue (s : State) (w : EpSel) (dst vc : Nat) : State :=
  if vc = 4 then s else State.resendLoop w dst vc ((s.epOf w).chan dst vc).copies s

/-- Credit has come: the responses that wait for it go, then what is due, then what is queued. -/
def State.onCredit (s : State) (side vc : Nat) : State :=
  let s := State.faetteFlush side vc s.faette.outbox.length s
  (s.faette.send.foldl (fun s c => if c.1 % 8 = vc then s.sendDue .faette (c.1 / 8) (c.1 % 8) else s) s).pump .faette

/-- The status with which a grain that exhausts its re-sends fails (R110). -/
def exhausted (cause : Option Nat) : Nat := if cause = some 2 then St.agedOut else St.resendExhausted

/-! ### Management messages (R92, R568) -/

/-- The fragments of a message of at most 256 octets each. -/
def fragments (data : Bytes) : List Bytes :=
  let n := (data.length + 255) / 256
  if n = 0 then [[]] else pieces 256 n data

/-- Send a VC6 request message: each fragment a grain of the channel's tag sequence; its number is nextReq afterwards. -/
def State.sendRequest (s : State) (w : EpSel) (dst part target kind : Nat) (data : Bytes) : State :=
  let fs := fragments data
  let s := s.modEp w fun e => { e with nextReq := e.nextReq + 1 }
  let s := (List.range fs.length).foldl (fun s i =>
    s.enqueue w (mkMgmt 0 part (s.epId w) dst target kind i (i + 1 == fs.length) (fs.getD i [])) (s.epOf w).nextReq) s
  s.pump w

/-- TARGET of an answer: 1 for the admission and key answers (Tables 5.6 and 8.5) and those of R497; of a dictionary
answer the spec states none. DESIGN CHOICE (log 49): 0. -/
def answerTarget (kind : Nat) : Nat := if kind = 1 then 0 else 1

/-- Send a VC6 answer: every fragment carries the TAG of the request's LAST fragment; none is kept (R568). -/
def State.sendAnswer (s : State) (w : EpSel) (m : Msg) (kind : Nat) (data : Bytes) : State :=
  let fs := fragments data
  (List.range fs.length).foldl (fun s i =>
    s.epEmit w { (mkMgmt 1 m.part.toNat (s.epId w) m.src.toNat (answerTarget kind) kind i (i + 1 == fs.length) (fs.getD i [])) with tag := m.tag }) s

/-- A message to an end-point: requests to the device itself are handed over inside it. -/
def State.tell (s : State) (dst part target kind : Nat) (data : Bytes) : State :=
  (s.emit (.message dst target kind data)).sendRequest .internal dst part target kind data

/-! ### Pair-state streams (17 R501) -/

/-- Send one pair-state grain to the partner while the two members are joined; its number is nextReq afterwards. -/
def State.pairSend (s : State) (stream chunk : Nat) (data : Bytes) : State :=
  if s.pair.state = 1 ∨ s.pair.state = 4 then
    let s := s.modEp .internal fun e => { e with nextReq := e.nextReq + 1 }
    (s.enqueue .internal (mkMem 3 2 0 s.ownEp s.pair.partner 0 0 stream (chunk % 2 ^ 31) 0 (leNat (data.take 256)))
      s.ep.nextReq).pump .internal
  else s

/-- Next CHUNK of a numbered stream. -/
def State.pairNext (s : State) (stream : Nat) (data : Bytes) : State :=
  let n := s.pair.seq
  ({ s with pair := { s.pair with seq := n + 1 } }).pairSend stream n data

end Sys2Proof.Machine
end

