-- ==== Sys2Proof/Machine/Settle.lean ====
section
/-! DEFINITION. What an acknowledgement or a failure of a grain does to the request, the fence and the mirrored write
that wait for it; key entries; the error ring; window errors (06 R210, R222, R224, 07 R246, R259, 11 R365 to R367). -/

namespace Sys2Proof.Machine

/-! ### Key entries and partner records (Tables 8.1, 8.3) -/

abbrev Ent := BitVec 128

def Ent.fd (e : Ent) (hi lo : Nat) : Nat := fld e.toNat hi lo
def entKey (e : Ent) : Nat := Ent.fd e 127 96
def entOwner (e : Ent) : Nat := Ent.fd e 95 82
def entPart (e : Ent) : Nat := Ent.fd e 81 76
def entBase (e : Ent) : Nat := Ent.fd e 75 52
/-- Region length in octets. -/
def entLen (e : Ent) : Nat := 64 * (Ent.fd e 51 21 + 1)
def entCtxValue (e : Ent) : Nat := Ent.fd e 20 11
def entCtxSpan (e : Ent) : Nat := Ent.fd e 10 7
def entAtomic (e : Ent) : Bool := Ent.fd e 6 6 == 1
def entWrite (e : Ent) : Bool := Ent.fd e 5 5 == 1
def entRead (e : Ent) : Bool := Ent.fd e 4 4 == 1
def entSealed (e : Ent) : Bool := Ent.fd e 3 3 == 1
def entMirrored (e : Ent) : Bool := Ent.fd e 2 2 == 1
def entDead (e : Ent) : Bool := Ent.fd e 1 1 == 1
def entValid (e : Ent) : Bool := Ent.fd e 0 0 == 1

/-- Set one bit of an entry. -/
def entSet (e : Ent) (b : Nat) (v : Bool) : Ent := BitVec.ofNat 128 (setBit e.toNat b v)

def parState (e : Ent) : Nat := Ent.fd e 127 126
def parEp (e : Ent) : Nat := Ent.fd e 125 112
def parHandle (e : Ent) : Nat := Ent.fd e 111 91
def parKey (e : Ent) : Nat := Ent.fd e 90 59
def parCtx (e : Ent) : Nat := Ent.fd e 58 43

/-- A partner record with another mirror state. -/
def parWith (e : Ent) (st : Nat) : Ent := BitVec.ofNat 128 (e.toNat % 2 ^ 126 + put st 127 126)

/-! ### Fault reports of an end-point (17 R512, R515) -/

/-- The 64 octets of a report (Table 17.2). -/
def FaultRep.bits (f : FaultRep) : Nat :=
  put f.seq 63 0 + put f.severity 135 134
  + put (b2n f.sustained + 2 * b2n f.closing + 4 * b2n f.loss + 8 * b2n f.part.isSome + 16 * b2n f.resumed
      + 32 * b2n f.unaligned) 143 136
  + put (f.part.getD 0) 149 144 + put f.ep 163 150 + put f.status 179 164 + put f.kind 187 180 + put f.subjType 191 188
  + put f.subjId 223 192 + put f.detail 255 224 + put f.reporters 335 287 + put f.count 367 336
  + put f.firstOffset 383 368 + put f.lastSpan 447 384 + put f.firstSpan 511 448

/-- An end-point reports a fault: the device folds its own, a Faette sends a FAULT_REPORT to its parent side (R515). -/
def State.epFault (s : State) (w : EpSel) (kind subjType subjId status detail severity : Nat) : State :=
  match w with
  | .internal => s.fault kind subjType subjId status detail severity
  | .faette =>
    let f : FaultRep := { kind, subjType, subjId, status, detail, severity, count := 1, ep := s.faette.id,
                          firstSpan := s.faette.span, lastSpan := s.faette.span }
    s.faetteSend (s.faette.parent % 2) (mkMgmt 2 0 s.faette.id s.ownEp 2 0x70 0 true (natLe 64 f.bits))

/-! ### The error ring (R259) -/

/-- Write one error record of a failure in a span, or count it where the ring is full. -/
def State.errorAt (s : State) (w : EpSel) (len off handle dst pasid detail status kind ctx instNo span : Nat) : State :=
  let head := s.epReg w 0x6200 8
  let n := s.epReg w 0x6200 7
  let n := if n = 0 then 1024 else n
  if n ≤ (head + 2 ^ 32 - s.epReg w 0x6200 9) % 2 ^ 32 then
    s.setEpReg w 0x6200 0xA ((s.epReg w 0x6200 0xA + 1) % 2 ^ 64)
  else
    let bits := put instNo 34 19 + put ctx 39 35 + put kind 43 40 + put status 59 44 + put detail 67 60 + put pasid 87 68
      + put dst 101 88 + put handle 122 102 + put off 159 123 + put len 191 160 + put span 255 192
    let s := s.modHome w fun h => h.write (s.epReg w 0x6200 6 + 32 * (head % n)) (natLe 32 bits)
    s.setEpReg w 0x6200 8 ((head + 1) % 2 ^ 32)

/-- An error record of a failure now. -/
def State.errorRecord (s : State) (w : EpSel) (len off handle dst pasid detail status kind ctx instNo : Nat) : State :=
  s.errorAt w len off handle dst pasid detail status kind ctx instNo (s.epSpan w)

/-- Consecutive failed grains of one status share one record. -/
def mergeFails : List FailRec → List FailRec
  | [] => []
  | a :: r =>
    match mergeFails r with
    | [] => [a]
    | b :: t =>
      if a.status = b.status ∧ a.handle = b.handle ∧ a.dst = b.dst ∧ a.off + a.len = b.off then
        { a with len := a.len + b.len } :: t
      else a :: b :: t

/-! ### Window errors (11 R367) -/

/-- Record a window failure and signal EVENT_VECTOR. -/
def State.winError (s : State) (f off status : Nat) : State :=
  let x := s.fn f
  let n := satAdd (x.winErr % 2 ^ 14) 1 (2 ^ 14 - 1)
  let s := s.setFn f { x with
    winErr := put status 63 48 + put (off / 2 ^ 30) 47 44 + n,
    winErrOff := if x.winErr % 2 ^ 14 = 0 then off else x.winErrOff }
  s.signal f x.eventVector

/-- Status of a rights failure, a disabled aperture or an access before READY, which the spec does not name (log 23). -/
def State.winStatus (s : State) : Nat × State := (Config.unstated s.fresh [11, 367] % 65536, s.draw)

/-- Answer the fence reads that wait for no window write any more, oldest first; each tells the first failure since the one
before (R366). -/
def State.answerFences (f : Nat) : Nat → State → State
  | 0, s => s
  | n + 1, s =>
    match (s.fn f).fences with
    | [] :: r =>
      let x := s.fn f
      State.answerFences f n ((s.setFn f { x with fences := r, fenceStatus := 0 }).emit (.pcie f 0 (natLe 2 x.fenceStatus)))
    | _ => s

/-- A window write or AtomicOp of a function has been acknowledged or has failed. -/
def State.windowDone (s : State) (f id status : Nat) : State :=
  let s := s.modFn f fun x => { x with
    fences := x.fences.map (fun l => l.filter (· != id)),
    fenceStatus := if x.fenceStatus = 0 then status else x.fenceStatus }
  State.answerFences f (s.fn f).fences.length s

/-! ### Transfers -/

/-- The octets that a transfer has gathered, in order of place; of a failed grain none (R227). -/
def Transfer.bytes (t : Transfer) : Bytes :=
  (List.range t.req.len).filterMap fun (i : Nat) =>
    (t.got.find? (fun p => decide (p.1 ≤ (i : Int)) && decide ((i : Int) < p.1 + p.2.length))).map fun p =>
      p.2.getD ((i : Int) - p.1).toNat 0

/-- Failures in ascending place. -/
def Transfer.failsSorted (t : Transfer) : List FailRec := lsort (fun a b => decide (a.pos < b.pos)) t.fails

/-- The status of a finished transfer: that of the failed grain with the lowest offset. -/
def Transfer.status (t : Transfer) : Nat :=
  match t.failsSorted with
  | [] => St.ok
  | a :: _ => a.status

/-- Tell whoever asked that a transfer has ended.  Ring copies wait for COPY_COMPLETE; a window access of a function that has
been reset tells nobody. -/
def State.finish (s : State) (w : EpSel) (t : Transfer) : State :=
  let st := t.status
  let s := (mergeFails t.failsSorted).foldl (fun s f =>
    s.errorAt w f.len f.off f.handle f.dst (t.req.pasid.getD 0) 0 f.status 0 0 0 f.span) s
  match t.req.kind with
  | 8 =>
    if 65 ≤ t.fn then s
    else if st = 0 then s.emit (.pcie t.fn 0 t.bytes)
    else (s.emit (.pcie t.fn st [])).winError t.fn t.req.addr st
  | 9 =>
    if 65 ≤ t.fn then s
    else (if st = 0 then s else s.winError t.fn t.req.addr st).windowDone t.fn t.req.id st
  | 10 =>
    if 65 ≤ t.fn then s
    else
      (if st = 0 then s.emit (.pcie t.fn 0 (natLe t.req.len t.old))
       else (s.emit (.pcie t.fn st [])).winError t.fn t.req.addr st).windowDone t.fn t.req.id st
  | 6 => s
  | 7 => s
  | 3 => s.emit (.engine t.req.id st (natLe 8 t.old))
  | _ => s.emit (.engine t.req.id st (if t.req.kind = 2 ∨ t.req.kind = 4 then [] else t.bytes))

/-- One grain of a transfer has been answered or has failed. -/
def State.settleReq (s : State) (w : EpSel) (c : Copy) (status : Nat) (data : Bytes) (old : Nat) : State :=
  match (s.epOf w).transfers.find? (fun t => t.req.id == c.req && !t.answered) with
  | none => s
  | some t =>
    let g := c.grain
    let t := if status = 0 then { t with left := t.left - 1, got := t.got ++ [(c.pos, data)], old }
      else { t with
        left := t.left - 1, old,
        fails := t.fails ++ [{ pos := c.pos, off := 64 * g.chunk, len := 64 * (g.chunks + 1), handle := g.handle,
                               dst := g.dst, status, span := s.epSpan w }] }
    let keep := t.req.kind == 6 || t.req.kind == 7
    let answered := t.left == 0
    let s := s.modEp w fun e => { e with
      transfers :=
        if answered && !keep then e.transfers.filter (fun x => x.req.id != c.req)
        else lmod e.transfers (fun x => x.req.id == c.req) (fun _ => { t with answered }) }
    if answered then s.finish w t else s

/-! ### Fences (R208 to R210) -/

/-- A request that a fence covers: for FENCE.REMOTE the stores and atomics only (R209). -/
def Fence.covers (f : Fence) (epoch : Nat) (g : Grain) : Bool :=
  decide (epoch < f.no) && !g.isSeqReset && (!f.remote || g.vc == 2 || (g.vc == 0 && (g.op == 2 || g.op == 3)) || g.vc == 4)

/-- A failed request that a fence covers is remembered, the first in send order. -/
def Fence.note (f : Fence) (x : Failed) : Fence :=
  if f.covers x.epoch x.grain then
    match f.first with
    | none => { f with first := some (x.seq, x.status) }
    | some (n, _) => if x.seq < n then { f with first := some (x.seq, x.status) } else f
  else f

/-- A request has failed: the fences that cover it remember it, and one that begins later finds it among those of its own
epoch (R210, log 174). -/
def EndPoint.noteFail (e : EndPoint) (c : Copy) (status : Nat) : EndPoint :=
  if status = 0 ∨ c.grain.isSeqReset then e
  else
    let x : Failed := { epoch := c.epoch, seq := c.seq, grain := c.grain, status }
    { e with fences := e.fences.map (·.note x), failed := if c.epoch = e.epoch then e.failed ++ [x] else e.failed }

/-! ### Mirrored writes (R222, R224) -/

/-- The partner has acknowledged or failed a copy. -/
def State.mirrorAck (s : State) (w : EpSel) (c : Copy) (status : Nat) : State :=
  let h := s.home w
  let tag := c.req
  match h.mirrorWait.find? (fun m => m.tags.contains tag) with
  | none => s
  | some m =>
    if status = 0 then
      let waits := lmod h.mirrorWait (fun x => x.tags.contains tag) (fun x => { x with tags := x.tags.filter (· != tag) })
      let done := waits.filter (fun x => x.tags.isEmpty)
      let s := s.modHome w fun h => { h with mirrorWait := waits.filter (fun x => !x.tags.isEmpty) }
      done.foldl (fun s x => s.epEmit w x.answer) s
    else
      let waits := h.mirrorWait.filter (fun x => x.handle == m.handle)
      -- R224: no copy that is still queued goes; one already sent keeps its place in the tag sequence (log 175)
      let unsent (q : Queued) : Bool := q.grain.vc == 3 && waits.any fun x => x.tags.contains q.req
      let s := s.modEp w fun e => { e with queue := e.queue.filter fun q => !unsent q }
      let s := s.modHome w fun h =>
        { h with mirrorWait := h.mirrorWait.filter (fun x => x.handle != m.handle) }.setRecord m.handle (h.entry m.handle)
          (parWith (h.partner m.handle) 2)
      let s := waits.foldl (fun s x => s.epEmit w x.answer) s
      s.epFault w 0x0E 4 m.handle status 0 2

/-! ### Acknowledgement and failure of copies -/

/-- A VC3 grain or a VC6 request has been acknowledged or has failed. -/
def State.noteEnd (s : State) (w : EpSel) (c : Copy) (status : Nat) : State :=
  s.modEp w fun e => { e with ended := e.ended ++ [(c.req, status)] }

/-- What one released copy does. -/
def State.settle (s : State) (w : EpSel) (c : Copy) (status : Nat) (data : Bytes) (old : Nat) : State :=
  let s := if w = .faette then s.modEp w (·.noteFail c status) else s
  if c.grain.isSeqReset then s
  else if c.grain.vc = 3 then (s.mirrorAck w c status).noteEnd w c status
  else if c.grain.vc = 6 then s.noteEnd w c status
  else s.settleReq w c status data old

/-- Release the copies of a channel that a test selects, in tag order. -/
def State.release (s : State) (w : EpSel) (dst vc : Nat) (p : Copy → Bool) (status : Nat) (data : Bytes) (old : Nat) : State :=
  let c := (s.epOf w).chan dst vc
  let s := s.modEp w fun e => e.setChan dst vc { c with copies := c.copies.filter (fun k => !p k) }
  (c.copies.filter p).foldl (fun s k => s.settle w k status data old) s

/-- A grain fails, and with it every later unacknowledged grain of its destination and channel; the channel must begin
again with SEQ_RESET (R110, R114, R245). -/
def State.failFrom (s : State) (w : EpSel) (dst vc tag status : Nat) : State :=
  let s := s.release w dst vc (fun k => k.grain.tag.toNat == tag || tagBefore tag k.grain.tag.toNat) status [] 0
  (s.modEp w fun e => e.setChan dst vc { e.chan dst vc with needReset := true }).pump w

/-- A copy is the one of a TAG or a later one. -/
def Copy.from_ (c : Copy) (tag : Nat) : Bool := c.grain.tag.toNat == tag || tagBefore tag c.grain.tag.toNat

/-- One more re-send of a copy would pass RESEND_LIMIT (R110). -/
def Copy.spent (c : Copy) (limit : Nat) : Bool := !c.due && decide (limit ≤ c.resends)

/-- Re-send a named grain and the later ones in tag order; from the first that would pass RESEND_LIMIT on they fail (R109,
R110).  A VC4 grain waits for the partition's next owned grain times (R111). -/
def State.recover (s : State) (w : EpSel) (dst vc tag : Nat) (cause : Option Nat) : State :=
  let c := (s.epOf w).chan dst vc
  if !c.copies.any (fun k => k.grain.tag.toNat == tag) then s
  else
    let marked := lmod c.copies (fun k => k.grain.tag.toNat == tag) (fun k => { k with cause := cause.orElse fun _ => k.cause })
    let spent := marked.find? fun k => k.from_ tag && k.spent (s.epReg w 0x3080 2)
    let goes (k : Copy) : Bool := k.from_ tag &&
      (match spent with
       | some x => !k.from_ x.grain.tag.toNat
       | none => true)
    let s := s.modEp w fun e => e.setChan dst vc { c with copies := lmod marked goes (fun k => { k with due := true }) }
    let s := s.sendDue w dst vc
    match spent with
    | some x => s.failFrom w dst vc x.grain.tag.toNat (exhausted x.cause)
    | none => s

end Sys2Proof.Machine
end

