-- ==== Sys2Proof/Machine/Requester.lean ====
section
/-! DEFINITION. An end-point as a requester: responses, NACKs, timeouts, engine requests, fences and address translation
(03 R106 to R114, R569, 06 R205 to R210, 07 R234 to R250). -/

namespace Sys2Proof

/-- The request writes whole chunks or parts of them. -/
def EngReq.writes (r : EngReq) : Bool := r.kind == 2 || r.kind == 4 || r.kind == 6 || r.kind == 9

def EngReq.isAtomic (r : EngReq) : Bool := r.kind == 3 || r.kind == 10

end Sys2Proof

namespace Sys2Proof.Machine

/-! ### A destination's own checks on a grain (R104, R108) -/

def EndPoint.rchan (e : EndPoint) (src vc : Nat) : RecvChan := tget e.recv (chanKey src vc) {}

def EndPoint.setRchan (e : EndPoint) (src vc : Nat) (c : RecvChan) : EndPoint :=
  { e with recv := tset e.recv (chanKey src vc) c }

/-- At most one NACK per source, channel and expected TAG in RESEND_TIMEOUT (R108). -/
def State.limitedNack (s : State) (w : EpSel) (g : Grain) (tag cause : Nat) : State :=
  let c := (s.epOf w).rchan g.src.toNat g.vc.toNat
  let recent := match c.nack with
    | none => false
    | some (sp, t) => t == c.expected.getD tag && decide (s.epSpan w < sp + s.epReg w 0x3080 1)
  if recent then s
  else
    let s := s.modEp w fun e => e.setRchan g.src.toNat g.vc.toNat { c with nack := some (s.epSpan w, c.expected.getD tag) }
    s.epNack w g.part.toNat (nackFields g.src.toNat g.dst g.vc.toNat tag g.birth.toNat cause)

/-- The device that a grain at an end-point has last come through: this one, or the switch at the side it came in on. -/
def State.lastHop (s : State) (w : EpSel) : Nat :=
  match w with
  | .internal => s.ownEp
  | .faette => s.faette.switches.getD s.faette.rxSide 0x3FFF

/-- A grain that failed CHECK is counted by itself and reported (R104). -/
def State.checkReport (s : State) (w : EpSel) : State :=
  (s.modEp w fun e => { e with checkFails := e.checkFails + 1 }).epFault w 0x0A 3 (s.lastHop w) St.ok 0 2

/-- A grain that passed the hop tag but fails CHECK at its destination is discarded (R104). -/
def State.checkFail (s : State) (w : EpSel) (g : Grain) : State := (s.limitedNack w g g.tag.toNat 0).checkReport w

/-! ### Responses (R106, R246) -/

/-- The copies that a response covers: its own TAG, or with CUMULATIVE every tag up to it. -/
def covers (g : Grain) (k : Copy) : Bool :=
  k.grain.tag == g.tag || (g.cumulative && tagBefore k.grain.tag.toNat g.tag.toNat)

/-- Keep copies of the chunks that a plain LOAD of a remote region brought, after the latest fence (R206, R248). -/
def EndPoint.keepCopies (e : EndPoint) (k : Copy) (data : Bytes) : EndPoint :=
  if k.grain.vc = 0 ∧ k.grain.op = 0 ∧ k.epoch = e.epoch ∧ k.grain.dst ≠ e.id then
    let new := (List.range (k.grain.chunks + 1)).map fun i =>
      (k.grain.dst, k.grain.handle, k.grain.chunk + i, sliceB data (64 * i) 64)
    let rest := e.store.filter fun x => !new.any fun y => x.1 == y.1 && x.2.1 == y.2.1 && x.2.2.1 == y.2.2.1
    { e with store := (new ++ rest).take 65536 }
  else e

/-- A LOAD_DATA response: release the copy it names and hand the data on. -/
def State.onLoadData (s : State) (w : EpSel) (g : Grain) : State :=
  let dst := g.target
  let vc := g.reqVc
  let data := sliceB g.bytes 0 (64 * (g.respChunks + 1))
  let old := fld g.payload.toNat 63 0
  let kept := ((s.epOf w).chan dst vc).copies.filter (fun k => k.grain.tag == g.tag)
  let s := if w = .faette then s.modEp w fun e => kept.foldl (fun e k => e.keepCopies k data) e else s
  let s := s.release w dst vc (fun k => k.grain.tag != g.tag && covers g k) 0 [] 0
  (s.release w dst vc (fun k => k.grain.tag == g.tag) 0 data old).pump w

/-- A COMPLETION response releases the copies it covers with its status. -/
def State.onCompletion (s : State) (w : EpSel) (g : Grain) : State :=
  (s.release w g.target g.reqVc (covers g) g.status [] 0).pump w

/-- SEQ_RESET in place of a request that failed on the path: it carries that request's TAG, and the later grains of the channel
go again after it (R569 steps 2 and 3). -/
def State.resetAt (s : State) (w : EpSel) (dst vc : Nat) (k : Copy) : State :=
  let t := k.grain.tag.toNat
  let r : Grain :=
    if vc = 6 then mkMgmt 15 k.grain.part.toNat (s.epId w) dst k.grain.mTarget 0 0 true []
    else mkMem vc 15 k.grain.part.toNat (s.epId w) dst 0 0 0 0 0 0
  let rk : Copy := { grain := { r with tag := k.grain.tag }, epoch := k.epoch, seq := k.seq, due := true, first := true }
  let c := (s.epOf w).chan dst vc
  let later := c.copies.filter (·.from_ t)
  let s := s.modEp w fun e => e.setChan dst vc { c with copies := c.copies.filter (fun x => !x.from_ t) ++ rk :: later }
  match later with
  | [] => s.sendDue w dst vc
  | x :: _ => s.recover w dst vc x.grain.tag.toNat none

/-- A request toward a destination has failed with TARGET_LOST: the first in each 1 ms is reported (R515). -/
def State.noteUnreachable (s : State) (w : EpSel) (dst : Nat) : State :=
  if thas (s.epOf w).lostAt dst ∧ s.ns < tget (s.epOf w).lostAt dst 0 + 1000000 then s
  else (s.modEp w fun e => { e with lostAt := tset e.lostAt dst s.ns }).epFault w 0x1B 3 dst St.targetLost 0 1

/-- An ERROR response (R106, R114, R569). -/
def State.onError (s : State) (w : EpSel) (g : Grain) : State :=
  let dst := g.target
  let vc := g.reqVc
  let s := s.release w dst vc (fun x => x.grain.tag != g.tag && covers g x) 0 [] 0
  match ((s.epOf w).chan dst vc).copies.find? (fun k => k.grain.tag == g.tag) with
  | none => s.pump w
  | some k =>
    let s := if g.status = St.targetLost then s.noteUnreachable w dst else s
    if g.path && (decide (g.status = St.targetLost) || k.grain.isSeqReset) then s.failFrom w dst vc g.tag.toNat g.status
    else
      let s := s.release w dst vc (fun x => x.grain.tag == g.tag) g.status [] 0
      (if g.path then s.resetAt w dst vc k else s).pump w

/-- A grain that answers arrives at the requester: its CHECK comes first (R104). -/
def State.onResponse (s : State) (w : EpSel) (g : Grain) (f : State → State) : State :=
  if g.checkOk then f s else s.checkFail w g

/-! ### NACKs at the source (R109) -/

/-- A NACK whose BIRTH is earlier than the grain's latest send is ignored. -/
def birthEarlier (nack copy : Nat) : Bool := nack != copy && decide ((copy + 64 - nack) % 64 < 32)

/-- The source acts on a NACK for a tagged grain of its own. -/
def State.onNack (s : State) (w : EpSel) (fields : Nat) : State :=
  let dst := fld fields 39 26
  let vc := fld fields 65 63
  let tag := fld fields 54 40
  let cause := fld fields 56 55
  match ((s.epOf w).chan dst vc).copies.find? (fun k => k.grain.tag.toNat == tag) with
  | none => s
  | some k =>
    if birthEarlier (fld fields 62 57) k.grain.birth.toNat then s
    else if cause = 1 ∨ cause = 2 then
      -- the re-send waits RESEND_TIMEOUT spans from now
      s.modEp w fun e =>
        let c := e.chan dst vc
        e.setChan dst vc { c with copies := lmod c.copies (fun x => x.from_ tag && !x.first) (fun x =>
          { x with lastSpan := s.epSpan w, due := false, cause := if x.grain.tag.toNat = tag then some cause else x.cause }) }
    else s.recover w dst vc tag (some cause)

/-! ### Cutting a transfer into grains (R195, R242, R365) -/

/-- A chunk that a range covers only in part. -/
def partialChunk (off len c : Nat) : Bool := decide (64 * c < off) || decide (off + len < 64 * c + 64)

/-- The grains of a write: (first chunk, chunks, masked).  A run with a partial chunk among its next three travels as
one STORE_MASKED of up to three chunks, any other as one STORE of up to four. -/
def cutWrite (off len : Nat) : Nat → Nat → List (Nat × Nat × Bool)
  | 0, _ => []
  | fuel + 1, c =>
    let last := (off + len - 1) / 64
    if last < c then []
    else
      let left := last + 1 - c
      if (List.range (min 3 left)).any (fun i => partialChunk off len (c + i)) then
        (c, min 3 left, true) :: cutWrite off len fuel (c + min 3 left)
      else
        let n := (List.range (min 4 left)).foldl (fun n i => if n = i ∧ !partialChunk off len (c + i) then n + 1 else n) 0
        (c, n, false) :: cutWrite off len fuel (c + n)

/-- The grains of a read: up to four chunks each. -/
def cutRead (off len : Nat) : Nat → Nat → List (Nat × Nat × Bool)
  | 0, _ => []
  | fuel + 1, c =>
    let last := (off + len - 1) / 64
    if last < c then [] else (c, min 4 (last + 1 - c), false) :: cutRead off len fuel (c + min 4 (last + 1 - c))

def cut (write : Bool) (off len : Nat) : List (Nat × Nat × Bool) :=
  let n := len / 64 + 2
  if len = 0 then [] else if write then cutWrite off len n (off / 64) else cutRead off len n (off / 64)

/-- Payload of a write grain: the octets of the chunks, and for STORE_MASKED the mask (R88). -/
def writePayload (data : Bytes) (off len c n : Nat) (masked : Bool) : Nat :=
  let at_ (a : Nat) : Byte := if off ≤ a ∧ a < off + len then data.getD (a - off) 0 else 0
  let body := leNat ((List.range (64 * n)).map fun i => at_ (64 * c + i))
  if masked then
    body + maskOf ((List.range (64 * n)).filter fun i => decide (off ≤ 64 * c + i) && decide (64 * c + i < off + len)) * 2 ^ (8 * 192)
  else body

/-- One piece of a transfer in one region: region offset, length, place in the request. -/
structure Piece where
  dst : Nat := 0
  handle : Nat := 0
  key : Nat := 0
  off : Nat := 0
  len : Nat := 0
  pos : Nat := 0

/-- The grains of one piece, with their place in the request. -/
def pieceGrains (src : Nat) (r : EngReq) (p : Piece) : List (Grain × Int) :=
  if r.isAtomic then
    [(mkMem 2 r.atomicOp r.part src p.dst p.key r.ctx p.handle (p.off / 64) 0 (leNat (r.data.take 24)), 0)]
  else
    (cut r.writes p.off p.len).map fun ((c, n, masked) : Nat × Nat × Bool) =>
      let pos : Int := ((64 * c : Nat) : Int) - (p.off : Int) + (p.pos : Int)
      if r.writes then
        (mkMem (if r.bulk then 4 else 0) (if masked then 3 else 2) r.part src p.dst p.key r.ctx p.handle c (n - 1)
          (writePayload (r.data.drop p.pos) p.off p.len c n masked), pos)
      else (mkMem 0 (if r.kind = 1 then 1 else 0) r.part src p.dst p.key r.ctx p.handle c (n - 1) 0, pos)

/-- Issue the pieces of a request, made in a fence epoch, as grains on their channels. -/
def State.issue (s : State) (w : EpSel) (r : EngReq) (fn epoch : Nat) (ps : List Piece) : State :=
  let gs := ps.flatMap (pieceGrains (s.epId w) r)
  let t : Transfer := { req := r, fn, left := gs.length }
  let s := s.modEp w fun e => { e with transfers := e.transfers ++ [t] }
  let s := gs.foldl (fun s (g, pos) =>
    if g.vc = 4 then s.modEp w fun e => { e with vc4 := e.vc4 ++ [{ grain := g, epoch, req := r.id, pos }] }
    else s.enqueueAt w g r.id pos epoch) s
  s.pump w

/-- A plain LOAD whose every chunk has a copy is answered from the copies (R206). -/
def EndPoint.fromCopies (e : EndPoint) (r : EngReq) (ps : List Piece) : Option Bytes :=
  if r.kind ≠ 0 then none
  else
    let one (p : Piece) : Option Bytes :=
      ((List.range p.len).mapM fun i =>
        let a := p.off + i
        (e.store.find? (fun x => x.1 == p.dst && x.2.1 == p.handle && x.2.2.1 == a / 64)).map fun x => x.2.2.2.getD (a % 64) 0)
    (ps.mapM one).map List.flatten

/-! ### Contexts, bindings and translation (R234 to R241) -/

/-- The lowest valid entry of a PASID in the context table (R235). -/
def State.contextInTable (s : State) (pasid : Nat) : Option (BitVec 64) :=
  let base := s.epReg .faette 0x6200 3
  ((List.range 1024).map fun i => BitVec.ofNat 64 (leNat (s.faette.home.read (base + 8 * i) 8))).find? fun e =>
    bit e.toNat 63 && fld e.toNat 62 43 == pasid

/-- Context table entry of a PASID: the one kept since the last FLUSH, else that of the table (R235, log 24). -/
def State.context (s : State) (pasid : Nat) : Option (BitVec 64) :=
  match s.faette.ctxCache.find? (fun x => x.1 == pasid) with
  | some x => some x.2
  | none => s.contextInTable pasid

/-- Binding of a handle: the one kept since the last FLUSH, else the array in memory (R236, log 24). -/
def State.binding (s : State) (handle : Nat) : BitVec 64 :=
  match s.faette.bindCache.find? (fun x => x.1 == handle) with
  | some x => x.2
  | none => BitVec.ofNat 64 (leNat (s.faette.home.read (s.epReg .faette 0x6200 4 + 8 * handle) 8))

/-- A tray address is well formed: bit 63 set, bits 62:58 zero (R234). -/
def isTray (x : Nat) : Bool := bit x 63 && fld x 62 58 == 0

def AtcRun.size (r : AtcRun) : Nat := r.pages * 2 ^ r.sizeLog

def AtcRun.covers (r : AtcRun) (pasid va : Nat) : Bool :=
  r.pasid == pasid && decide (r.va ≤ va) && decide (va < r.va + r.size)

/-- Two runs merge (R237). -/
def AtcRun.joins (a b : AtcRun) : Bool :=
  a.pasid == b.pasid && a.sizeLog == b.sizeLog && a.r == b.r && a.w == b.w && a.ctx == b.ctx && b.va == a.va + a.size &&
  b.tray == a.tray + a.size && fld a.tray 57 37 == fld b.tray 57 37 && decide (a.pages + b.pages ≤ 64)

/-- Put a run into the cache, merged with the runs beside it; 4,096 entries, least recently used dropped (R237). -/
def atcInsert (l : List AtcRun) (n : AtcRun) : List AtcRun :=
  let l := l.filter fun r => !(r.pasid == n.pasid && decide (r.va < n.va + n.size) && decide (n.va < r.va + r.size))
  let before := l.find? (fun r => r.joins n)
  let (n, l) := match before with
    | some r => ({ r with pages := r.pages + n.pages }, l.filter (· != r))
    | none => (n, l)
  let after := l.find? (fun r => n.joins r)
  let (n, l) := match after with
    | some r => ({ n with pages := n.pages + r.pages }, l.filter (· != r))
    | none => (n, l)
  (n :: l).take 4096

/-- Result of looking a request up in the cache. -/
inductive Lookup where
  | hit (ps : List (Nat × Nat × Nat))   -- (virtual address, length, tray address)
  | miss (va : Nat)
  | noRights (va : Nat)
  | noRead

/-- Translate a range page run by page run. -/
def lookup (l : List AtcRun) (pasid : Nat) (write : Bool) : Nat → Nat → Nat → List (Nat × Nat × Nat) → Lookup
  | 0, _, _, acc => .hit acc
  | fuel + 1, va, len, acc =>
    if len = 0 then .hit acc
    else
      match l.find? (fun r => r.covers pasid va) with
      | none => .miss va
      | some r =>
        if write && !r.w then .noRights va
        else if !write && !r.r then .noRead
        else
          let n := min len (r.va + r.size - va)
          lookup l pasid write fuel (va + n) (len - n) (acc ++ [(va, n, r.tray + (va - r.va))])

/-- The runs that a translated range uses become the most recently used (R237). -/
def atcTouch (l : List AtcRun) (pasid : Nat) (segs : List (Nat × Nat × Nat)) : List AtcRun :=
  let used (r : AtcRun) : Bool := segs.any fun x => r.covers pasid x.1
  l.filter used ++ l.filter fun r => !used r

/-- A request that fails translation sends no grain (R241, Table 7.4). -/
def State.transFail (s : State) (r : EngReq) (detail status : Nat) (handle off : Nat := 0) : State :=
  let s := s.errorRecord .faette r.len off handle 0 (r.pasid.getD 0) detail status 1 0 0
  s.emit (.engine r.id status [])

/-- An outstanding request's range covers an address. -/
def AtsReq.covers (a : AtsReq) (pasid va : Nat) : Bool :=
  a.pasid == pasid && decide (a.va ≤ va) && decide (va < a.va + 2 ^ (a.sizeLog + 6))

/-- Send a Translation Request for the 64 pages of a size that contain an address, unless one that covers it and satisfies a
test is outstanding, or 64 are (R238). -/
def State.ask (s : State) (pasid va sizeLog : Nat) (write : Bool) (serves : AtsReq → Bool) : State :=
  let start := va / 2 ^ (sizeLog + 6) * 2 ^ (sizeLog + 6)
  if s.faette.ats.any (fun a => a.covers pasid va && serves a) || decide (64 ≤ s.faette.ats.length) then s
  else
    ({ s with faette := { s.faette with ats := s.faette.ats ++ [AtsReq.mk pasid start sizeLog write []] } }).emit
      (.agent "TranslationRequest" [pasid, start, sizeLog, b2n write])

/-- Pieces of a translated request, or the handle and offset of the first that has no binding. -/
def State.pieces (s : State) (va0 : Nat) : List (Nat × Nat × Nat) → Except (Nat × Nat) (List Piece)
  | [] => .ok []
  | (va, n, tray) :: r =>
    let h := fld tray 57 37
    let b := (s.binding h).toNat
    if !bit b 63 then .error (h, fld tray 36 0)
    else
      match s.pieces va0 r with
      | .error e => .error e
      | .ok l =>
        .ok (({ dst := fld b 59 46, handle := h, key := fld b 45 14, off := fld tray 36 0, len := n, pos := va - va0 } : Piece) :: l)

/-- A request waits for a translation. -/
def State.waitFor (s : State) (r : EngReq) (epoch : Nat) : State :=
  { s with faette := { s.faette with waitTrans := s.faette.waitTrans ++ [{ req := r, epoch }] } }

/-- One attempt to serve an engine request that names a virtual address, made in a fence epoch. -/
def State.tryEngine (s : State) (r : EngReq) (epoch : Nat) : State :=
  let pasid := r.pasid.getD 0
  match s.context pasid with
  | none => s.transFail r 3 St.contextDenied
  | some c =>
    -- R237: runs filled under another entry of this PASID are dropped
    let s := { s with faette := { s.faette with
      ctxCache := tset s.faette.ctxCache pasid c, atc := s.faette.atc.filter fun x => x.pasid != pasid || x.ctx == c } }
    let r := { r with part := fld c.toNat 42 37, ctx := fld c.toNat 36 27 }
    let write := r.writes || r.isAtomic
    match lookup s.faette.atc pasid write (r.len / 4096 + 2) r.addr r.len [] with
    | .noRead => s.transFail r 2 St.contextDenied
    | .noRights va => (s.waitFor r epoch).ask pasid va 12 true (·.write)
    | .miss va => (s.waitFor r epoch).ask pasid va 12 write (fun _ => true)
    | .hit segs =>
      let s := { s with faette := { s.faette with atc := atcTouch s.faette.atc pasid segs } }
      match s.pieces r.addr segs with
      | .error e => s.transFail r 6 St.contextDenied e.1 e.2
      | .ok ps =>
        let s := { s with faette := { s.faette with
          bindCache := ps.foldl (fun t (p : Piece) => tset t p.handle (s.binding p.handle)) s.faette.bindCache } }
        match s.faette.fromCopies r ps with
        | some d => s.emit (.engine r.id 0 d)
        | none => s.issue .faette r 0 epoch ps

/-! ### The commands -/

open Sys2Proof

/-- ENGINE_REQUEST (R242): an engine hands the Faette a request; puts and gets name their target, the others are
translated. -/
def execEngineRequest (r : EngReq) (s : State) : Out :=
  .next (
    if r.kind = 4 ∨ r.kind = 5 then
      s.issue .faette r 0 s.faette.epoch [{ dst := r.dst, handle := r.handle, key := r.key, off := r.addr, len := r.len, pos := 0 }]
    else s.tryEngine r s.faette.epoch)

/-- A new fence of the observer: later requests carry a higher epoch, and every copy is dropped (R208); what has failed since
the fence before it counts (R210). -/
def State.newFence (s : State) (id pasid : Nat) (remote : Bool) : State :=
  let e := s.faette
  let f : Fence := { id, no := e.epoch + 1, remote, pasid }
  { s with faette := { e with
      epoch := e.epoch + 1, store := [], failed := [], fences := e.fences ++ [e.failed.foldl (fun f x => f.note x) f] } }

/-- FENCE_LOCAL (R208): by an engine, in its context. -/
def execFenceLocal (q : FenceReq) (s : State) : Out := .next (s.newFence q.id q.pasid.toNat false)

/-- FENCE_REMOTE (R209). -/
def execFenceRemote (q : FenceReq) (s : State) : Out := .next (s.newFence q.id q.pasid.toNat true)

/-- A fence still waits for a request that it covers: unacknowledged, unsent or not yet translated. -/
def EndPoint.waits (e : EndPoint) (f : Fence) : Bool :=
  e.send.any (fun c => c.2.copies.any (fun k => f.covers k.epoch k.grain)) ||
  e.queue.any (fun q => f.covers q.epoch q.grain) || e.vc4.any (fun q => f.covers q.epoch q.grain) ||
  e.waitTrans.any (fun x => decide (x.epoch < f.no) && (!f.remote || x.req.writes || x.req.isAtomic))

/-- FENCE_COMPLETE (R210): once its covered requests are acknowledged or failed, the fence reports the first failure. -/
def execFenceComplete (id : Nat) (s : State) : Out :=
  .next (match s.faette.fences.find? (fun f => f.id == id) with
    | none => s
    | some f =>
      if s.faette.waits f then s
      else
        let st := match f.first with
          | none => St.ok
          | some (_, x) => x
        let s := { s with faette := { s.faette with fences := s.faette.fences.filter (fun x => x.id != id) } }
        let s := if st = 0 then s else s.errorRecord .faette 0 0 0 0 f.pasid 0 st 3 0 0
        (s.emit (.engine id st [])).pump .faette)

/-- Serve again the requests that wait for a translation. -/
def State.retryAll (s : State) : State :=
  let ws := s.faette.waitTrans
  let s := { s with faette := { s.faette with waitTrans := [] } }
  ws.foldl (fun s x => s.tryEngine x.req x.epoch) s

/-- The first page that keeps a waiting request from its translation, and whether only its write right is missing. -/
def State.lacks (s : State) (r : EngReq) : Option (Nat × Bool) :=
  match lookup s.faette.atc (r.pasid.getD 0) (r.writes || r.isAtomic) (r.len / 4096 + 2) r.addr r.len [] with
  | .miss va => some (va, false)
  | .noRights va => some (va, true)
  | _ => none

/-- What a waiting request lacks lies in the range of a translation request of its PASID. -/
def State.missesIn (s : State) (a : AtsReq) (r : EngReq) : Bool :=
  match s.lacks r with
  | some (va, right) => a.covers (r.pasid.getD 0) va && (!right || a.write)
  | none => false

/-- The outstanding request that a completion or a timeout names. -/
def State.atsOf (s : State) (pasid va sizeLog : Nat) : Option AtsReq :=
  s.faette.ats.find? fun a => a.pasid == pasid && a.va == va && a.sizeLog == sizeLog

/-- A completion's range or one of its pages overlaps a range invalidated since the request was sent (R241). -/
def AtsReq.isStale (a : AtsReq) (pages : List AtsPage) : Bool :=
  a.cut.any fun (va, len) =>
    (decide (a.va < va + len) && decide (va < a.va + 2 ^ (a.sizeLog + 6))) ||
    pages.any fun p => decide (p.va < va + len) && decide (va < p.va + 2 ^ p.sizeLog)

/-- ATS_TRANSLATION_COMPLETION (R238, R240, R241): pages that translate are merged into the cache, a larger page size is asked
for once more, and the waiting requests proceed or fail. -/
def execAtsTranslationCompletion (pasid va sizeLog : Nat) (pages : List AtsPage) (s : State) : Out :=
  .next (match s.atsOf pasid va sizeLog with
    | none => s
    | some a =>
      let s := { s with faette := { s.faette with ats := ldrop s.faette.ats (· == a) } }
      if a.isStale pages then s.ask pasid va sizeLog a.write (fun b => b.sizeLog == sizeLog && (b.write || !a.write))
      else
        let good := pages.filter fun p => (p.r || p.w) && isTray p.tray.toNat
        let denied := pages.filter fun p => (p.r || p.w) && !isTray p.tray.toNat
        let ctx := (s.context pasid).getD 0
        let atc := good.foldl (fun l p => atcInsert l
          { pasid, va := p.va / 2 ^ p.sizeLog * 2 ^ p.sizeLog, pages := 1, sizeLog := p.sizeLog, tray := p.tray.toNat,
            r := p.r, w := p.w, ctx }) s.faette.atc
        let s := { s with faette := { s.faette with atc } }
        -- the pages of a miss that were not granted fail their requests
        let lost := s.faette.waitTrans.filter fun x => s.missesIn a x.req
        let fails := lost.map fun x => (x.req, match s.lacks x.req with
          | some (_, true) => 2
          | some (va, false) => if denied.any fun p => decide (p.va ≤ va) && decide (va < p.va + 2 ^ p.sizeLog) then 4 else 1
          | none => 1)
        let s := { s with faette := { s.faette with waitTrans := s.faette.waitTrans.filter (fun x => !lost.contains x) } }
        let s := fails.foldl (fun s x => s.transFail x.1 x.2 St.contextDenied) s
        let s := match good.find? (fun p => decide (12 < p.sizeLog) && sizeLog == 12) with
          | some p => s.ask pasid p.va p.sizeLog a.write (fun b => decide (p.sizeLog ≤ b.sizeLog))
          | none => s
        s.retryAll)

/-- TRANSLATION_TIMEOUT (R240): no completion within 100 µs fails the requests that wait for it. -/
def execTranslationTimeout (pasid va sizeLog : Nat) (s : State) : Out :=
  .next (match s.atsOf pasid va sizeLog with
    | none => s
    | some a =>
      let lost := s.faette.waitTrans.filter fun x => s.missesIn a x.req
      let s := { s with faette := { s.faette with
        ats := ldrop s.faette.ats (· == a), waitTrans := s.faette.waitTrans.filter (fun x => !lost.contains x) } }
      (lost.foldl (fun s x => s.transFail x.req 5 St.contextDenied) s).retryAll)

/-- ATS_INVALIDATE_REQUEST (R241): drop what overlaps, for one PASID or for all, and begin to drain the transfers that
were translated through it. -/
def execAtsInvalidateRequest (itag : Nat) (pasid : Option Nat) (va len : Nat) (s : State) : Out :=
  let e := s.faette
  let mine (p : Nat) : Bool := pasid == none || pasid == some p
  let hit (r : AtcRun) : Bool := mine r.pasid && decide (r.va < va + len) && decide (va < r.va + r.size)
  let dropped := e.atc.filter hit
  let reqs := (e.transfers.filter fun t => !t.answered && dropped.any fun r =>
    t.req.pasid == some r.pasid && t.req.kind != 4 && t.req.kind != 5 &&
    decide (t.req.addr < r.va + r.size) && decide (r.va < t.req.addr + t.req.len)).map (·.req.id)
  .next { s with faette := { e with
    atc := e.atc.filter (fun r => !hit r),
    ats := e.ats.map (fun a => if mine a.pasid then { a with cut := a.cut ++ [(va, len)] } else a),
    invals := e.invals ++ [{ itag, reqs }] } }

/-- INVALIDATE_COMPLETION (R241): sent once every such write and load has finished. -/
def execInvalidateCompletion (itag : Nat) (s : State) : Out :=
  .next (match s.faette.invals.find? (fun i => i.itag == itag) with
    | none => s
    | some i =>
      if i.reqs.any (fun r => s.faette.transfers.any (fun t => t.req.id == r && !t.answered)) then s
      else ({ s with faette := { s.faette with invals := s.faette.invals.filter (fun x => x.itag != itag) } }).emit
        (.agent "InvalidateCompletion" [itag]))

end Sys2Proof.Machine
end

