-- ==== Sys2Proof/Machine/Steps.lean ====
section
/-! DEFINITION. Completions of ring commands, step tokens and stepped operations (11 R354 to R361, 12 R394). -/

namespace Sys2Proof.Machine

open Sys2Proof

/-! ### Completion entries (R357, Table 11.8) -/

/-- An entry is still owed to a fetched command. -/
def FnState.owes (x : FnState) : Nat :=
  x.cmds.foldl (fun n c => n + (if c.done then 0 else 1) + (if c.second then 1 else 0)) 0

/-- A ring that drains is disabled once no entry is owed (R353). -/
def FnState.drain (x : FnState) : FnState := if x.state = 2 ∧ x.owes = 0 then { x with state := 0 } else x

def RingCmd.id (c : RingCmd) : Nat := fld c.bits.toNat 31 16
def RingCmd.opcode (c : RingCmd) : Nat := fld c.bits.toNat 7 0
def RingCmd.noIrq (c : RingCmd) : Bool := bit c.bits.toNat 14
def RingCmd.vec (c : RingCmd) : Nat := fld c.bits.toNat 13 8
def RingCmd.barrier (c : RingCmd) : Bool := bit c.bits.toNat 15
def RingCmd.len (c : RingCmd) : Nat := fld c.bits.toNat 63 32
def RingCmd.hostAddr (c : RingCmd) : Nat := fld c.bits.toNat 127 64
def RingCmd.operand (c : RingCmd) (hi lo : Nat) : Nat := fld c.bits.toNat hi lo

/-- Write one entry at the CQ tail and signal its vector after it. -/
def State.post (s : State) (f id status result detail : Nat) (second : Bool) : State :=
  let x := s.fn f
  let e := b2n x.phase + put (b2n second) 1 1 + put detail 15 8 + put id 31 16 + put status 47 32 + put x.sqHead 63 48
    + put result 127 64
  let s := s.emit (.hostWrite f (x.cqBase + 16 * x.cqTail) (natLe 16 e))
  let wrap := x.cqSize ≤ x.cqTail + 1
  let cmd := x.cmds.find? (fun c => c.id == id && (if second then c.second else !c.done))
  let cmds := lmodFirst x.cmds (fun c => c.id == id && (if second then c.second else !c.done)) (fun c =>
    if second then { c with second := false } else { c with done := true })
  let s := s.setFn f { x with
    cqTail := if wrap then 0 else x.cqTail + 1, cqUsed := x.cqUsed + 1, phase := if wrap then !x.phase else x.phase,
    cmds := cmds.filter (fun c => !c.done || c.second) }
  let s := s.modFn f FnState.drain
  match cmd with
  | some c => if c.noIrq then s else s.signal f c.vec
  | none => s

/-- A fetched command whose entry is still to be written. -/
def FnState.waits (x : FnState) (id : Nat) (second : Bool) : Bool :=
  x.cmds.any (fun c => c.id == id && (if second then c.second else !c.done)) &&
  !x.posts.any (fun p => p.1 == id && p.2.2.2.2 == second)

/-- The ring posts nothing: it is in error, or drains after an error (R354). -/
def FnState.holds (x : FnState) : Bool := x.state == 3 || (x.state == 2 && x.error != 0)

/-- Complete a command: at once, or held back after a ring error (R354); one that a reset has forgotten completes nowhere
(R350). -/
def State.complete (s : State) (f id status result detail : Nat) (second : Bool) : State :=
  if !(s.fn f).waits id second then s
  else if (s.fn f).holds then s.modFn f fun x => { x with posts := x.posts ++ [(id, status, result, detail, second)] }
  else s.post f id status result detail second

/-! ### Step tokens (R358) -/

/-- Function number under which a route's tokens are held (R394). -/
def Route.fnNo : Route → Nat
  | .pf => 0
  | .vf p => p.val + 1
  | .mgmtOpen => 0x80
  | .mgmtAuth => 0x80
  | .vc6 _ _ => 0x81

def Route.partNo : Route → Nat
  | .vf p => p.val
  | .vc6 p _ => p.val
  | _ => 0

def State.tokenTable (s : State) (f : Nat) : TokenTable := tget s.tokens f {}

/-- The 64 bits of a token. -/
def tokenBits (f : Nat) (t : StepToken) : Nat := put t.serial 31 0 + put t.sub 39 32 + put t.idx 55 40 + put f 63 56

/-- Room for one more token: the oldest finished one is forgotten (R358). -/
def TokenTable.make (t : TokenTable) : Option TokenTable :=
  if t.held.length < 256 then some t
  else if t.held.any (fun k => k.done.isSome) then some { t with held := ldrop t.held (fun k => k.done.isSome) }
  else none

/-- Whether a running operation was started by a STEP sub-index (Table 12.3). -/
def State.stepRuns (s : State) (idx sub : Nat) : Bool := s.steps.any (fun o => o.idx == idx && o.sub == sub)

/-- Start a stepped operation: STEP_PENDING and a token, or LOAD_BUSY when no token is free.  An index above FFFF is that of an
end-point's agent, which holds tokens of its own. -/
def State.startStep (s : State) (r : Route) (idx sub value : Nat) (data : Bytes := []) : State × Nat × Nat :=
  let f := if 0x10000 ≤ idx then 0x181 else Route.fnNo r
  match (s.tokenTable f).make with
  | none => (s, St.loadBusy, 0)
  | some t =>
    let tok : StepToken := { serial := t.next, idx, sub, part := Route.partNo r }
    let s := { s with
      tokens := tset s.tokens f { next := (t.next + 1) % 2 ^ 32, held := t.held ++ [tok] },
      steps := s.steps ++ [{ fn := f, serial := t.next, idx, sub, value, route := r, data }] }
    (s, St.stepPending, tokenBits f tok)

/-- The RESULT sub-index of a STEP object. -/
def resultOf (idx sub : Nat) : Option Nat :=
  match idx, sub with
  | 0x2000, 4 => some 5
  | 0x3090, 1 => some 3
  | 0x4010, 1 => some 5
  | 0x4060, 1 => some 5
  | 0x5010, 1 => some 4
  | 0x5060, 1 => some 3
  | 0x6010, 4 => some 5
  | 0x6020, 1 => some 3
  | 0x6310, 2 => some 4
  | 0x8300, 0x0C => some 0x0D
  | 0x9020, 1 => some 2
  | 0x9080, 1 => some 2
  | 0x9080, 7 => some 2
  | 0xA000, 1 => some 7
  | 0xB010, 0x0B => some 0x0C
  | 0xB100, 9 => some 0x0A
  | 0xB130, 4 => some 5
  | _, _ => none

/-- The last step of an operation has ended: RESULT, the token, EVENT_VECTOR and the queries that wait (R359, R360). -/
def State.endStep (s : State) (idx sub status : Nat) : State :=
  match s.steps.find? (fun o => o.idx == idx && o.sub == sub) with
  | none => s
  | some o =>
    let s := { s with steps := ldrop s.steps (fun x => x.idx == idx && x.sub == sub) }
    let s := match resultOf idx sub with
      | some r => s.setReg idx r status
      | none => s
    let t := s.tokenTable o.fn
    let waits := (t.held.filter (fun k => k.serial == o.serial)).flatMap (·.waiters)
    let s := { s with tokens := tset s.tokens o.fn { t with
      held := lmod t.held (fun k => k.serial == o.serial) (fun k => { k with done := some status, waiters := [] }) } }
    let s := if o.fn < 65 then s.signal o.fn (s.fn o.fn).eventVector else s
    waits.foldl (fun s (f, id) => s.complete f id status 0 0 false) s

/-- Change the running operation of a STEP sub-index. -/
def State.modStep (s : State) (idx sub : Nat) (f : StepOp → StepOp) : State :=
  { s with steps := lmodFirst s.steps (fun o => o.idx == idx && o.sub == sub) f }

def State.stepOp (s : State) (idx sub : Nat) : StepOp :=
  (s.steps.find? (fun o => o.idx == idx && o.sub == sub)).getD {}

end Sys2Proof.Machine
end

