-- ==== Sys2Proof/Machine/Access.lean ====
section
/-! DEFINITION. Dictionary accesses: rights, the order of the checks, persistence and wear, the restart of a core that an
access needs (12 R370 to R385, 13 R401, R420, R422, 14 R440, R442, 18 R537). -/

namespace Sys2Proof.Machine

open Sys2Proof

/-! ### Cores (13 R401, R420, R422) -/

/-- The core that owns an index, S P F A T H as 0 to 5 (Table 13.1). -/
def ownerCore (idx : Nat) : Nat :=
  if 0x9000 ≤ idx ∧ idx ≤ 0x9FFF ∨ 0xA000 ≤ idx ∧ idx ≤ 0xA0FF then 0
  else if 0x7000 ≤ idx ∧ idx ≤ 0x7FFF then 1
  else if 0x3000 ≤ idx ∧ idx ≤ 0x4FFF ∨ 0x6000 ≤ idx ∧ idx ≤ 0x6FFF then 2
  else if 0x5000 ≤ idx ∧ idx ≤ 0x5FFF then 3
  else if 0x8000 ≤ idx ∧ idx ≤ 0x8FFF ∨ 0xB000 ≤ idx ∧ idx ≤ 0xBFFF ∨ 0xF000 ≤ idx then 4
  else 5

def State.core (s : State) (k : Nat) : Core := tget s.boot.cores k {}

/-- What a request that needs a core is answered with while it restarts or has failed. -/
def State.coreStop (s : State) (k : Nat) : Option Nat :=
  if (s.core k).state = 2 then some St.serviceRestarting
  else if (s.core k).state = 3 then some St.serviceFailed
  else none

/-! ### Rights (R379, R440, Table 8.6) -/

/-- A handle lies in partition p's key domain (R283). -/
def State.inDomain (s : State) (p h : Nat) : Bool :=
  let b := s.reg (0x6100 + p) 3
  decide (b ≤ h) && decide (h < b + s.reg (0x6100 + p) 4)

/-- The Open set. -/
def openReach (idx sub : Nat) (write : Bool) : Bool :=
  if write then idx == 0x9020 && sub == 1
  else idx == 0x1000 || idx == 0x1010 || idx == 0x1020 || (idx == 0x1030 && decide (sub ≤ 2)) || idx == 0xA020
    || idx == 0x9000 || idx == 0x9020

/-- The Partition p set. -/
def State.partReach (s : State) (p idx sub : Nat) (write : Bool) (v : Nat) : Bool :=
  openReach idx sub write ||
  (!write && (idx == 0x1030 || idx == 0x4000 || idx == 0x6100 + p || idx == 0x8100 + p)) ||
  (idx == 0x6020) ||
  (idx == 0x6010 && (sub == 0 || (if write && sub == 1 then s.inDomain p (v % 2 ^ 21) else s.inDomain p (s.reg 0x6010 1)))) ||
  (idx == 0x9080 && (sub == 0 ||
    (if write && sub == 1 then s.inDomain p (fld v 351 320 % 2 ^ 21)
     else if write && sub == 8 then s.inDomain p (v % 2 ^ 21)
     else s.inDomain p (s.sec.release.getD {}).handle)))

/-- Objects that only the PF may write (R397, R407, R492, R544). -/
def pfOnly (idx sub : Nat) : Bool :=
  (idx == 0x1030 && (sub == 3 || sub == 4)) || (idx == 0xA000 && sub == 1) || (idx == 0xB100 && sub == 9) ||
  (idx == 0x8300 && sub == 0x0C) || (idx == 0xB010 && sub == 0x0B)

/-- The rights of a route reach a sub-index for an operation. -/
def State.reach (s : State) (r : Route) (idx sub : Nat) (write : Bool) (v : Nat) : Bool :=
  match r with
  | .pf => true
  | .mgmtAuth => !(write && pfOnly idx sub)
  | .vf p => s.partReach p.val idx sub write v
  | .mgmtOpen => openReach idx sub write
  | .vc6 p _ => if p.val = s.reg 0x2050 1 then !(write && pfOnly idx sub) else s.partReach p.val idx sub write v

/-! ### The checks of R378 -/

/-- Objects served in boot ROM and in minimal mode (R380, R440). -/
def inBootSet (idx : Nat) : Bool :=
  (decide (0x1000 ≤ idx) && decide (idx ≤ 0x2FFF)) || idx == 0x9000 || idx == 0x9020 ||
  (decide (0xA000 ≤ idx) && decide (idx ≤ 0xAFFF))

/-- Sub-indices of a unit that 1020 reports absent: the collective objects without a Counting Board, and B110 without
lock-step (R7, R191, 16). -/
def State.unitAbsent (s : State) (idx : Nat) : Bool :=
  !s.bootSet &&
  ((s.reg 0x1020 1 == 0 && (idx == 0x5000 || idx == 0x5010 || idx == 0x5020 || idx == 0x5040 || idx == 0x5050)) ||
   (s.reg 0x1020 5 == 0 && idx == 0xB110))

/-- Indices whose reads confidential mode refuses (18 R537, 14 Table 14.5); of 8300 it refuses every access. -/
def lockedRead (idx : Nat) : Bool :=
  idx == 0x8020 || idx == 0x8030 || (decide (0x8040 ≤ idx) && decide (idx < 0x8080)) ||
  (decide (0x8100 ≤ idx) && decide (idx < 0x8140))

/-- Highest write count of any block of an object (R383). -/
def State.wearOf (s : State) (idx : Nat) : Nat :=
  s.wear.foldl (fun m e => if e.1 / 16384 = idx then max m e.2 else m) 0

/-- The first four checks, which a DESCRIBE passes too (R391). -/
def State.checkName (s : State) (r : Route) (idx sub : Nat) (write : Bool) (v : Nat) : Option Nat :=
  if !((findObj idx sub).isSome || (sub == 0 && objCount idx != 0)) then some St.objectUnknown
  else if s.bootSet && !inBootSet idx then some St.featureNotNegotiated
  else if s.confidential && decide (0xF000 ≤ idx) then some St.confidentialLocked
  else if !s.reach r idx sub write v then some St.contextDenied
  else none

/-- The value of a write lies in the range that the object's table gives. -/
def Obj.inRange (o : Obj) (v : Nat) : Bool :=
  o.typ == 0x20 || o.typ == 0x21 || o.acc == 4 || (decide (o.lo ≤ v) && decide (v ≤ o.hi))

/-- The checks of R378 up to the range of the value; none: passed.  A read of an absent unit is passed here. -/
def State.check (s : State) (r : Route) (idx sub : Nat) (write : Bool) (v : Bytes) : Option Nat :=
  match s.checkName r idx sub write (leNat v) with
  | some e => some e
  | none =>
    if s.confidential && (idx == 0x8300 || (!write && sub != 0 && lockedRead idx)) then some St.confidentialLocked
    else
    match findObj idx sub with
    | none => if write then some St.accessMismatch else none
    | some o =>
      if (if write then o.acc == 0 else o.acc == 3 && !(idx == 0x6200 && sub == 0xB)) then some St.accessMismatch
      else if !write then none
      else if s.unitAbsent idx then some St.featureAbsent
      else if v.length ≠ o.size then some St.bounds
      else if o.acc = 2 ∧ 1000000 ≤ s.wearOf idx then some St.wearLimit
      else if !o.inRange (leNat v) then some St.valueRefused
      else none

/-! ### The persistent store (R381 to R384) -/

/-- Key of the write count of one block of a sub-index. -/
def wearKey (idx sub b : Nat) : Nat := 16384 * idx + 64 * sub + b

/-- Add one write to blocks of a sub-index; the first time that a block reaches 900,000 is reported. -/
def State.wearOut (s : State) (idx sub : Nat) (blocks : List Nat) : State :=
  let before := s.wearOf idx
  let s := { s with wear := blocks.foldl (fun w b => tmod w (wearKey idx sub b) 0 (· + 1)) s.wear }
  if before < 900000 ∧ 900000 ≤ s.wearOf idx then s.fault 0x13 12 idx St.wearWarn sub 1 else s

/-- Blocks of 64 octets that a sub-index takes. -/
def blocksOf (idx sub : Nat) : Nat :=
  match findObj idx sub with
  | some o => ceilDiv o.size 64
  | none => 1

/-- Write a RWP sub-index: an equal value changes nothing (R382); WEAR_WARN from 900,000 writes on (R384). -/
def State.writeNv (s : State) (idx sub v : Nat) : State × Nat :=
  if s.reg idx sub = v then (s, St.ok)
  else
    let s := (s.setReg idx sub v).wearOut idx sub (List.range (blocksOf idx sub))
    (s, if 900000 ≤ s.wearOf idx then St.wearWarn else St.ok)

/-! ### Writes -/

/-- What a write does once the checks of the table have passed: the state after, its status and its step token. -/
abbrev Effect := Route → Bytes → State → State × Nat × Nat

/-- A refusal by the object's own rule. -/
def refuse (s : State) (status : Nat) : State × Nat × Nat := (s, status, 0)

/-- A write that takes effect at once. -/
def done (s : State) : State × Nat × Nat := (s, St.ok, 0)

/-- Statuses under which a write takes effect. -/
def tookEffect (st : Nat) : Bool := st == St.ok || st == St.wearWarn || st == St.stepPending || st == St.capClamped

/-- The core that receives a request: H, but for VC6 (R401). -/
def State.receiver (s : State) (r : Route) : Option Nat :=
  match r with
  | .vc6 _ _ => none
  | _ => s.coreStop 5

/-- Route number, end-point and partition of a DICT_WRITE record (Table 18.9). -/
def Route.traced : Route → Nat × Option Nat
  | .pf => (0, none)
  | .vf p => (1, some p.val)
  | .mgmtOpen => (2, none)
  | .mgmtAuth => (2, none)
  | .vc6 p ep => (3 + 256 * ep.toNat, some p.val)

/-- Count a served access (Table 18.2). -/
def State.served (s : State) (st : Nat) : State := if tookEffect st then s.devTally 1 1 else s

/-- Count a write that was served, and trace every write with its status. -/
def State.wrote (s : State) (r : Route) (idx sub st : Nat) : State :=
  let t := Route.traced r
  (s.served st).trace 6 9 0x3F t.2 (256 * idx + sub) (put st 15 0 + put t.1 37 16)

/-- A read on a route, with the value or the failure that the object gives; it needs no owning core (R422). -/
def State.readWith (s : State) (r : Route) (idx sub : Nat) (f : State → State × Nat × Bytes) : State × Nat × Bytes :=
  match s.receiver r with
  | some st => (s, st, [])
  | none =>
    match s.check r idx sub false [] with
    | some st => (s, st, [])
    | none =>
      let x := f s
      (x.1.served x.2.1, x.2.1, x.2.2)

/-- The block is powered and out of reset, so that a route leads to it. -/
def State.awake (s : State) : Bool := s.boot.phase != .off && s.boot.phase != .inReset

/-- A read given as a command of its own row. -/
def State.rowRead (s : State) (r : Route) (idx sub : Nat) (f : State → State × Nat × Bytes) : State :=
  if !s.awake then s
  else
    let x := s.readWith r idx sub f
    x.1.emit (.answer r idx sub x.2.1 0 x.2.2)

/-- A write on a route: the receiving core H, the checks of R378, the object's own rule, the owning core (R401, R422). -/
def State.writeCore (s : State) (r : Route) (idx sub : Nat) (v : Bytes) (e : Effect) : State × Nat × Nat :=
  match s.receiver r with
  | some st => (s, st, 0)
  | none =>
    match s.check r idx sub true v with
    | some st => (s, st, 0)
    | none =>
      let x := e r v s
      if tookEffect x.2.1 then
        match s.coreStop (ownerCore idx) with
        | some st => (s, st, 0)
        | none => x
      else x

/-- A write on a route, counted and traced. -/
def State.writeWith (s : State) (r : Route) (idx sub : Nat) (v : Bytes) (e : Effect) : State × Nat × Nat :=
  let x := s.writeCore r idx sub v e
  (x.1.wrote r idx sub x.2.1, x.2)

/-- A write given as a command of its own row: the answer goes back on its route. -/
def State.rowWrite (s : State) (r : Route) (idx sub : Nat) (v : Bytes) (e : Effect) : State :=
  if !s.awake then s
  else
    let x := s.writeWith r idx sub v e
    x.1.emit (.answer r idx sub x.2.1 x.2.2 [])

/-- A STEP sub-index starts its operation with the value written; it is refused while it runs (R358). -/
def startEffect (idx sub : Nat) : Effect := fun r v s =>
  if s.stepRuns idx sub then refuse s St.loadBusy else s.startStep r idx sub (leNat v) v

end Sys2Proof.Machine
end

