-- ==== Sys2Proof/Machine/Start.lean ====
section
/-! DEFINITION. Power, reset, the five phases of a start, failed starts and minimal mode, core restarts and the interface
negotiation (13, 12 R374, 14 R441, 15 R455, R473, 19 R551, R552). -/

namespace Sys2Proof.Machine

open Sys2Proof

/-! ### Start records (Table 13.8) -/

def StartRecord.bits (r : StartRecord) : Nat :=
  put r.trigger 259 256 + put r.outcome 263 260 + put r.detail 271 264 + put r.reason 279 272 + put r.failedCount 287 280
  + put r.duration 319 288 + put r.number 351 320 + put r.fwVersion 383 352 + put r.imagePrefix 447 384 + put r.hostTime 511 448

/-- Rewrite record 0; its block of A010 takes one more write (R417). -/
def State.modRecord (s : State) (f : StartRecord → StartRecord) : State :=
  match s.boot.records with
  | [] => s
  | r :: l => ({ s with boot := { s.boot with records := f r :: l } }).wearOut 0xA010 2 [r.number % 16]

/-- Close record 0 with an outcome. -/
def State.closeRecord (s : State) (outcome reason detail : Nat) : State :=
  s.modRecord fun r =>
    { r with outcome, reason, detail, hostTime := s.reg 0xA000 4, failedCount := s.reg 0xA020 3,
             duration := min ((s.ns - s.boot.begun) / 1000) 0xFFFFFFFF,
             fwVersion := (match s.boot.image with | some h => h.version | none => 0),
             imagePrefix := fld (s.reg 0xA030 2) 63 0 }

/-- A record still open is closed as INTERRUPTED (R413, R417, R551). -/
def State.interruptRecord (s : State) : State :=
  match s.boot.records with
  | r :: _ => if r.outcome = 0 ∧ r.number ≠ 0 then s.closeRecord 3 0 0 else s
  | [] => s

/-- Open the record of a start as IN_PROGRESS (R403, R417). -/
def State.openRecord (s : State) (trigger : Nat) : State :=
  let s := s.interruptRecord
  let n := (s.reg 0xA010 1 + 1) % 2 ^ 32
  let s := s.setReg 0xA010 1 n
  let r : StartRecord := { number := n, trigger, failedCount := s.reg 0xA020 3 }
  ({ s with boot := { s.boot with records := (r :: s.boot.records).take 16, begun := s.ns } }).wearOut 0xA010 2 [n % 16]

/-- REASON and DETAIL of A020: those of the newest record that has a reason. -/
def State.lastFailure (s : State) : Nat × Nat :=
  match s.boot.records.find? (fun r => r.reason != 0) with
  | some r => (r.reason, r.detail)
  | none => (0, 0)

/-! ### Areas of memory (Table 10.2, R327, R328) -/

/-- Home address at which LPDDR5X begins. -/
def lpddrBase : Nat := 0x4000000000

/-- Base and size, in GiB, of areas 0 to 6: table, staging, fast tier, firmware, trace, journal, second tier. -/
def State.areas (s : State) : List (Nat × Nat) :=
  let st := if s.hasBoard then s.reg 0x2030 1 else 0
  let tr := s.reg 0x2030 2
  let jo := s.reg 0x2030 3
  [(0, 1), (1, st), (1 + st, s.reg 0x1020 3 - 1 - st), (256, 1), (257, tr), (257 + tr, jo),
   (257 + tr + jo, s.reg 0x1020 4 - 1 - tr - jo)]

/-- MEMORY_MAP 6300, the journal's and the trace ring's capacity take the layout of this start. -/
def State.layMemory (s : State) : State :=
  let s := s.areas.zipIdx.foldl (fun s (a, k) =>
    (s.setReg 0x6300 (k + 1) (if a.2 = 0 then 0 else a.1 * 2 ^ 30)).setReg 0x6300 (k + 8) (a.2 * 2 ^ 30)) s
  (s.setReg 0xB100 4 (s.reg 0x2030 3 * 2 ^ 23)).setReg 0x8300 0x10 (s.reg 0x2030 2 * 2 ^ 25)

/-! ### What a start keeps and what it resets (R374, R402, R455, R448) -/

/-- Counters since power-up, which a start under power keeps. -/
def sincePowerUp : List (Nat × Nat) :=
  [(0x4031, 1), (0x5040, 1), (0x5000, 5), (0x5000, 6), (0x6000, 4), (0x6030, 3), (0x6030, 4), (0x6320, 7), (0xA100, 4),
   (0xA100, 5), (0xA100, 6), (0x7000, 7), (0x7020, 5), (0x7040, 4), (0xB010, 5), (0xB050, 2)]

/-- Objects that keep their values across a start that does not begin at PKG_RST_N (R374), and 1020 (R4). -/
def keptAtRestart : List (Nat × Nat) := [(0xA000, 2), (0xA000, 3), (0xA000, 4)]

def probedObjects : List (Nat × Nat) := (List.range 8).map fun i => (0x1020, i + 1)

/-- The volatile cells that a start keeps. -/
def State.keptRegs (s : State) (full : Bool) : Tab Nat :=
  let keep := probedObjects ++ (if s.boot.cold then [] else sincePowerUp) ++ (if full then [] else keptAtRestart)
  s.regs.filter fun e => keep.any fun k => regKey k.1 k.2 == e.1

/-- The light of a link is the outside's and survives; everything else of a link is reset. -/
def LinkState.atStart (l : LinkState) : LinkState :=
  { light := l.light, laser0 := l.laser0, laser1 := l.laser1, hot := l.hot, laneC := l.laneC }

/-- The power hardware of PD-00 runs on; core P's share and the RW settings begin anew (R473, R374). -/
def Power.atStart (p : Power) : Power :=
  { vcore := p.vcore, target := p.vcore, acc := p.acc, vb := p.vb, accT := p.accT, vbT := p.vbT, run := p.run,
    runAt := p.runAt, dirV := p.dirV, dirT := p.dirT, calm := p.calm, cool := p.cool, throttle := p.throttle,
    over900 := p.over900, excursion := p.excursion, samples := p.samples, classes := p.classes, sensors := p.sensors,
    rails := p.rails, missing := p.missing, stopped := p.stopped }

/-- Every power domain but PD-00 is reset, with PD-25 (the host engine) kept unless the reset is PKG_RST_N's.  What lies
outside the package stays: its pins, its light, the accelerator, the queue and what was sent. -/
def State.resetDomains (s : State) (full : Bool) : State :=
  let home : Home := { s.ep.home.fill with everBad := if s.boot.cold then [] else s.ep.home.everBad }
  { pending := s.pending, out := s.out, fresh := s.fresh, ns := s.ns,
    boot := { s.boot with image := none, loaded := [], cores := [], startDue := none },
    clock := { refA := s.clock.refA, refB := s.clock.refB, onB := s.clock.onB, running := s.clock.refA || s.clock.refB },
    host := if full then { laser0 := s.host.laser0, laser1 := s.host.laser1, hot := s.host.hot }
      else { s.host with numVfs := 0, fns := s.host.fns.filter (fun e => e.1 == 0), turn := 0 },
    mgmt := { (if full then { port := s.mgmt.port } else s.mgmt) with highSeq := s.sec.mgmtKey.map fun _ => s.reg 0x9070 4 },
    regs := s.keptRegs full, nv := s.nv, wear := s.wear,
    sec := { mgmtKey := s.sec.mgmtKey },
    tallies := { light := if s.boot.cold then [] else s.tallies.light },
    power := s.power.atStart, links := s.links.map (fun e => (e.1, e.2.atStart)),
    ep := { home }, faette := s.faette }

/-! ### Beginning a start -/

/-- Every port that is not DARK goes dark. -/
def State.darken (s : State) : State :=
  s.emits ((s.ports.filter fun e => e.2.state != 0).map fun e => .lane e.1 "dark")

/-- The admin ring posts every completion that it owes, with SERVICE_RESTARTING; what it has fetched takes no further effect
(R565). -/
def State.flushAdmin (s : State) : State :=
  let s := (s.fn 0).cmds.foldl (fun s c =>
    let s := if c.done then s else s.complete 0 c.id St.serviceRestarting 0 0 false
    if c.second then s.complete 0 c.id St.serviceRestarting 0 0 true else s) s
  s.modFn 0 fun x => { x with cmds := x.cmds.map (fun c => { c with started := true }), orphans := [] }

/-- The persistent settings that take effect at a start and are in use after it (R398); MEMORY_LAYOUT is laid out instead. -/
def startConfig : List (Nat × Nat) := [(0x2020, 1), (0x2040, 1), (0x2040, 2), (0x2040, 3), (0x2040, 4), (0x2040, 5), (0x2040, 6)]

/-- A start from its beginning to the end of phase 1: trigger 0 power-up, 1 PKG_RST_N, 2 RESTART, 3 after a failed start,
4 RESUME (R402, R403, R441, R489, R565). -/
def State.beginStart (s : State) (trigger : Nat) : State :=
  let full := trigger ≤ 1
  let s := s.darken
  let s := if full then s else s.flushAdmin
  let s := s.resetDomains full
  let s := { s with boot := { s.boot with
    phase := .selfTest, cold := false, config := startConfig.map fun (k : Nat × Nat) => (regKey k.1 k.2, s.reg k.1 k.2) } }
  let s := (s.setReg 0x9060 2 (s.reg 0x9060 1)).openRecord trigger
  let s := s.layMemory
  let s := { s with keys := { s.keys with deviceKey := Config.random s.fresh 512 } }.draw
  s.append { kind := 0, digest := sha3n (natLe 2592 Config.identityPublic.toNat), reference := s.reg 0xA010 1 }

/-- The start that a served write asked for begins after its answer (R565). -/
def State.startIfDue (s : State) : State :=
  match s.boot.startDue with
  | some t => s.beginStart t
  | none => s

/-- Minimal mode: links dark, no core released, the boot set only (R415). -/
def State.enterMinimal (s : State) : State :=
  { s.darken with
    boot := { s.boot with phase := .minimal, image := none, cores := [] }, ports := [],
    links := s.links.map (fun e => (e.1, e.2.atStart)) }

/-- A failed start: the count rises, the record closes, and a new start begins or minimal mode is entered (R413, R414). -/
def State.failStart (s : State) (reason detail : Nat) : State :=
  let s := s.setReg 0xA020 3 (min (s.reg 0xA020 3 + 1) 255)
  let s := s.closeRecord 2 reason detail
  if s.reg 0x2010 1 ≤ s.reg 0xA020 3 then s.enterMinimal else s.beginStart 3

/-! ### Pins -/

/-- The test access port after a reset: Test-Logic-Reset with IDCODE, its pins as they are driven. -/
def Tap.reset (t : Tap) : Tap := { tck := t.tck, tms := t.tms, tdi := t.tdi, trstN := t.trstN }




/-- VR_PGOOD_ASSERT (R455, R473): PD-00 is powered and the fallback governor runs; PKG_RST_N is still low. -/
def execVrPgoodAssert (s : State) : Out :=
  .next (if s.boot.vrPgood then s
    else { s with
      boot := { s.boot with vrPgood := true, pd00 := true, cold := true, probed := false, phase := .inReset, thermtrip := false,
                            tap := s.boot.tap.reset },
      power := {}, regs := [] })

/-- RESET_RELEASE (R402): a start begins while VR_PGOOD is asserted. -/
def execResetRelease (s : State) : Out :=
  .next (
    if s.boot.pkgRstN then s
    else
      let s := { s with boot := { s.boot with pkgRstN := true } }
      if !s.boot.vrPgood then s
      else
        let s := { s with boot := { s.boot with pgoodAck := true, tap := s.boot.tap.reset } }
        (s.beginStart (if s.boot.cold then 0 else 1)).emit (.pin "PKG_PGOOD_ACK" true))

/-- RESET_ASSERT (R552): the device resets at once and PKG_PGOOD_ACK goes low. -/
def execResetAssert (s : State) : Out :=
  .next (
    if !s.boot.pkgRstN then s
    else
      let s := { s with boot := { s.boot with pkgRstN := false } }
      if !s.boot.vrPgood then s
      else
        let s := (s.darken.interruptRecord).resetDomains true
        { s with boot := { s.boot with pgoodAck := false, phase := .inReset },
                 clock := { s.clock with running := false } }.emit (.pin "PKG_PGOOD_ACK" false))

/-- POWER_LOSS (R551): every port DARK, the counter stopped, the running start INTERRUPTED; only the persistent store and
the key store survive. -/
def execPowerLoss (s : State) : Out :=
  .next (
    if !s.boot.vrPgood then s
    else
      let s := s.darken.interruptRecord
      let s := { s with boot := { s.boot with cold := true } }.resetDomains true
      { s with
        boot := { s.boot with vrPgood := false, pd00 := false, probed := false, pgoodAck := false, thermtrip := false, phase := .off,
                              tap := s.boot.tap.reset },
        clock := { s.clock with running := false }, regs := [], power := {} }.emit (.pin "PKG_PGOOD_ACK" false))

/-! ### Phase 2 (R403 to R405, R414, R417) -/

/-- The values that a variant calls for (Table 0.3). -/
def probeOf (v : Variant) : Probe :=
  match v with
  | .f => {}
  | .c => { stackBits := 3, hbm := 72, lpddr := 128, lockstep := 0 }
  | .n => { board := 0, stackBits := 3, hbm := 72, lpddr := 128, lockstep := 0 }

def probeList (p : Probe) : List Nat := [p.board, p.stackBits, p.hbm, p.lpddr, p.lockstep, p.digest, p.links, p.sealed_]

/-- The first sub-index that is short of the part number (R5): a mask lacks a bit, or a number is less. -/
def probeShort (found want : Probe) : Option Nat :=
  (((probeList found).zip (probeList want)).zipIdx.find? fun (x : (Nat × Nat) × Nat) =>
    if x.2 = 1 ∨ x.2 = 6 then x.1.1 &&& x.1.2 != x.1.2 else decide (x.1.1 < x.1.2)).map fun x => x.2 + 1

/-- SHA3-512 over the values of every RWP sub-index of 2000 to 2FFF in ascending order (Table 13.7, A030:04). -/
def State.configMeasurement (s : State) : Nat :=
  sha3n ((objTable.filter fun o => o.acc == 2 && decide (0x2000 ≤ o.idx) && decide (o.idx ≤ 0x2FFF)).flatMap fun o =>
    natLe o.size (s.reg o.idx o.sub))

/-- A probe's results cut to the widths of the objects that hold them (Table 0.3). -/
def probeFit (p : Probe) : Probe :=
  { board := p.board % 256, stackBits := p.stackBits % 16, hbm := p.hbm % 2 ^ 32, lpddr := p.lpddr % 2 ^ 32,
    lockstep := p.lockstep % 256, digest := p.digest % 256, links := p.links % 2 ^ 24, sealed_ := p.sealed_ % 256 }

/-- 1020:01 to 1020:08 take the first probe after power-up and keep it; the areas of memory follow from it (R4). -/
def State.fillPresence (s : State) (found : Probe) : State :=
  if s.boot.probed then s
  else
    let s := (probeList (probeFit found)).zipIdx.foldl (fun (s : State) (x : Nat × Nat) => s.setReg 0x1020 (x.2 + 1) x.1) s
    ({ s with boot := { s.boot with probed := true } }).layMemory

/-- SELF_TEST_DONE (R403): failed part 0 none, 1 no valid reference, 2 persistent store, 3 key store, 4 core SRAM. -/
def execSelfTestDone (failed : Fin 5) (found : Probe) (s : State) : Out :=
  .next (
    if s.boot.phase ≠ .selfTest then s
    else
      let s := s.fillPresence found
      let s := { s with boot := { s.boot with configDigest := s.configMeasurement } }
      if failed.val ≠ 0 then s.failStart 1 failed.val
      else
        match probeShort (probeFit found) (probeOf s.boot.variant) with
        | some k => s.failStart 2 k
        | none =>
          if 1000000 ≤ s.wearOf 0xA010 then (s.closeRecord 4 8 0).enterMinimal
          else if s.reg 0x2010 1 ≤ s.reg 0xA020 3 then (s.closeRecord 4 0 0).enterMinimal
          else { s with boot := { s.boot with phase := .waiting } })

/-! ### Phases 3 and 4 (R406 to R409) -/

/-- A write of 1 to LOAD (R407, R415). -/
def loadEffect : Effect := fun r v s =>
  if s.boot.phase ≠ .waiting then refuse s St.valueRefused
  else
    let x := s.startStep r 0xA000 1 (leNat v)
    if x.2.1 = St.stepPending then
      ({ x.1 with boot := { x.1.boot with phase := .loading, loadAt := x.1.ns } }, x.2)
    else x

/-- FIRMWARE_LOAD (R407). -/
def execFirmwareLoad (r : Route) (v : Bytes) (s : State) : Out := .next (s.rowWrite r 0xA000 1 v loadEffect)

/-- Half-open ranges that do not overlap. -/
def apart (a b : Nat × Nat) : Bool := decide (a.1 + a.2 ≤ b.1) || decide (b.1 + b.2 ≤ a.1)

def pairwiseApart : List (Nat × Nat) → Bool
  | [] => true
  | a :: r => r.all (apart a) && pairwiseApart r

/-- The six section entries: offset and length (Table 13.4). -/
def sections (img : Bytes) : List (Nat × Nat) :=
  (List.range 6).map fun k => (leAt img (44 + 16 * k) 4, leAt img (48 + 16 * k) 4)

/-- Sections, key and signature have the layout of R406. -/
def layoutOk (img : Bytes) : Bool :=
  let len := leAt img 12 4
  let key := leAt img 36 4
  let sig := leAt img 40 4
  let secs := sections img
  decide (len ≤ img.length) && sig + 4627 == len && decide (key + 2592 ≤ sig) &&
  secs.all (fun x => x.1 % 4096 == 0 && decide (1 ≤ x.2) && decide (x.2 ≤ 524288) && decide (x.1 + x.2 ≤ sig)) &&
  pairwiseApart ((0, 256) :: (key, 2592) :: secs)

/-- The checks of R408 in order: reason and detail of the first failure (Table 13.6). -/
def verifyImage (img : Bytes) : Option (Nat × Nat) :=
  let sig := leAt img 40 4
  let key := sliceB img (leAt img 36 4) 2592
  if 0x400000 < leAt img 12 4 ∨ leAt img 0 4 ≠ 0x4D575846 ∨ leAt img 4 2 ≠ 0x0100 then some (3, 1)
  else if !layoutOk img then some (3, 2)
  else if Config.bootRomVersion.toNat < leAt img 32 4 then some (4, 0)
  else if !Config.signerHeld (sha3n key) then some (5, 1)
  else if !Config.mldsaVerify key "OBXUS-FW" (img.take sig) (sliceB img sig 4627) then some (5, 2)
  else none

/-- The header of a verified image. -/
def headerOf (img : Bytes) : FwHeader :=
  { version := leAt img 16 4, interface := leAt img 20 2, features := leAt img 24 8, length := leAt img 12 4,
    sigOffset := leAt img 40 4, minRom := leAt img 32 4 }

/-- Features of the image whose unit is present (R411). -/
def State.features (s : State) (f : Nat) : Nat :=
  let f := if s.reg 0x1020 8 = 1 then f else setBit f 4 false
  if s.reg 0x1020 5 = 1 then f else setBit f 5 false

/-- All six cores released (R408). -/
def releasedCores : Tab Core := (List.range 6).map fun k => (k, { state := 1 })

/-- IMAGE_VERIFY (R407, R408): IMAGE_LENGTH octets have been read.  A DMA that failed returns the device to phase 3; a rejected image fails the start; an
accepted one is measured, A030 holds its values from then on (R409, R424), and the cores are released. -/
def execImageVerify (dmaOk : Bool) (img : Bytes) (s : State) : Out :=
  .next (
    if s.boot.phase ≠ .loading then s
    else if !dmaOk then ({ s with boot := { s.boot with phase := .waiting } }).endStep 0xA000 1 St.imageRejected
    else
      let img := img.take (s.reg 0xA000 3)
      match verifyImage img with
      | some (reason, detail) => (s.endStep 0xA000 1 St.imageRejected).failStart reason detail
      | none =>
        let h := headerOf img
        let s := (s.setReg 0xA030 1 Config.bootRomMeasurement.toNat).setReg 0xA030 2 (sha3n (img.take h.sigOffset))
        let s := (s.setReg 0xA030 3 (sha3n (sliceB img (leAt img 36 4) 2592))).setReg 0xA030 4 s.boot.configDigest
        let s := (s.setReg 0x1010 2 h.version).setReg 0x1030 1 h.interface
        let s := s.setReg 0x1030 2 (s.features h.features)
        ({ s with boot := { s.boot with phase := .initialising, image := some h, loaded := img, cores := releasedCores } }).endStep
          0xA000 1 St.ok)

/-! ### Phase 5 (R410) -/

/-- INIT_COMPLETE (R410): READY, or a failed firmware self-test (Table 13.6, reason 7 with its detail 1 to 5). -/
def execInitComplete (failed : Fin 6) (s : State) : Out :=
  .next (
    if s.boot.phase ≠ .initialising then s
    else if failed.val ≠ 0 then s.failStart 7 failed.val
    else
      let s := { s with boot := { s.boot with phase := .ready } }
      let s := (s.setReg 0xA020 3 0).closeRecord 1 0 0
      let s := { s with power := { s.power with
        mode := s.reg 0x7020 1, vset := s.reg 0x7020 2,
        quarters := if s.reg 0x1020 1 = 1 then (List.range 4).map (fun q => (q, 1)) else [] } }
      let s := s.append { kind := 1, digest := s.reg 0xA030 2, reference := s.reg 0x1010 2 }
      s.signal 0 (s.fn 0).eventVector)

/-- INIT_TIMEOUT (R410): 10 s after the write of LOAD without READY. -/
def execInitTimeout (s : State) : Out :=
  .next (match s.boot.phase with
    | .loading => s.failStart 6 6
    | .initialising => s.failStart 6 6
    | _ => s)

/-! ### Leaving and repeating a start -/

/-- A write of 1 to RESTART (R402, R416, R565); minimal mode is left by RESUME only. -/
def restartEffect : Effect := fun _ _ s =>
  if s.boot.phase = .minimal then refuse s St.valueRefused
  else done { s with boot := { s.boot with startDue := some 2 } }

/-- RESTART (R565): the write completes, then the start begins. -/
def execRestart (r : Route) (v : Bytes) (s : State) : Out := .next (s.rowWrite r 0xA000 5 v restartEffect).startIfDue

/-- A write of 1 to RESUME (R416). -/
def resumeEffect : Effect := fun _ _ s =>
  if s.boot.phase = .minimal ∧ s.reg 0xA020 3 < s.reg 0x2010 1 then
    done { s with boot := { s.boot with startDue := some 4 } }
  else refuse s St.valueRefused

/-- RESUME (R416). -/
def execResume (r : Route) (v : Bytes) (s : State) : Out := .next (s.rowWrite r 0xA020 4 v resumeEffect).startIfDue

/-- A write to FAILED_COUNT (R416, R417): bit 0 written as 1 sets it to 0 and rewrites record 0. -/
def failedCountEffect : Effect := fun _ v s =>
  done (if bit (leNat v) 0 then (s.setReg 0xA020 3 0).modRecord fun r => { r with failedCount := 0 } else s)

/-- FAILED_COUNT_CLEAR (R416). -/
def execFailedCountClear (r : Route) (v : Bytes) (s : State) : Out := .next (s.rowWrite r 0xA020 3 v failedCountEffect)

/-! ### Core stops and restarts (R418 to R422) -/

/-- The sub-index that reports an operation's state reads as after a refusal (R420). -/
def State.refusedLoad (s : State) (idx sub : Nat) : State :=
  if idx = 0x4010 ∧ sub = 1 then { s with sched := { s.sched with lastLoad := 2 } }.setReg 0x4010 4 4
  else if idx = 0x4060 ∧ sub = 1 then s.setReg 0x4060 4 4
  else if idx = 0x6310 ∧ sub = 2 then s.setReg 0x6310 3 3
  else s

/-- Every stepped operation that a failed core owns ends with SERVICE_FAILED (R420); an end-point's agent runs on no core of the
device. -/
def State.failSteps (s : State) (k : Nat) : State :=
  (s.steps.filter fun o => decide (o.idx < 0x10000) && ownerCore o.idx == k).foldl (fun s o =>
    (s.refusedLoad o.idx o.sub).endStep o.idx o.sub St.serviceFailed) s

/-- A core stops: cause 1 watchdog, 2 trap, 3 access, 4 SRAM error; whether its code region still has its digest. -/
def State.stopCore (s : State) (k : Fin 6) (cause : Nat) (digestOk : Bool) : State :=
  if s.boot.phase = .initialising ∨ s.boot.phase = .loading then s.failStart 6 k.val
  else if !s.isReady ∨ (s.core k.val).state = 3 then s
  else
    let c := s.core k.val
    let recent := c.stops.filter (fun t => decide (s.ns < t + 60000000000))
    let failed := !digestOk || decide (3 ≤ recent.length)
    let last := if digestOk then cause else 5
    let s := (s.setReg 0xA000 0xA (put k.val 63 56 + put last 55 48 + put s.clock.span 47 0)).fault 0x0F 8 k.val St.ok last 2
    let c' : Core := { state := if failed then 3 else 2, stops := recent ++ [s.ns], digestOk,
                       restarts := (c.restarts + 1) % 2 ^ 32 }
    let s := { s with boot := { s.boot with cores := tset s.boot.cores k.val c' } }
    let s := if k.val = 1 then { s with power := { s.power with learned := [], peaks := [], target := s.power.vcore } } else s
    if !failed then s
    else
      -- with core F the key commands that wait for a step end
      let s := if k.val = 2 then { s with keys := { s.keys with now := none, todo := [] } } else s
      (s.fault 0x10 8 k.val St.serviceFailed last 3).failSteps k.val

/-- WATCHDOG_EXPIRY (R418). -/
def execWatchdogExpiry (k : Fin 6) (digestOk : Bool) (s : State) : Out := .next (s.stopCore k 1 digestOk)

/-- CORE_TRAP (R418). -/
def execCoreTrap (k : Fin 6) (digestOk : Bool) (s : State) : Out := .next (s.stopCore k 2 digestOk)

/-- CORE_ACCESS_FAULT (R418). -/
def execCoreAccessFault (k : Fin 6) (digestOk : Bool) (s : State) : Out := .next (s.stopCore k 3 digestOk)

/-- CORE_SRAM_ERROR (R418). -/
def execCoreSramError (k : Fin 6) (digestOk : Bool) (s : State) : Out := .next (s.stopCore k 4 digestOk)

/-! ### Interface negotiation (R397, R411) -/

/-- A write to DRIVER_INTERFACE negotiates. -/
def driverInterfaceEffect : Effect := fun _ v s =>
  let d := leNat v
  if !s.isReady || s.host.fns.any (fun e => e.1 != 0 && e.2.state != 0) then refuse s St.valueRefused
  else
    let fw := s.reg 0x1030 1
    let s := s.setReg 0x1030 3 d
    if d / 256 = fw / 256 then
      done ((s.setReg 0x1030 5 (256 * (fw / 256) + min (d % 256) (fw % 256))).setReg 0x1030 6 (s.reg 0x1030 4 &&& s.reg 0x1030 2))
    else done ((s.setReg 0x1030 5 0).setReg 0x1030 6 0)

/-- DRIVER_INTERFACE (R411). -/
def execDriverInterface (r : Route) (v : Bytes) (s : State) : Out := .next (s.rowWrite r 0x1030 3 v driverInterfaceEffect)

end Sys2Proof.Machine
end

