-- ==== Sys2Proof/Machine/Home.lean ====
section
/-! DEFINITION. The home: tests of a request, its effect in home order, its answer, mirror copies and combined grains
(03 R87 to R90, R108, R110, 06 R193 to R227, 08 R268, 10 R334 to R338, 14 R445). -/

namespace Sys2Proof.Machine

open Sys2Proof

/-! ### Chunks and errors of memory (10 R326, R335, R336, R338) -/

/-- The memory unit that holds a home address: stacks 0 to 3, LPDDR5X halves 4 and 5, interleaved in 4 KiB steps. -/
def State.memUnit (s : State) (a : Nat) : Nat :=
  if a < lpddrBase then s.stacks.getD (a / 4096 % s.stacks.length) 0
  else 4 + a / 4096 % s.halves.length

/-- Count an event of a memory unit; only the device's own memory is counted here. -/
def State.memEvent (s : State) (w : EpSel) (a e n : Nat) : State :=
  match w with
  | .internal => s.memTally (s.memUnit a) e n
  | .faette => s

/-- A chunk is corrected and counted (R335). -/
def State.correctChunk (s : State) (w : EpSel) (a : Nat) : State :=
  match w with
  | .internal => ((s.memTally (s.memUnit a) 2 1).addReg 0x6320 (s.memUnit a + 1) 64 1)
  | .faette => s

/-- A chunk turns out to be uncorrectable: recorded, and reported at its first failure (R336, R338). -/
def State.loseChunk (s : State) (w : EpSel) (a : Nat) : State :=
  let a := chunkOf a
  if (s.home w).isBad a then s
  else
    let first := !(s.home w).everBad.contains a
    let s := s.modHome w fun h => { h with bad := h.bad ++ [a], everBad := if first then h.everBad ++ [a] else h.everBad }
    let unit := a / 2 ^ 21
    let s := if first then s.epFault w 0x0B 6 unit St.dataLost (a % 2 ^ 21 / 64) 2 else s
    let s := match w with
      | .internal =>
        let s := (s.memTally (s.memUnit a) 3 1).setReg 0x6320 8 a
        if first then s.addReg 0x6320 7 64 1 else s
      | .faette => s
    let n := ((s.home w).everBad.filter fun c => c / 2 ^ 21 == unit).length
    if 4 ≤ n ∧ !(s.home w).unitReported.contains unit then
      (s.modHome w fun h => { h with unitReported := h.unitReported ++ [unit] }).epFault w 0x0C 6 unit St.dataLost 4 3
    else s

/-- What the memory reports of the chunks from an address on. -/
def State.memEvents (s : State) (w : EpSel) (base : Nat) (ev : MemEv) : State :=
  let s := ev.corrected.foldl (fun s i => s.correctChunk w (base + 64 * i)) s
  ev.bad.foldl (fun s i => s.loseChunk w (base + 64 * i)) s

/-! ### The check at the home (R268, R445) -/

/-- The home's copy of an entry: for the internal end-point the entry of the device's own tile. -/
def State.homeEntry (s : State) (w : EpSel) (handle : Nat) : Ent :=
  match w with
  | .internal => tget s.keys.table handle 0
  | .faette => s.faette.home.entry handle

/-- The right of Table 8.2. -/
def rightFor (e : Ent) (g : Grain) : Bool :=
  if g.vc = 2 then entAtomic e else if g.vc = 0 ∧ (g.op = 0 ∨ g.op = 1) then entRead e else entWrite e

/-- The steps of R267 from the entry on, for an owner. -/
def entryCheck (e : Ent) (g : Grain) (owner : Nat) : Option Nat :=
  if !entValid e || entKey e != g.key || entOwner e != owner then some St.keyMismatch
  else if entPart e ≠ g.part.toNat then some St.contextDenied
  else if g.ctxLocal / 2 ^ entCtxSpan e ≠ entCtxValue e / 2 ^ entCtxSpan e then some St.contextDenied
  else if !rightFor e g then some St.contextDenied
  else if entDead e then some St.regionDead
  else if Ent.fd e 51 21 < g.chunk + g.chunks then some St.bounds
  else none

/-- The content key of a sealed handle. -/
def Home.seal (h : Home) (handle : Nat) : Option Seal := h.seals.find? fun x => x.handle == handle

/-- Some own ACTIVE or DEGRADED link leads to an end-point whose measurement 9030 allows (R445). -/
def State.attested (s : State) (ep : Nat) : Bool :=
  (List.range 24).any fun n =>
    s.linkUp n && (s.link n).peerEp == ep && s.reg (0x9040 + n) 3 != 0 &&
    (List.range 16).any fun k => s.reg 0x9030 (k + 1) == s.reg (0x9040 + n) 3

/-- The further test of a load of a sealed region. -/
def State.sealCheck (s : State) (w : EpSel) (e : Ent) (g : Grain) : Option Nat :=
  if w = .internal ∧ entSealed e ∧ g.vc = 0 ∧ (g.op = 0 ∨ g.op = 1) then
    if ((s.home w).seal g.handle).isNone then some St.sealKeyAbsent
    else if g.src.toNat = s.ownEp ∨ !s.attested g.src.toNat then some St.attestationRequired
    else none
  else none

def State.homeCheck (s : State) (w : EpSel) (g : Grain) : Option Nat :=
  match entryCheck (s.homeEntry w g.handle) g (s.epId w) with
  | some st => some st
  | none => s.sealCheck w (s.homeEntry w g.handle) g

/-- Home address of a grain's first chunk (R266). -/
def State.homeAddr (s : State) (w : EpSel) (g : Grain) : Nat :=
  entBase (s.homeEntry w g.handle) * 2 ^ 21 + 64 * g.chunk

/-! ### Answers and mirror copies (R221 to R224) -/

/-- An ERROR of the home. -/
def State.homeError (s : State) (w : EpSel) (g : Grain) (status : Nat) : State :=
  s.epEmit w (mkResp g (s.epId w) 2 status false false 0 0)

/-- A COMPLETION of the home. -/
def completion (own : Nat) (g : Grain) : Grain := mkResp g own 1 St.ok false false 0 0

/-- The region is mirrored and its mirror is not broken. -/
def State.mirrors (s : State) (w : EpSel) (handle : Nat) : Bool :=
  entMirrored (s.homeEntry w handle) && parState ((s.home w).partner handle) == 1

/-- Send one VC3 copy of n chunks of a region; its number is the one in nextReq afterwards (R221). -/
def State.mirrorCopy (s : State) (w : EpSel) (part handle chunk n : Nat) : State :=
  let p := (s.home w).partner handle
  let a := entBase (s.homeEntry w handle) * 2 ^ 21 + 64 * chunk
  let data := leNat ((s.home w).read a (64 * n))
  let g := mkMem 3 2 (parCtx p / 1024) (s.epId w) (parEp p) (parKey p) (parCtx p % 1024) (parHandle p) chunk (n - 1) data
  let _ := part
  let s := s.modEp w fun e => { e with nextReq := e.nextReq + 1 }
  (s.enqueue w g (s.epOf w).nextReq).pump w

/-- Answer the writers of chunks that have just been written: at once, or when the partner holds the copy (R222). -/
def State.answerWrite (s : State) (w : EpSel) (g : Grain) (answers : List Grain) : State :=
  if s.mirrors w g.handle then
    let s := s.mirrorCopy w g.part.toNat g.handle g.chunk (g.chunks + 1)
    let n := (s.epOf w).nextReq
    s.modHome w fun h => { h with
      mirrorWait := h.mirrorWait ++ answers.map fun a => { answer := a, req := g, handle := g.handle, tags := [n] } }
  else answers.foldl (fun s a => s.epEmit w a) s

/-! ### Reads and writes (R87, R88, R196, R204, R226) -/

/-- Chunks of the grain that cannot be read. -/
def State.lostChunks (s : State) (w : EpSel) (a n : Nat) : Bool :=
  (List.range n).any fun i => (s.home w).isBad (a + 64 * i)

/-- A LOAD or LOAD_VOLATILE at its place in home order. -/
def State.homeLoad (s : State) (w : EpSel) (g : Grain) (ev : MemEv) : State :=
  match s.homeCheck w g with
  | some st => s.homeError w g st
  | none =>
    let a := s.homeAddr w g
    let n := g.chunks + 1
    let s := (s.memEvents w a ev).memEvent w a 0 n
    if s.lostChunks w a n then s.homeError w g St.dataLost
    else
      let raw := (s.home w).read a (64 * n)
      let data := match (if entSealed (s.homeEntry w g.handle) && w == .internal then (s.home w).seal g.handle else none) with
        | none => raw
        | some k => (Machine.pieces 64 n raw).zipIdx.flatMap fun (c, i) => Config.xtsDecrypt k.key (k.sealId * 2 ^ 64 + g.chunk + i) c
      s.epEmit w (mkResp g (s.epId w) 0 St.ok false false g.chunks (leNat data))

/-- Write whole chunks from a payload. -/
def Home.store (h : Home) (a : Nat) (chunks : List Bytes) : Home :=
  chunks.zipIdx.foldl (fun h (c, i) => h.writeChunk (a + 64 * i) c) h

/-- Octets of a chunk after a masked write. -/
def mergeChunk (old new : Bytes) (mask : Nat → Bool) : Bytes :=
  (List.range 64).map fun j => if mask j then new.getD j 0 else old.getD j 0

/-- Put a STORE or STORE_MASKED into memory; a status where it fails (R226).  A STORE_MASKED carries at most three chunks (R88);
one that names four fails with BOUNDS (log 99). -/
def State.putStore (s : State) (w : EpSel) (g : Grain) (ev : MemEv) : State × Nat :=
  let a := s.homeAddr w g
  let n := g.chunks + 1
  if g.op = 3 ∧ 3 < n then (s, St.bounds)
  else if g.op = 3 then
    let s := s.memEvents w a ev
    if s.lostChunks w a n then (s, St.dataLost)
    else
      let old := Machine.pieces 64 n ((s.home w).read a (64 * n))
      let new := old.zipIdx.map fun (c, i) => mergeChunk c (g.chunkBytes i) (g.enabled i)
      ((s.modHome w fun h => h.store a new).memEvent w a 1 n, St.ok)
  else
    ((s.modHome w fun h => h.store a ((List.range n).map g.chunkBytes)).memEvent w a 1 n, St.ok)

/-- A STORE or STORE_MASKED at its place in home order (R196, R204). -/
def State.homeStore (s : State) (w : EpSel) (g : Grain) (ev : MemEv) : State :=
  match s.homeCheck w g with
  | some st => s.homeError w g st
  | none =>
    let x := s.putStore w g ev
    if x.2 ≠ 0 then x.1.homeError w g x.2 else x.1.answerWrite w g [completion (x.1.epId w) g]

/-! ### Atomics (R197 to R199, R219, R220) -/

/-- Format of an FADD. -/
def AtomOp.fmt (o : AtomOp) : Fmt :=
  if o.size = 0 then (if o.bf then bf16 else fp16) else if o.size = 1 then fp32 else fp64

/-- The lesser of two operands under SIGNED. -/
def AtomOp.less (o : AtomOp) (x y : Nat) : Bool :=
  if o.signed then decide (toSigned (8 * o.bytes) x < toSigned (8 * o.bytes) y) else decide (x < y)

/-- New value of an integer atomic (Table 6.3). -/
def AtomOp.apply (o : AtomOp) (old a : Nat) : Nat :=
  match o.op with
  | 0 => (old + a) % 2 ^ (8 * o.bytes)
  | 1 => if o.less a old then a else old
  | 2 => if o.less old a then a else old
  | 3 => old &&& a
  | 4 => old ||| a
  | 5 => old ^^^ a
  | 6 => a
  | 7 => if old = a then o.b else old
  | _ => old

/-- One member of an atomic: its requester and tag, operand, and whether it wants no data. -/
structure Member where
  src : EpId := 0
  tag : BitVec 15 := 0
  a : Nat := 0
  noReturn : Bool := false
  deriving DecidableEq, Repr, Inhabited

/-- The list of a combined atomic in order, then the header (Table 6.7, R219). -/
def members (g : Grain) : List Member :=
  let p := g.payload.toNat
  ((List.range 14).filterMap fun k =>
    let x := fld p (383 + 128 * k) (256 + 128 * k)
    if bit x 127 then
      some ({ src := BitVec.ofNat 14 (fld x 126 113), tag := BitVec.ofNat 15 (fld x 112 98), a := fld x 63 0,
              noReturn := bit x 64 } : Member)
    else none) ++ [{ src := g.src, tag := g.tag, a := fld p 127 64, noReturn := bit p 15 }]

/-- The request as one of its members made it. -/
def asMember (g : Grain) (m : Member) : Grain := { g with src := m.src, tag := m.tag }

/-- Answer to an atomic (R198, Table 6.1). -/
def atomAnswer (own : Nat) (g : Grain) (r : AtomRec) : Grain :=
  if r.status ≠ 0 then mkResp g own 2 r.status false false 0 0
  else if r.noReturn then completion own g
  else mkResp g own 0 St.ok false false 0 r.old

/-- The 16 octets of a kept answer: R247 gives their number.  DESIGN CHOICE (log 176): the old value, then TAG, NO_RETURN and
STATUS, and one bit that says the record is in use. -/
def AtomRec.octets (r : AtomRec) : Bytes :=
  natLe 8 r.old ++ natLe 8 (put r.tag 14 0 + put (b2n r.noReturn) 15 15 + put r.status 31 16 + put 1 63 63)

/-- Where the answer to a TAG of a source lies: 4 KiB a source from ATOMIC_RECORD_BASE, 256 answers (R247, log 176). -/
def State.atomRecordAt (s : State) (w : EpSel) (src tag : Nat) : Nat := s.epReg w 0x6200 5 + 4096 * src + 16 * (tag % 256)

/-- Record the answer to an atomic, the last 256 of each source, and write it into the end-point's memory (R108, R247). -/
def State.recordAtomic (s : State) (w : EpSel) (src : Nat) (r : AtomRec) : State :=
  let s := s.modEp w fun e => { e with atomics := tset e.atomics src ((r :: tget e.atomics src []).take 256) }
  s.modHome w fun h => h.write (s.atomRecordAt w src r.tag) r.octets

/-- Where a TAG lies against the expected one (R108). -/
inductive TagTest where
  | fresh | duplicate | later | unknown
  deriving DecidableEq, Repr, Inhabited

def State.tagTest (s : State) (w : EpSel) (src vc tag : Nat) : TagTest :=
  match ((s.epOf w).rchan src vc).expected with
  | none => .unknown
  | some x => if x = tag then .fresh else if tagBefore tag x then .duplicate else .later

/-- The expected TAG advances by one. -/
def State.advance (s : State) (w : EpSel) (src vc : Nat) : State :=
  s.modEp w fun e =>
    let c := e.rchan src vc
    e.setRchan src vc { c with expected := c.expected.map fun x => (x + 1) % 32768 }

/-- A GAP NACK naming the expected TAG of a grain's source, within the limit of R108. -/
def State.gapNack (s : State) (w : EpSel) (g : Grain) : State :=
  match ((s.epOf w).rchan g.src.toNat g.vc.toNat).expected with
  | none => s
  | some x => s.limitedNack w g x 3

/-- A write of this source and tag still waits for its partner's copies. -/
def State.stillWaits (s : State) (w : EpSel) (g : Grain) : Bool :=
  (s.home w).mirrorWait.any fun m =>
    fld m.answer.body.toNat 111 98 == g.src.toNat && m.answer.tag == g.tag && m.answer.reqVc == g.vc.toNat

/-- A duplicate atomic is answered from the record. -/
def State.repeatAtomic (s : State) (w : EpSel) (g : Grain) : State :=
  if s.stillWaits w g then s
  else
    match (tget (s.epOf w).atomics g.src.toNat []).find? (fun r => r.tag == g.tag.toNat) with
    | some r => s.epEmit w (atomAnswer (s.epId w) g r)
    | none => s

/-- Test each member under R108: the accepted ones, in order. -/
def State.acceptMembers (w : EpSel) (g : Grain) : List Member → State → State × List Member
  | [], s => (s, [])
  | m :: r, s =>
    match s.tagTest w m.src.toNat 2 m.tag.toNat with
    | .fresh =>
      let x := State.acceptMembers w g r (s.advance w m.src.toNat 2)
      (x.1, m :: x.2)
    | .duplicate => State.acceptMembers w g r (s.repeatAtomic w (asMember g m))
    | .later => State.acceptMembers w g r (s.gapNack w (asMember g m))
    | .unknown => State.acceptMembers w g r s

/-- Record and answer a member that failed. -/
def State.failMember (s : State) (w : EpSel) (g : Grain) (st : Nat) (m : Member) : State :=
  (s.recordAtomic w m.src.toNat { tag := m.tag.toNat, noReturn := m.noReturn, status := st }).homeError w (asMember g m) st

/-- Old values that the members of an integer atomic meet, and the value left (R219). -/
def AtomOp.run (o : AtomOp) (old : Nat) : List Member → List (Member × Nat) × Nat
  | [] => ([], old)
  | m :: r =>
    let x := AtomOp.run o (o.apply old m.a) r
    ((m, old) :: x.1, x.2)

/-- Value left by an FADD: the exact sum rounded once, or a NaN with a free payload (R220, log 13). -/
def State.fadd (s : State) (o : AtomOp) (old : Nat) (ms : List Member) : Nat × State :=
  match o.fmt.sum (old :: ms.map (·.a)) with
  | some v => (v, s)
  | none => (o.fmt.nan (Config.nan s.fresh o.size), s.draw)

/-- Write an operand into its chunk. -/
def State.putOperand (s : State) (w : EpSel) (a : Nat) (o : AtomOp) (v : Nat) : State :=
  (s.modHome w fun h => h.write (a + o.offset) (natLe o.bytes v)).memEvent w a 1 1

/-- Execute the accepted members of an atomic and answer each (R198, R219, R220). -/
def State.runAtomic (s : State) (w : EpSel) (g : Grain) (ev : MemEv) (ms : List Member) : State :=
  let o := atomOp g
  let fail (st : Nat) (s : State) : State := ms.foldl (fun s m => s.failMember w g st m) s
  match s.homeCheck w g with
  | some st => fail st s
  | none =>
    -- R199: a member whose operand is too wide is refused alone
    let wide := ms.filter fun m => o.misshapen || o.tooWide m.a
    let ms := ms.filter fun m => !(o.misshapen || o.tooWide m.a)
    let s := wide.foldl (fun s m => s.failMember w g St.bounds m) s
    if ms.isEmpty then s
    else
      let fail (st : Nat) (s : State) : State := ms.foldl (fun s m => s.failMember w g st m) s
      let a := s.homeAddr w g
      let s := (s.memEvents w a ev).memEvent w a 0 1
      if (s.home w).isBad a then fail St.dataLost s
      else
        let old := leNat ((s.home w).read (a + o.offset) o.bytes)
        let x : List (Member × Nat) × Nat × State :=
          if o.op = 8 then
            let y := s.fadd o old ms
            (ms.map fun m => ({ m with noReturn := true }, old), y.1, y.2)
          else
            let y := o.run old ms
            (y.1, y.2, s)
        let s := x.2.2.putOperand w a o x.2.1
        let s := x.1.foldl (fun (s : State) (p : Member × Nat) =>
          s.recordAtomic w p.1.src.toNat { tag := p.1.tag.toNat, old := p.2, noReturn := p.1.noReturn }) s
        let answers := x.1.map fun (p : Member × Nat) =>
          atomAnswer (s.epId w) (asMember g p.1) { tag := p.1.tag.toNat, old := p.2, noReturn := p.1.noReturn }
        if o.op = 7 ∧ old ≠ o.a then answers.foldl (fun s a => s.epEmit w a) s else s.answerWrite w g answers

/-! ### Combined stores (Table 6.6, R218) -/

def storeList (g : Grain) : List Member :=
  let p := g.payload.toNat
  (List.range 32).filterMap fun k =>
    let x := fld p (543 + 32 * k) (512 + 32 * k)
    if bit x 31 then some { src := BitVec.ofNat 14 (fld x 30 17), tag := BitVec.ofNat 15 (fld x 16 2) } else none

/-- A STORE of one chunk whose bytes 64 to 191 are not all zero (R216). -/
def isCombinedStore (g : Grain) : Bool :=
  g.vc == 0 && g.op == 2 && g.chunks == 0 && fld g.payload.toNat 1535 512 != 0

/-- A duplicate store is answered with COMPLETION, unless its write still waits for the partner. -/
def State.repeatStore (s : State) (w : EpSel) (g : Grain) : State :=
  if s.stillWaits w g then s else s.epEmit w (completion (s.epId w) g)

def State.acceptEntries (w : EpSel) (g : Grain) : List Member → State → State × List Member
  | [], s => (s, [])
  | m :: r, s =>
    match s.tagTest w m.src.toNat 0 m.tag.toNat with
    | .fresh =>
      let x := State.acceptEntries w g r (s.advance w m.src.toNat 0)
      (x.1, m :: x.2)
    | .duplicate => State.acceptEntries w g r (s.repeatStore w (asMember g m))
    | .later => State.acceptEntries w g r (s.gapNack w (asMember g m))
    | .unknown => State.acceptEntries w g r s

/-- The header has been accepted: the entries are tested, the data written once. -/
def State.combinedStore (s : State) (w : EpSel) (g : Grain) : State :=
  let x := State.acceptEntries w g (storeList g) s
  let s := x.1
  let all := x.2 ++ [{ src := g.src, tag := g.tag }]
  match s.homeCheck w g with
  | some st => all.foldl (fun s m => s.homeError w (asMember g m) st) s
  | none =>
    let a := s.homeAddr w g
    let s := (s.modHome w fun h => h.writeChunk a (g.chunkBytes 0)).memEvent w a 1 1
    s.answerWrite w g (all.map fun m => completion (s.epId w) (asMember g m))

/-- The entries of a combined store whose header was not accepted. -/
def State.strayEntries (s : State) (w : EpSel) (g : Grain) : State :=
  (storeList g).foldl (fun s m =>
    match s.tagTest w m.src.toNat 0 m.tag.toNat with
    | .duplicate => s.repeatStore w (asMember g m)
    | _ => s.gapNack w (asMember g m)) s

/-! ### Arrival at the home (R104, R108, R203, R339) -/

/-- A request that has been accepted takes effect; a VC4 store waits for the end of its slot (R203). -/
def State.effect (s : State) (w : EpSel) (g : Grain) (ev : MemEv) : State :=
  if g.vc = 4 then s.modHome w fun h => { h with group := h.group ++ [(g, ev)] }
  else if g.vc = 0 ∧ (g.op = 0 ∨ g.op = 1) then s.homeLoad w g ev
  else if isCombinedStore g then s.combinedStore w g
  else s.homeStore w g ev

/-- A duplicate request (R108). -/
def State.duplicate (s : State) (w : EpSel) (g : Grain) (ev : MemEv) : State :=
  if g.vc = 0 ∧ (g.op = 0 ∨ g.op = 1) then s.homeLoad w g ev
  else if (s.home w).group.any (fun x => x.1.src == g.src && x.1.tag == g.tag && x.1.vc == g.vc) then s
  else
    let s := s.repeatStore w g
    if isCombinedStore g then s.strayEntries w g else s

/-- The TAG test and what follows it. -/
def State.present (s : State) (w : EpSel) (g : Grain) (ev : MemEv) : State :=
  if g.vc = 2 then
    let x := State.acceptMembers w g (members g) s
    if x.2.isEmpty then x.1 else x.1.runAtomic w g ev x.2
  else
    match s.tagTest w g.src.toNat g.vc.toNat g.tag.toNat with
    | .fresh => (s.advance w g.src.toNat g.vc.toNat).effect w g ev
    | .duplicate => s.duplicate w g ev
    | .later =>
      let s := s.gapNack w g
      if isCombinedStore g then s.strayEntries w g else s
    | .unknown => if isCombinedStore g then s.strayEntries w g else s

/-- A memory request is presented at a home: CHECK first; an open request at the internal end-point waits for a refresh
that runs (R104, R339). -/
def State.arrive (s : State) (w : EpSel) (g : Grain) (ev : MemEv) : State :=
  if !g.checkOk then s.checkFail w g
  else if w = .internal ∧ s.refresh.running ∧ g.vc ≠ 4 then
    s.modHome w fun h => { h with held := h.held ++ [(g, ev)] }
  else s.present w g ev

/-- A memory request comes in at an end-point. -/
def State.arriveAt (s : State) (a : Arrival) (g : Grain) (ev : MemEv) : State := (s.took a g.vc.toNat).arrive a.ep g ev

/-- Side on which a grain comes in; the internal end-point has one. -/
def State.sideIn (s : State) : Arrival → Nat
  | .internal => 0
  | .link k => s.faette.sideOf k.val

/-- The order of two open requests presented at one grain time: SRC_EP, VC, then the link to the pair member of lower ID
(R201). -/
def State.before (s : State) (a b : Arrival) (g h : Grain) : Bool :=
  if g.src ≠ h.src then decide (g.src.toNat < h.src.toNat)
  else if g.vc ≠ h.vc then decide (g.vc.toNat < h.vc.toNat)
  else decide (s.sideIn a ≤ s.sideIn b)

/-! ### The commands -/

/-- The grain is the request that a row names. -/
def Grain.isReq (g : Grain) (vcs : List Nat) (op : Nat) : Bool := vcs.contains g.vc.toNat && g.op.toNat == op

/-- A request of the row's kind is presented, with the one that comes in on the other link at the same grain time (R201); a
grain of another kind is not one, and nothing happens. -/
def State.request (s : State) (a : Arrival) (vcs : List Nat) (op : Nat) (g : Grain) (ev : MemEv) : State :=
  if !Grain.isReq g vcs op then s
  else
    match a, ev.twin with
    | .link _, some (h, bad, corrected) =>
      if !h.isMem then s.arriveAt a g ev
      else if s.before a a.other g h then (s.arriveAt a g ev).arriveAt a.other h { bad, corrected }
      else (s.arriveAt a.other h { bad, corrected }).arriveAt a g ev
    | _, _ => s.arriveAt a g ev

/-- LOAD (R196). -/
def execLoad (a : Arrival) (g : Grain) (ev : MemEv) (s : State) : Out := .next (s.request a [0] 0 g ev)

/-- LOAD_VOLATILE (R207). -/
def execLoadVolatile (a : Arrival) (g : Grain) (ev : MemEv) (s : State) : Out := .next (s.request a [0] 1 g ev)

/-- STORE (R204, R218). -/
def execStore (a : Arrival) (g : Grain) (ev : MemEv) (s : State) : Out := .next (s.request a [0, 3, 4] 2 g ev)

/-- STORE_MASKED (R88). -/
def execStoreMasked (a : Arrival) (g : Grain) (ev : MemEv) (s : State) : Out := .next (s.request a [0, 3, 4] 3 g ev)

/-- ADD (R198). -/
def execAdd (a : Arrival) (g : Grain) (ev : MemEv) (s : State) : Out := .next (s.request a [2] 0 g ev)

/-- MIN (R198). -/
def execMin (a : Arrival) (g : Grain) (ev : MemEv) (s : State) : Out := .next (s.request a [2] 1 g ev)

/-- MAX (R198). -/
def execMax (a : Arrival) (g : Grain) (ev : MemEv) (s : State) : Out := .next (s.request a [2] 2 g ev)

/-- AND (R198). -/
def execAnd (a : Arrival) (g : Grain) (ev : MemEv) (s : State) : Out := .next (s.request a [2] 3 g ev)

/-- OR (R198). -/
def execOr (a : Arrival) (g : Grain) (ev : MemEv) (s : State) : Out := .next (s.request a [2] 4 g ev)

/-- XOR (R198). -/
def execXor (a : Arrival) (g : Grain) (ev : MemEv) (s : State) : Out := .next (s.request a [2] 5 g ev)

/-- SWAP (R198). -/
def execSwap (a : Arrival) (g : Grain) (ev : MemEv) (s : State) : Out := .next (s.request a [2] 6 g ev)

/-- CAS (R198). -/
def execCas (a : Arrival) (g : Grain) (ev : MemEv) (s : State) : Out := .next (s.request a [2] 7 g ev)

/-- FADD (R220). -/
def execFadd (a : Arrival) (g : Grain) (ev : MemEv) (s : State) : Out := .next (s.request a [2] 8 g ev)

/-- A destination accepts SEQ_RESET whatever its expected TAG (R110). -/
def State.seqReset (s : State) (w : EpSel) (g : Grain) : State :=
  let s := s.modEp w fun e => e.setRchan g.src.toNat g.vc.toNat { expected := some ((g.tag.toNat + 1) % 32768), nack := none }
  s.epEmit w (completion (s.epId w) g)

/-- SEQ_RESET (R110). -/
def execSeqReset (a : Arrival) (g : Grain) (s : State) : Out :=
  .next (
    if !g.isSeqReset then s
    else
      let s := s.took a g.vc.toNat
      if !g.checkOk then s.checkFail a.ep g else s.seqReset a.ep g)

/-! ### The VC4 group of a slot (R203, R221) -/

/-- One VC4 store of the group: what it left, and the answer with the chunks that it wrote. -/
def State.groupStore (s : State) (w : EpSel) (g : Grain) (ev : MemEv) : State × List (Grain × List Nat) :=
  match s.homeCheck w g with
  | some st => (s.homeError w g st, [])
  | none =>
    let x := s.putStore w g ev
    if x.2 ≠ 0 then (x.1.homeError w g x.2, [])
    else (x.1, [(g, (List.range (g.chunks + 1)).map (g.chunk + ·))])

def State.groupStores (w : EpSel) : List (Grain × MemEv) → State → State × List (Grain × List Nat)
  | [], s => (s, [])
  | (g, ev) :: r, s =>
    let x := s.groupStore w g ev
    let y := State.groupStores w r x.1
    (y.1, x.2 ++ y.2)

/-- One copy per chunk of the group, in the order in which the chunks were first written: (handle, chunk, copy number). -/
def State.groupCopies (w : EpSel) : List (Nat × Nat × Nat) → State → List (Nat × Nat × Nat) → State × List (Nat × Nat × Nat)
  | [], s, acc => (s, acc)
  | (p, h, c) :: r, s, acc =>
    if acc.any (fun x => x.1 == h && x.2.1 == c) then State.groupCopies w r s acc
    else
      let s := s.mirrorCopy w p h c 1
      State.groupCopies w r s (acc ++ [(h, c, (s.epOf w).nextReq)])

/-- The group of a slot is applied at its last grain time, in ascending SRC_EP and within one source in presentation
order (R203). -/
def State.applyGroup (s : State) (w : EpSel) : State :=
  let l := lsort (fun (a b : Grain × MemEv) => decide (a.1.src.toNat ≤ b.1.src.toNat)) (s.home w).group
  let s := s.modHome w fun h => { h with group := [] }
  let x := State.groupStores w l s
  let want := x.2.flatMap fun (g, cs) => if x.1.mirrors w g.handle then cs.map fun c => (g.part.toNat, g.handle, c) else []
  let y := State.groupCopies w want x.1 []
  x.2.foldl (fun (s : State) (p : Grain × List Nat) =>
    let tags := y.2.filterMap fun (h, c, n) => if h = p.1.handle ∧ p.2.contains c then some n else none
    let a := completion (s.epId w) p.1
    if tags.isEmpty then s.epEmit w a
    else s.modHome w fun h => { h with
      mirrorWait := h.mirrorWait ++ [{ answer := a, req := p.1, handle := p.1.handle, tags }] }) y.1

/-- VC4_GROUP_APPLY (R203). -/
def execVc4GroupApply (w : EpSel) (s : State) : Out := .next (s.applyGroup w)

end Sys2Proof.Machine
end

