-- ==== Sys2Proof/Machine/Vc6.lean ====
section
/-! DEFINITION. VC6 messages at their destination: the tag test of their fragments, acknowledgement, recorded answers and
refusals; answers at the requester (03 R92, R108, R568, 13 R422). -/

namespace Sys2Proof.Machine

open Sys2Proof

/-- Fragments of a message. -/
def msgFragments (m : Msg) : Nat := max 1 ((m.payload.length + 255) / 256)

/-- A message comes in at an end-point, each fragment a grain (R258). -/
def State.tookMsg (s : State) (a : Arrival) (m : Msg) : State := s.took a 6 (msgFragments m)

/-- TAG of the first fragment. -/
def msgFirst (m : Msg) : Nat := (m.tag.toNat + 32768 - (msgFragments m - 1)) % 32768

/-- One fragment of a request as a grain, for the responses to it. -/
def msgGrain (m : Msg) (own tag : Nat) : Grain :=
  { mkMgmt 0 m.part.toNat m.src.toNat own m.target.toNat m.kind.toNat 0 true [] with tag := BitVec.ofNat 15 tag }

/-- COMPLETION for a fragment. -/
def State.ackFragment (s : State) (w : EpSel) (m : Msg) (tag : Nat) : State :=
  s.epEmit w (mkResp (msgGrain m (s.epId w) tag) (s.epId w) 1 St.ok false false 0 0)

/-- COMPLETIONs for every fragment but the last. -/
def State.ackAllButLast (s : State) (w : EpSel) (m : Msg) : State :=
  (List.range (msgFragments m - 1)).foldl (fun s i => s.ackFragment w m ((msgFirst m + i) % 32768)) s

/-- A VC1 ERROR for a request whose kind has no STATUS to carry the refusal (R568). -/
def State.refuseMsg (s : State) (w : EpSel) (m : Msg) (status : Nat) : State :=
  s.epEmit w (mkResp (msgGrain m (s.epId w) m.tag.toNat) (s.epId w) 2 status false false 0 0)

/-- How a kind is answered (R568). -/
inductive AnswerKind where
  /-- By a message that is recorded. -/
  | kept
  /-- By a message, and served again for each duplicate. -/
  | reading
  /-- By a COMPLETION. -/
  | none
  deriving DecidableEq, Repr, Inhabited

/-- Record a message of a source; the latest 64 are kept (R568). -/
def State.recordMsg (s : State) (w : EpSel) (m : Msg) (r : Vc6Rec) : State :=
  s.modEp w fun e => { e with
    vc6 := tset e.vc6 m.src.toNat ((r :: (tget e.vc6 m.src.toNat []).filter (fun x => x.tag != r.tag)).take 64) }

/-- Send an answer and record it. -/
def State.answerMsg (s : State) (w : EpSel) (m : Msg) (kind : Nat) (data : Bytes) : State :=
  (s.recordMsg w m { tag := m.tag.toNat, answer := some (kind, data) }).sendAnswer w m kind data

/-- A duplicate whose answer has been recorded. -/
def State.repeatMsg (s : State) (w : EpSel) (m : Msg) : State :=
  match (tget (s.epOf w).vc6 m.src.toNat []).find? (fun r => r.tag == m.tag.toNat) with
  | some r =>
    (match r.answer with
     | some (k, d) => s.sendAnswer w m k d
     | none => s)
  | none => s

/-- A message reaches its destination: tag test, acknowledgement of its fragments; the result says whether it is to be
served (R108, R568). -/
def State.takeMsg (s : State) (w : EpSel) (m : Msg) (k : AnswerKind) : State × Bool :=
  let s := match w with
    | .internal => s.devTally 0 1
    | .faette => s
  let c := (s.epOf w).rchan m.src.toNat 6
  match c.expected with
  | none => (s, false)
  | some x =>
    let d := (x + 32768 - msgFirst m) % 32768
    if d < msgFragments m then
      let s := (s.modEp w fun e => e.setRchan m.src.toNat 6 { c with expected := some ((m.tag.toNat + 1) % 32768) }).ackAllButLast w m
      match k with
      | .none => (s.ackFragment w m m.tag.toNat, true)
      | .reading => (s, true)
      | .kept => (s.recordMsg w m { tag := m.tag.toNat, open_ := true }, true)
    else if tagBefore m.tag.toNat x then
      let s := s.ackAllButLast w m
      match k with
      | .none => (s.ackFragment w m m.tag.toNat, false)
      | .reading => (s, true)
      | .kept => (s.repeatMsg w m, false)
    else (s.limitedNack w (msgGrain m (s.epId w) (msgFirst m)) x 3, false)

/-- A request of a kind with no answer, which may be refused by a VC1 ERROR: the result says whether it is to be served
(R568). -/
def State.takeOrRefuse (s : State) (w : EpSel) (m : Msg) (refusal : Option Nat) : State × Bool :=
  match refusal with
  | some st =>
    let c := (s.epOf w).rchan m.src.toNat 6
    if c.expected = some (msgFirst m) then
      (((s.modEp w fun e => e.setRchan m.src.toNat 6 { c with expected := some ((m.tag.toNat + 1) % 32768) }).ackAllButLast w m).refuseMsg
        w m st, false)
    else s.takeMsg w m .none
  | none => s.takeMsg w m .none

/-- One that core k of the device must serve: refused while it is stopped (R422). -/
def State.takeForCore (s : State) (w : EpSel) (m : Msg) (core : Nat) : State × Bool :=
  s.takeOrRefuse w m (if w = .internal then s.coreStop core else none)

/-- An answer reaches the requester: the copies of the request it names are released; the number of that request, if it
was still awaited. -/
def State.takeAnswer (s : State) (w : EpSel) (m : Msg) : State × Option Nat :=
  match ((s.epOf w).chan m.src.toNat 6).copies.find? (fun k => k.grain.tag == m.tag) with
  | none => (s, none)
  | some k => ((s.release w m.src.toNat 6 (fun x => x.grain.tag == m.tag) 0 [] 0).pump w, some k.req)

end Sys2Proof.Machine
end

