-- ==== Sys2Proof/Machine/Keys.lean ====
section
/-! DEFINITION. The Region Key Table: the check at a leaf, the key primary's commands, the home's side of them, key image
loads (08, 10 R329, R330, R566, 14 R443, R446, 17 R502, R503). -/

namespace Sys2Proof.Machine

open Sys2Proof

/-! ### The table and the check of a leaf (R263 to R267) -/

/-- The entry of a handle in this switch's tiles. -/
def State.keyEntry (s : State) (handle : Nat) : Ent := tget s.keys.table handle 0

def State.setKey (s : State) (handle : Nat) (e : Ent) : State :=
  { s with keys := { s.keys with table := tset s.keys.table handle e } }

/-- A partition's STATE (Table 8.6). -/
def State.partState (s : State) (p : Nat) : Nat := s.reg (0x6100 + p) 1

/-- Bit of a partition in a port's mask (R270); a port number of the Faette's sides has none. -/
def State.portAllows (s : State) (port p : Nat) : Bool := port ≤ 48 && bit (s.reg 0x6040 (port + 1)) p

/-- key_check of R267. -/
def State.keyCheck (s : State) (g : Grain) (port : Nat) : Option Nat :=
  if !s.portAllows port g.part.toNat || s.partState g.part.toNat != 1 then some St.contextDenied
  else if g.isSeqReset then none
  else entryCheck (s.keyEntry g.handle) g g.dst

/-! ### Who carries out key commands (R271, R503, R506) -/

/-- 6000:03: this device is the key primary. -/
def State.isPrimary (s : State) : Bool :=
  if s.pair.state = 0 ∨ s.pair.state = 3 then true
  else if s.pair.state = 4 ∧ s.pair.resumedFrom = 3 then true
  else if s.pair.state = 4 ∧ s.pair.resumedFrom = 0 then false
  else decide (s.ownEp < s.pair.partner)

/-- The partner receives this device's streams. -/
def State.joined (s : State) : Bool := s.pair.state == 1 || s.pair.state == 4

/-! ### Key records (Table 8.4) -/

def keyRecord (handle : Nat) (e par : Ent) : Nat :=
  handle % 2 ^ 21 + (if entMirrored e then fld par.toNat 125 43 * 2 ^ 43 else 0) + e.toNat * 2 ^ 128

def recEntry (r : Nat) : Ent := BitVec.ofNat 128 (fld r 255 128)
def recPartner (r : Nat) : Ent := BitVec.ofNat 128 (fld r 125 43 * 2 ^ 43)
def recHandle (r : Nat) : Nat := fld r 20 0

/-- Send an entry to the partner in the KEY stream. -/
def State.mirrorKey (s : State) (handle : Nat) (e par : Ent) : State :=
  s.pairNext 1 (natLe 32 (keyRecord handle e par))

/-- Send a HOME_UPDATE with one record to the entry's owner, in the entry's own partition (log 28). -/
def State.homeUpdate (s : State) (handle : Nat) (e par : Ent) : State :=
  s.tell (entOwner e) (entPart e) 0 0x40 (natLe 32 (keyRecord handle e par))

/-! ### Commands, one at a time (R271 to R276) -/

/-- The context set of an entry breaks R264. -/
def badCtxSet (e : Ent) : Bool :=
  decide (10 < entCtxSpan e) || entCtxValue e % 2 ^ entCtxSpan e != 0

/-- What R279 asks of a register, beside the reach of the writer. -/
def State.registerCheck (s : State) (handle : Nat) (e : Ent) : Option Nat :=
  if s.partState (entPart e) ≠ 1 ∨ !s.inDomain (entPart e) handle then some St.contextDenied
  else if badCtxSet e then some St.bounds
  else none

/-! ### The keys of the memories (R331, R332) -/

/-- The key under which the chunks of a 2 MiB unit are stored: its partition's, if it is tagged for one, or else the device's
(R330, R331, log 187); none for a partition whose key has been destroyed. -/
def State.unitKey (s : State) (u : Nat) : Option Nat :=
  match s.ep.home.tags.find? (·.1 == u) with
  | some e => (s.keys.memKey.find? (·.1 == e.2)).map (·.2)
  | none => some s.keys.deviceKey

/-- The ciphertext of a chunk under a key, the tweak its home address divided by 64, and back; without a key an octet is read as
it is stored. -/
def enciphered (k : Option Nat) (chunk : Nat) (b : Bytes) : Bytes :=
  match k with
  | some k => Config.xtsEncrypt k chunk b
  | none => b
def deciphered (k : Option Nat) (chunk : Nat) (b : Bytes) : Bytes :=
  match k with
  | some k => Config.xtsDecrypt k chunk b
  | none => b

/-- What the memories store for the chunk of an address: the ciphertext, over which the check symbols are formed (R331). -/
def State.stored (s : State) (a : Nat) : Bytes :=
  enciphered (s.unitKey (a / 2 ^ 21)) (a / 64) (s.ep.home.read (chunkOf a) 64)

/-- The memory of a state whose units' keys were those of an earlier state: the stored ciphertext of each unit whose key has
changed stays, and decrypts under its new key. -/
def State.rekeyed (s before : State) : State :=
  let units := ((before.ep.home.tags ++ s.ep.home.tags).map (·.1)).eraseDups.filter fun u => before.unitKey u != s.unitKey u
  let chunks := ((s.ep.home.mem.filter fun c => units.contains (c.1 / 2 ^ 21)).map fun c => c.1 / 64).eraseDups
  s.modHome .internal fun h =>
    { h with
      mem := chunks.foldl (fun m c =>
        memWrite m (64 * c) (deciphered (s.unitKey (c / 2 ^ 15)) c (before.stored (64 * c)))) h.mem
      unitGen := units.foldl (fun t u => tmod t u 0 (· + 1)) h.unitGen }

/-- A partition becomes CLOSED: its key is destroyed, its content keys, pending release and tally set go, it wants a scrub
(R285, R332, R344, Table 14.6). -/
def State.closed (s : State) (p : Nat) : State :=
  let s := State.rekeyed { s with
    keys := { s.keys with memKey := tdel s.keys.memKey p, closing := s.keys.closing.filter (· != p) },
    sec := { s.sec with release := match s.sec.release with
      | some r => if r.part = p then none else some r
      | none => none },
    tallies := { s.tallies with parts := s.tallies.parts.filter (fun e => e.1 / 16 != p) } } s
  let s := s.modHome .internal fun h => { h with seals := h.seals.filter (fun x => x.part != p) }
  (s.setReg (0x6100 + p) 1 0).setReg 0x6310 6 (setBit (s.reg 0x6310 6) p true)

/-- The close that this device carries out ends: the partner is told. -/
def State.finishClose (s : State) (p : Nat) : State :=
  ((s.closed p).pairNext 6 [BitVec.ofNat 8 p, 0]).endStep (0x6100 + p) 2 St.ok

/-- Nothing of a purpose is left to do; of a close, nothing of its partition. -/
def State.noneLeft (s : State) (purpose : Nat) (p : Option Nat := none) : Bool :=
  let is (j : KeyJob) : Bool := j.purpose == purpose && (p.isNone || p == some (entPart j.ent))
  !(s.keys.todo.any is) && !(s.keys.now.any is)

/-- A key job has ended with a status. -/
def State.endJob (s : State) (j : KeyJob) (status : Nat) : State :=
  let s := { s with keys := { s.keys with now := none } }
  match j.purpose with
  | 0 =>
    let s := if j.kind = 4 ∨ (j.kind = 1 ∧ status = 0) then s.setReg 0x6010 2 j.ent.toNat else s
    let s := if j.kind = 4 ∧ status = 0 then s.setReg 0x6010 3 j.found.toNat else s
    s.endStep 0x6010 4 status
  | 1 =>
    let s := s.addReg 0x6020 (if status = 0 then 5 else 6) 32 1
    if s.noneLeft 1 then s.endStep 0x6020 1 St.ok else s
  | 2 =>
    let p := entPart j.ent
    if s.keys.closing.contains p && s.noneLeft 2 (some p) then s.finishClose p else s
  | _ => s

/-- A job waits in a phase for the grain that has just been sent. -/
def State.waitJob (s : State) (j : KeyJob) (phase : Nat) : State :=
  { s with keys := { s.keys with now := some { j with phase, no := s.ep.nextReq, sentSpan := s.clock.span } } }

/-- Register, once any old entry is gone: HOME_UPDATE to the owner, and wait (R272). -/
def State.registerHome (s : State) (j : KeyJob) : State := (s.homeUpdate j.handle j.ent j.par).waitJob j 3

/-- After a revoke has ended well: the command is over, or its register goes on (R274). -/
def State.afterRevoke (s : State) (j : KeyJob) : State :=
  if j.kind = 1 then s.registerHome j else s.endJob j St.ok

/-- Third step of a revoke: HOME_UPDATE with VALID 0; the home of a dead entry is not waited for (R273, R275). -/
def State.revokeHome (s : State) (j : KeyJob) : State :=
  let e := s.keyEntry j.handle
  let s := s.homeUpdate j.handle e 0
  if entDead e then s.afterRevoke j else s.waitJob j 2

/-- First steps of a revoke of a VALID entry: VALID 0 in the own tile, then at the partner (R273). -/
def State.revokeTile (s : State) (j : KeyJob) : State :=
  let e := entSet (s.keyEntry j.handle) 0 false
  let s := s.setKey j.handle e
  if s.joined then (s.mirrorKey j.handle e 0).waitJob j 1 else s.revokeHome j

/-- Begin a job. -/
def State.beginJob (s : State) (j : KeyJob) : State :=
  let e := s.keyEntry j.handle
  match j.kind with
  | 1 =>
    (match s.registerCheck j.handle j.ent with
     | some st => s.endJob j st
     | none =>
       if entKey j.ent = 0 ∧ s.reg 0x9000 6 = 1 then s.endJob j St.unwrapFailed else
       let x : Nat × State :=
         if entKey j.ent = 0 then (1 + Config.random s.fresh 32 % (2 ^ 32 - 1), s.draw) else (entKey j.ent, s)
       let ent := BitVec.ofNat 128 (x.1 * 2 ^ 96 + fld j.ent.toNat 95 2 * 4 + 1)
       let j := { j with ent, par := if entMirrored ent then j.par else 0 }
       if entValid e then x.2.revokeTile j else x.2.registerHome j)
  | 2 => if entValid e then s.revokeTile j else s.endJob j St.ok
  | 3 =>
    if entValid e then
      let d := entSet e 1 true
      let s := (s.setKey j.handle d).homeUpdate j.handle d 0
      if s.joined then (s.mirrorKey j.handle d 0).waitJob j 5 else s.endJob j St.ok
    else s.endJob j St.ok
  | _ =>
    (s.tell (entOwner e) (entPart e) 0 0x42 (natLe 4 j.handle)).waitJob { j with ent := e } 6

/-- Begin the next commands while none waits and core F runs (Table 13.9); `fuel` is the number that wait. -/
def State.keyPumpN : Nat → State → State
  | 0, s => s
  | n + 1, s =>
    if s.keys.now.isSome || (s.coreStop 2).isSome then s
    else
      match s.keys.todo with
      | [] => s
      | j :: r => State.keyPumpN n ({ s with keys := { s.keys with todo := r } }.beginJob j)

def State.keyPump (s : State) : State := s.keyPumpN s.keys.todo.length

/-- Queue a command. -/
def State.addJobs (s : State) (l : List KeyJob) : State :=
  ({ s with keys := { s.keys with todo := s.keys.todo ++ l } }).keyPump

/-- The home has answered, or will not (R272 to R275). -/
def State.homeAnswered (s : State) (j : KeyJob) (status : Nat) : State :=
  match j.phase with
  | 2 => if status = 0 then s.afterRevoke j else s.endJob j status
  | 3 =>
    if status ≠ 0 then s.endJob j status
    else
      let s := s.setKey j.handle j.ent
      if s.joined then (s.mirrorKey j.handle j.ent j.par).waitJob j 4 else s.endJob j St.ok
  | 6 => s.endJob j status
  | _ => s

/-- The partner holds the change; a partner that failed is not waited for. -/
def State.partnerHolds (s : State) (j : KeyJob) : State :=
  match j.phase with
  | 1 => s.revokeHome j
  | 4 => s.endJob j St.ok
  | 5 => s.endJob j St.ok
  | _ => s

/-- The next step of the running command, with the status that it awaited; while core F is stopped the step waits (Table 13.9). -/
def State.keyStep (s : State) (j : KeyJob) (status : Nat) : State :=
  if (s.coreStop 2).isSome then { s with keys := { s.keys with now := some { j with reply := some status } } }
  else if j.phase = 1 ∨ j.phase = 4 ∨ j.phase = 5 then (s.partnerHolds j).keyPump
  else (s.homeAnswered j status).keyPump

/-- Core F is back: the command takes the status that has come, or the next one begins. -/
def State.resumeKeys (s : State) : State :=
  match s.keys.now with
  | some j =>
    (match j.reply with
     | some st => s.keyStep { j with reply := none } st
     | none => s)
  | none => s.keyPump

/-- A grain that a key job awaited has ended: the acknowledgement of the partner's copy, or a failure of the HOME_UPDATE
(R275). -/
def State.keyEnded (s : State) (no status : Nat) : State :=
  match s.keys.now with
  | none => s
  | some j =>
    if j.no ≠ no then s
    else if j.phase = 1 ∨ j.phase = 4 ∨ j.phase = 5 ∨ status ≠ 0 then s.keyStep j status
    else s

/-! ### KEY_ENTRY (R279, R281) -/

/-- A key image load runs, or a command or a close (R281). -/
def State.loadRuns (s : State) : Bool := s.stepRuns 0x6020 1
def State.commandRuns (s : State) : Bool := s.keys.now.isSome || !s.keys.todo.isEmpty || s.stepRuns 0x6010 4

/-- Partition that a route stands for, where it does not carry the Full set. -/
def State.ownPart (s : State) : Route → Option Nat
  | .vf p => some p.val
  | .vc6 p _ => if p.val = s.reg 0x2050 1 then none else some p.val
  | _ => none

/-- The step just started is marked as handed on to the primary over the pair link (R271): a position past every own one. -/
def State.forwarded (s : State) (what : String) (operands : List Nat) : State :=
  let n := s.steps.length - 1
  ({ s with steps := s.steps.take n ++ (s.steps.drop n).map fun o => { o with pos := 2 ^ 64 } } : State).emit
    (.agent what operands)

/-- A stepped operation runs at the primary. -/
def StepOp.atPrimary (o : StepOp) : Bool := o.pos == 2 ^ 64

/-- The primary's result of a forwarded operation comes back, and this member relays it: its status, and what the operation
shows beside it, are the primary's, so free values here (R271, log 26). -/
def State.relayed (s : State) (idx sub : Nat) : State :=
  let v (n : Nat) : Nat := Config.primaryResult s.fresh n
  let t := s.draw
  let t := match idx with
    | 0x6010 => (t.setReg 0x6010 2 (v 1 % 2 ^ 128)).setReg 0x6010 3 (v 2 % 2 ^ 128)
    | 0x6020 => ((t.setReg 0x6020 4 (v 1 % 2 ^ 32)).setReg 0x6020 5 (v 2 % 2 ^ 32)).setReg 0x6020 6 (v 3 % 2 ^ 32)
    | _ => t
  t.endStep idx sub (v 0 % 2 ^ 16)

/-- A write to COMMAND 6010:04. -/
def keyCommandEffect : Effect := fun r v s =>
  let kind := leNat v
  let handle := s.reg 0x6010 1 % 2 ^ 21
  let ent : Ent := BitVec.ofNat 128 (s.reg 0x6010 2)
  let j : KeyJob := { kind, handle, ent, par := BitVec.ofNat 128 (s.reg 0x6010 3), route := r }
  let refusal : Option Nat :=
    if s.pair.state = 2 then some St.targetLost
    else if s.loadRuns then some St.loadBusy
    else if kind = 1 then
      if (match s.ownPart r with | some p => p != entPart ent | none => false) then some St.contextDenied
      else if entKey ent = 0 ∧ (s.coreStop 0).isSome then s.coreStop 0
      else s.registerCheck handle ent
    else none
  match refusal with
  | some st => refuse s st
  | none =>
    let x := s.startStep r 0x6010 4 kind v
    if x.2.1 ≠ St.stepPending then x
    else if s.isPrimary then (x.1.addJobs [j], x.2)
    else (x.1.forwarded "forward KEY_ENTRY" [kind, handle, ent.toNat, s.reg 0x6010 3], x.2)

/-- REGISTER (R272, R274, R279): a write of 1 to COMMAND. -/
def execRegister (r : Route) (s : State) : Out := .next (s.rowWrite r 0x6010 4 [1] keyCommandEffect)

/-- REVOKE (R273, R275). -/
def execRevoke (r : Route) (s : State) : Out := .next (s.rowWrite r 0x6010 4 [2] keyCommandEffect)

/-- MARK_DEAD (R276). -/
def execMarkDead (r : Route) (s : State) : Out := .next (s.rowWrite r 0x6010 4 [3] keyCommandEffect)

/-- KEY_ENTRY_READ (R279). -/
def execKeyEntryRead (r : Route) (s : State) : Out := .next (s.rowWrite r 0x6010 4 [4] keyCommandEffect)

/-! ### The home's side (R266, R277, R278, R329, R330, R443) -/

/-- 2 MiB units that an entry's region covers. -/
def entUnits (e : Ent) : List Nat := (List.range ((entLen e + 2 ^ 21 - 1) / 2 ^ 21)).map (entBase e + ·)

/-- The region lies wholly in an area of the memory map (areas 2 and 6 are tray-exposed). -/
def State.inArea (s : State) (e : Ent) (k : Nat) : Bool :=
  let b := s.reg 0x6300 (k + 1)
  decide (b ≤ entBase e * 2 ^ 21) && decide (entBase e * 2 ^ 21 + entLen e ≤ b + s.reg 0x6300 (k + 8))

def State.trayExposed (s : State) (e : Ent) : Bool := s.inArea e 2 || s.inArea e 6

/-- The region is exactly the table area. -/
def isTableArea (e : Ent) : Bool := entBase e == 0 && entLen e == 2 ^ 30

/-- What a home answers to a record that registers. -/
def State.homeAccepts (s : State) (w : EpSel) (e : Ent) : Nat :=
  match w with
  | .internal =>
    if !(s.trayExposed e || isTableArea e) then St.bounds
    else if entSealed e && (entMirrored e || entAtomic e || !s.trayExposed e) then St.contextDenied
    else if s.trayExposed e && (entUnits e).any (fun u => tget s.ep.home.tags u (entPart e) != entPart e) then St.contextDenied
    else St.ok
  | .faette =>
    if Config.faetteMemory < entBase e * 2 ^ 21 + entLen e then St.bounds
    else if entSealed e then St.contextDenied
    else St.ok

/-- Apply one record at a home. -/
def State.homeRecord (s : State) (w : EpSel) (r : Nat) : State × Nat :=
  let e := recEntry r
  let h := recHandle r
  let par := parWith (recPartner r) (if entMirrored e then 1 else 0)
  if !entValid e then
    (s.modHome w fun m =>
      { m.setRecord h (entSet (m.entry h) 0 false) par with seals := m.seals.filter (fun x => x.handle != h) }, St.ok)
  else
    let st := s.homeAccepts w e
    if st ≠ 0 then (s, st)
    else
      let e' := entSet e 1 false
      let tag (m : Home) : Home :=
        if w = .internal ∧ s.trayExposed e then
          { m with tags := (entUnits e).foldl (fun t u => tset t u (entPart e)) m.tags } else m
      (((s.modHome w tag).rekeyed s).modHome w fun m => m.setRecord h e' par, St.ok)

/-- Apply the records of a message in order. -/
def State.homeRecords (w : EpSel) : List Nat → State → State × List Nat
  | [], s => (s, [])
  | r :: l, s =>
    let x := s.homeRecord w r
    let y := State.homeRecords w l x.1
    (y.1, x.2 :: y.2)

/-- The two switches of an end-point (R230); for the device's own end-point itself and its partner. -/
def State.isOwnSwitch (s : State) (w : EpSel) (ep : Nat) : Bool :=
  match w with
  | .internal => ep == s.ownEp || ep == s.pair.partner
  | .faette => s.faette.switches.contains ep

/-- HOME_UPDATE (R277, R278). -/
def execHomeUpdate (a : Arrival) (m : Msg) (s : State) : Out :=
  .next (
    let w := a.ep
    let s := s.tookMsg a m
    if m.kind ≠ 0x40 ∨ !s.isOwnSwitch w m.src.toNat then s
    else
      let x := s.takeMsg w m .kept
      if !x.2 then x.1
      else
        let l := (Machine.pieces 32 (min 8 (m.payload.length / 32)) m.payload).map leNat
        let y := State.homeRecords w l x.1
        y.1.answerMsg w m 0x41 (y.2.flatMap (natLe 2)))

/-- HOME_ACK_TIMEOUT (R275): 64 spans after HOME_UPDATE the command ends with TARGET_LOST. -/
def execHomeAckTimeout (s : State) : Out :=
  .next (match s.keys.now with
    | some j =>
      if (j.phase = 2 ∨ j.phase = 3) ∧ j.sentSpan + 64 ≤ s.clock.span then s.keyStep j St.targetLost else s
    | none => s)

/-- MIRROR_QUERY (R279): the home answers with its partner record. -/
def execMirrorQuery (a : Arrival) (m : Msg) (s : State) : Out :=
  .next (
    let w := a.ep
    let s := s.tookMsg a m
    if m.kind ≠ 0x42 then s
    else
      let x := s.takeMsg w m .reading
      if !x.2 then x.1
      else
        let h := leAt m.payload 0 4
        x.1.sendAnswer w m 0x43 (natLe 4 h ++ natLe 16 ((x.1.home w).partner (h % 2 ^ 21)).toNat))

/-! ### Key image loads (R280, R566) -/

/-- A write of 1 to START 6020:01. -/
def keyLoadEffect : Effect := fun r v s =>
  if s.pair.state = 2 then refuse s St.targetLost
  else if s.loadRuns ∨ s.commandRuns ∨ !s.keys.closing.isEmpty then refuse s St.loadBusy
  else
    let x := s.startStep r 0x6020 1 (leNat v)
    if x.2.1 ≠ St.stepPending then x
    else
      let t := ((x.1.setReg 0x6020 4 0xFFFFFFFF).setReg 0x6020 5 0).setReg 0x6020 6 0
      if s.isPrimary then (t, x.2) else (t.forwarded "forward KEY_TABLE_LOAD" [s.reg 0x6020 2], x.2)

/-- KEY_TABLE_LOAD (R280, R281). -/
def execKeyTableLoad (r : Route) (v : Bytes) (s : State) : Out := .next (s.rowWrite r 0x6020 1 v keyLoadEffect)

/-- First record that fails R264 or R279, which is asked of every record; a loader without the Full set reaches only the
handles of its own key domain, with a VALID 0 record too (R288). -/
def State.badRecord (s : State) (own : Option Nat) (rs : List Nat) : Option Nat :=
  (rs.zipIdx.find? fun (r, _) =>
    let e := recEntry r
    badCtxSet e || (entValid e && (s.registerCheck (recHandle r) e).isSome) ||
      (match own with
       | some p => !s.inDomain p (recHandle r) || (entValid e && p != entPart e)
       | none => false)).map (·.2)

/-- The image has been read: refused, or applied record by record (R280). -/
def State.runKeyLoad (s : State) : State :=
  let o := s.stepOp 0x6020 1
  if o.pos ≠ 0 then s else
  let off := s.reg 0x6020 2
  let img (a n : Nat) : Bytes := s.ep.home.read (off + a) n
  let count := leAt (img 6 4) 0 4
  let len := 64 + 32 * count
  if 2 ^ 30 < off + 64 then (s.setReg 0x6020 4 0).endStep 0x6020 1 St.tableInvalid
  else if s.ep.home.anyBad off 64 then s.endStep 0x6020 1 St.dataLost
  else if leAt (img 0 4) 0 4 ≠ 0x4B594552 ∨ leAt (img 4 2) 0 2 ≠ 0x0100 ∨ 2097152 < count ∨ 2 ^ 30 < off + len then
    (s.setReg 0x6020 4 0).endStep 0x6020 1 St.tableInvalid
  else if s.ep.home.anyBad off len then s.endStep 0x6020 1 St.dataLost
  else
    let rs := (Machine.pieces 32 count (img 64 (32 * count))).map leNat
    match s.badRecord (s.ownPart o.route) rs with
    | some k => (s.setReg 0x6020 4 k).endStep 0x6020 1 St.tableInvalid
    | none =>
      if rs.isEmpty then s.endStep 0x6020 1 St.ok
      else
        (s.modStep 0x6020 1 fun o => { o with pos := 1 }).addJobs (rs.map fun r =>
          { kind := if entValid (recEntry r) then 1 else 2, handle := recHandle r, ent := recEntry r, par := recPartner r,
            purpose := 1, route := o.route })

/-! ### The partner's KEY and OWNER_DEAD streams (17 R502, R508) -/

/-- KEY records are applied to the own tile: VALID 0, a registration, or a mark-dead (log 27). -/
def State.applyKeyRecord (s : State) (r : Nat) : State :=
  let e := recEntry r
  let h := recHandle r
  s.setKey h (if entValid e then e else entSet (s.keyEntry h) 0 false)

/-- Every VALID entry of an owner is marked dead at one grain time; how many there were. -/
def State.markOwner (s : State) (owner : Nat) : State × Nat :=
  let hit (x : Nat × Ent) : Bool := entValid x.2 && entOwner x.2 == owner
  ({ s with keys := { s.keys with table := s.keys.table.map fun x => if hit x then (x.1, entSet x.2 1 true) else x } },
   (s.keys.table.filter hit).length)

end Sys2Proof.Machine
end

