-- ==== Sys2Proof/Machine/Xbar.lean ====
section
/-! DEFINITION. The crossbar: slot classes and policing, ingress gates, tiles, resequencing buffers with their combiner,
open service by partition share, egress gates and pushes, ageing (01 R14 to R19, 02 R33 to R49, R59, R66, R71 to R75,
03 R99 to R105, R115 to R120, 06 R214 to R217, 08 R286, 15 R465). -/

namespace Sys2Proof.Machine

open Sys2Proof

/-! ### Slot maps in force (R37, R57, R59) -/

/-- The link runs with the split that the table's SPLIT_MASK gives it. -/
def State.splitAgrees (s : State) (t : SpanTable) (p : Nat) : Bool :=
  p == 48 ||
  (match (s.link (linkOf p)).split with
   | some b => bit t.splitMask (linkOf p) == b
   | none => true)

/-- The table whose maps hold in a span; none: every slot of every port is open. -/
def State.tableAt (s : State) (span : Nat) : Option SpanTable :=
  if s.clock.align ≠ 2 ∨ s.sched.inTransition then none
  else
    match s.sched.pending with
    | some t =>
      if span < s.sched.activateAt then s.sched.active
      else if t.spanLog = s.sched.spanLog ∧ t.slotLog = s.sched.slotLog then some t
      else none
    | none => s.sched.active

/-- A port's map in one direction. -/
def State.mapAt (s : State) (span p : Nat) (egress : Bool) : Option SlotMap :=
  match s.tableAt span with
  | none => none
  | some t => if s.splitAgrees t p then t.maps.find? (fun m => m.port == p && m.egress == egress) else none

/-- Class and owner of a slot of a port direction (Table 2.2); open without a map. -/
def State.slotClass (s : State) (span p : Nat) (egress : Bool) (slot : Nat) : Nat × Nat :=
  match s.mapAt span p egress with
  | none => (0, 0)
  | some m => m.slots.getD slot (0, 0)

/-- A port direction's map holds a mirror slot (R41). -/
def State.hasMirror (s : State) (p : Nat) (egress : Bool) : Bool :=
  match s.mapAt s.clock.span p egress with
  | none => false
  | some m => m.slots.any (fun x => x.1 == 3)

/-- A test concerns the transmit direction of this device: its own of KIND 1 or 2, or the peer's MARGIN_PROBE (R320). -/
def LinkTest.onTx (t : LinkTest) : Bool := t.mine == decide (t.kind ≤ 2)

/-- An agreed test runs in the running span, and concerns a direction (R320). -/
def State.holdsNow (s : State) (t : LinkTest) (egress : Bool) : Bool :=
  t.agreed && decide (t.start ≤ s.clock.span) && decide (s.clock.span < t.start + t.spans) && t.onTx == egress

/-- A test holds the maintenance slots of one direction of a link (R320); a refresh window holds those of port 48. -/
def State.testHolds (s : State) (p : Nat) (egress : Bool) : Bool :=
  if p = 48 then egress && s.refresh.window
  else (s.link (linkOf p)).tests.any fun t => s.holdsNow t egress

/-- The direction runs on seven lanes. -/
def State.sevenTx (s : State) (p : Nat) : Bool := p != 48 && (s.port p).lostTx.isSome

/-- An egress can carry a grain at a grain offset (R33, R314). -/
def State.canCarry (s : State) (p offset : Nat) : Bool :=
  !(s.isHalf p && offset % 2 == 1) && !(s.sevenTx p && offset % 8 == 7)

/-- Grain times of a slot in which an egress can carry a grain: s_eff of R286. -/
def State.sEff (s : State) (p : Nat) : Nat :=
  if s.isHalf p then s.slotLen / 2 else if s.sevenTx p then 7 * s.slotLen / 8 else s.slotLen

/-- Link that a port belongs to counts in its light set; the internal port has none. -/
def State.portLight (s : State) (p i n : Nat) : State := if p = 48 then s else s.light (linkOf p) i n

/-! ### Sending and credits (R301, Table 18.2) -/

/-- The consumer inside the device of a grain that leaves at port 48 (log 18). -/
def innerPlace (g : Grain) : String :=
  if g.vc = 1 then "requester" else if g.vc = 6 then "core" else if g.vc = 5 then "board" else "home"

/-- One grain leaves a port. -/
def State.sendOut (s : State) (p : Nat) (g : Grain) (span offset : Nat) : State :=
  let s := if p = 48 then s.emit (.deliver (innerPlace g) 48 g) else s.emit (.grain p g span offset (s.wire p g span offset))
  let v := g.vc.toNat
  let s := (s.portTally p v 1).portLight p 0 1
  let s := s.modPort p fun x => { x with txSpan := x.txSpan + 1 }
  let s := { s with tallies := { s.tallies with winTx := tmod s.tallies.winTx p 0 (· + 1) } }
  let q := g.part.toNat
  if v = 0 ∨ v = 2 then s.partTally q 1 1
  else if v = 1 then s.partTally q 2 1
  else if v = 4 then s.partTally q 3 1
  else if v = 5 then s.partTally q 4 1
  else s

/-- Lane C of a port carries markers and credits: ACTIVE, DEGRADED or SPARE (Table 9.6). -/
def State.sendsCredit (s : State) (p : Nat) : Bool := (s.port p).state == 5 || (s.port p).state == 7 || (s.port p).state == 9

/-- One grain of an open channel has left the input buffer of a port: FREED rises and a credit token goes (R301). -/
def State.freeInput (s : State) (p vc : Nat) : State :=
  if p = 48 ∨ vc = 4 ∨ vc = 5 ∨ vc = 7 then s
  else
    let n := (tget (s.port p).freedHere vc 0 + 1) % 65536
    let s := s.modPort p fun x => { x with freedHere := tset x.freedHere vc n }
    if s.sendsCredit p then
      s.token p "Credit" (creditFields (b2n (s.isHalf p && p % 2 == 1)) vc n)
    else s

/-- A port may send one more grain of an open channel. -/
def State.hasCredit (s : State) (p vc : Nat) : Bool :=
  if p = 48 then true
  else
    let x := s.port p
    decide ((tget x.sent vc 0 + 65536 - tget x.freed vc 0) % 65536 < tget x.initial vc 0)

def State.useCredit (s : State) (p vc : Nat) : State :=
  if p = 48 then s else s.modPort p fun x => { x with sent := tmod x.sent vc 0 (fun n => (n + 1) % 65536) }

/-! ### Ingress (Table 3.10) -/

/-- The answer that a device on the path gives to a request that it refuses; responses and reports get none (R90, R114). -/
def State.refuseGrain (s : State) (g : Grain) (status : Nat) : State :=
  if g.isMem || (g.vc == 6 && (g.op == 0 || g.op == 15)) then s.pathError g status else s

/-- Age of a grain in spans (R119). -/
def State.age (s : State) (g : Grain) : Nat := (s.clock.span % 64 + 64 - g.birth.toNat) % 64

def State.aged (s : State) (g : Grain) : Bool := decide (s.reg 0x3080 3 ≤ s.age g)

/-- A grain is discarded for its age at a port (R119, R120). -/
def State.discardAged (s : State) (p : Nat) (g : Grain) : State :=
  let s := (s.portTally p 24 1).partTally g.part.toNat 8 1
  if g.vc = 1 then s else s.nackGrain p g 2

/-- A grain of VC0, VC2, VC3 or VC4 is key-checked here (R194, Table 3.10): its destination attaches to the device's pair, so
that this is the leaf of its source or, for a put or get, of its destination, and the pair's other member, from which it would
come by the pair link, has not checked it already (log 30). -/
def State.checksKey (s : State) (p : Nat) (g : Grain) : Bool := g.isMem && s.attached g.dst && !s.onPairLink p

/-- A pair-state grain on the pair link (R501). -/
def State.isPairState (s : State) (p : Nat) (g : Grain) : Bool :=
  s.onPairLink p && g.vc == 3 && g.key == 0 && g.ctxLocal == 0 && decide (g.handle ≤ 6) &&
  g.src.toNat == s.pair.partner && g.dst == s.ownEp

/-- Check 6: the region key, or the port test of VC6 requests (R267, R567). -/
def State.gateCheck (s : State) (p : Nat) (g : Grain) : Option Nat :=
  if g.vc = 6 ∧ (g.op = 0 ∨ g.op = 15) then
    if s.portAllows p g.part.toNat then none else some St.contextDenied
  else if s.checksKey p g then s.keyCheck g p
  else none

/-- A grain that fails check 6. -/
def State.denyGrain (s : State) (p : Nat) (g : Grain) (st : Nat) : State :=
  let s := ((s.portTally p 25 1).partTally g.part.toNat 5 1).addReg 0x6000 4 64 (if g.vc = 6 then 0 else 1)
  let s := s.trace 4 7 p (some g.part.toNat) (if g.vc = 6 then 0 else g.handle)
    (put st 15 0 + put g.src.toNat 29 16 + put (if g.vc = 6 then 0 else g.ctxId) 45 30)
  s.refuseGrain g st

/-- The slot of the sender's frame in which a grain was claimed (R60, R73, log 31). -/
def State.senderSlot (s : State) (l : IngressLine) : Nat :=
  ((l.offset + s.spanLen - l.late % s.spanLen) % s.spanLen) / s.slotLen

/-- Arrival offset of a port: 0 for the internal port, none until it is measured (R55). -/
def State.arrival (s : State) (p : Nat) : Option Int :=
  if p = 48 then some 0 else (s.clock.offsets.find? (fun e => e.1 == linkOf p)).map (·.2)

/-- Class of the ingress slot for policing: open until the link's offset is measured (R42, R55). -/
def State.ingressClass (s : State) (p slot : Nat) : Nat × Nat :=
  if (s.arrival p).isNone then (0, 0) else s.slotClass s.clock.span p false slot

/-- Reserved traffic of a port is refused until the next activation (R56). -/
def State.refusesReserved (s : State) (p : Nat) : Bool :=
  s.clock.refuseAll || (p != 48 && s.clock.refuse.contains (linkOf p))

/-- Whether an ingress slot carries a grain (R37, R41, R42). -/
def State.policePass (s : State) (p : Nat) (g : Grain) (slot : Nat) : Bool :=
  let c := s.ingressClass p slot
  if g.isSched then c.1 == 1 && c.2 == g.part.toNat && !s.refusesReserved p
  else if c.1 = 1 then false
  else if g.vc = 7 then c.1 == 2
  else
    let lent := c.1 == 0 || c.1 == 3 || (c.1 == 2 && !s.testHolds p false)
    if g.vc = 3 then c.1 == 3 || (lent && !((s.arrival p).isSome && s.hasMirror p false)) else lent

/-- A grain that an ingress slot does not carry (R42). -/
def State.police (s : State) (p : Nat) (g : Grain) (slot : Nat) : State :=
  let s := (s.portTally p 23 1).partTally g.part.toNat 6 1
  s.fault 0x08 1 p St.slotConflict slot 1 (some g.part.toNat)

/-- Mark the colour of a VC0 grain at its source's leaf port: the two-rate marker of RFC 2698, colour-blind (R115, R116). -/
def State.colourGrain (s : State) (p : Nat) (g : Grain) : Grain × State :=
  let q := g.part.toNat
  let cir := s.reg (0x3100 + q) 1
  if g.vc ≠ 0 ∨ s.leafPort g.src.toNat ≠ some p then (g, s)
  else if cir = 0 then (g.withColour 0, s)
  else
    let n := s.slots
    let b := tget s.xbar.buckets q (s.reg (0x3100 + q) 3 * n, s.reg (0x3100 + q) 4 * n)
    let set (b : Nat × Nat) : State := { s with xbar := { s.xbar with buckets := tset s.xbar.buckets q b } }
    if b.2 < n then (g.withColour 2, s)
    else if b.1 < n then (g.withColour 1, set (b.1, b.2 - n))
    else (g.withColour 0, set (b.1 - n, b.2 - n))

/-- Put a claim into its place in time. -/
def State.addClaim (s : State) (c : Claim) : State :=
  { s with xbar := { s.xbar with
    claims := linsert (fun (a b : Claim) => decide (a.span < b.span) || (a.span == b.span && decide (a.offset < b.offset)))
      c s.xbar.claims } }

/-- A grain presented late at a port, whatever it is sent to: counted once, and a declared exception (R73, Tables 16.3 and
18.2). -/
def State.inheritDelay (s : State) (p part slot : Nat) : State :=
  ((s.portTally p 34 1).addReg 0x4031 5 64 1).exception 2 p part slot

/-- A scheduled grain that has passed its gate follows its route record (R45, R60, R99). -/
def State.routeSched (s : State) (p : Nat) (l : IngressLine) : State :=
  let g := l.grain
  let slot := s.senderSlot l
  match s.tableAt s.clock.span with
  | none => s.portTally p 23 1
  | some t =>
    match t.routes.find? (fun r => r.inPort == p && r.inSlot == slot && s.splitAgrees t p) with
    | none => s.portTally p 23 1
    | some r =>
      let s := if 0 < l.late then s.inheritDelay p r.part slot else s
      if r.toBoard || (g.vc == 5 && g.op == 0 && g.block == 0xFFFFFF) then s.emit (.deliver "board" p g)
      else
        let a := (s.arrival p).getD 0
        let now := s.clock.span * s.spanLen + (((l.offset : Int) + a) % (s.spanLen : Int)).toNat
        let claim := now + 2 * s.slotLen + 8 - l.late
        (maskBits r.outMask 49).foldl (fun (s : State) o =>
          if (s.mapAt s.clock.span o true).isNone then s.portTally o 23 1
          else s.addClaim { grain := g, port := o, part := g.part.toNat, span := claim / s.spanLen,
                            offset := claim % s.spanLen, inherited := l.late }) s

/-- The port of an open grain: a heartbeat of this device goes to its partner by the lowest port in service of PAIR_PATH_GROUP
(17 R503), every other grain by DST_EP. -/
def State.openPort (s : State) (p : Nat) (g : Grain) : Option Nat :=
  if p = 48 ∧ g.vc = 6 ∧ g.op = 0 ∧ fld g.body.toNat 94 87 = 0x60 ∧ g.dst = s.pair.partner ∧ g.src.toNat = s.ownEp then
    (s.activeOf (s.group (s.reg 0xB010 3))).head?
  else s.route g.src.toNat g.dst g.vc.toNat

/-- An open grain that has passed its gate is routed by DST_EP and waits at its input (R100, R114). -/
def State.routeOpen (s : State) (p : Nat) (g : Grain) : State :=
  let x := s.colourGrain p g
  let g := x.1
  let s := x.2
  match s.openPort p g with
  | none => (s.refuseGrain g St.targetLost).freeInput p g.vc.toNat
  | some o =>
    if s.portUp o then { s with xbar := { s.xbar with waiting := s.xbar.waiting ++ [⟨g, p, o, none⟩] } }
    else (s.refuseGrain g St.targetLost).freeInput p g.vc.toNat

/-- What the decoders count of a received position (R291, R292, Tables 18.2 and 18.7). -/
def State.countFec (s : State) (p : Nat) (x : FecOut) : State :=
  let s := (s.portTally p 20 x.corrected).portLight p 3 x.corrected
  ((s.portTally p 21 x.uncorrectable).portLight p 4 x.uncorrectable).portTally p 22 x.flips

/-- Counting of a received position (Tables 18.2 and 18.7, R530, R536, R541). -/
def State.countRx (s : State) (p : Nat) (l : IngressLine) (x : FecOut) : State :=
  let g := l.grain
  let s := s.countFec p x
  if !x.headerOk then s
  else
    let s := (s.portTally p (8 + g.vc.toNat) 1).portLight p 1 1
    let s := s.modPort p fun x => { x with rxSpan := x.rxSpan + 1 }
    let n := tget s.tallies.headerCount p 0 + 1
    let whole := decide (2 ^ s.reg 0x8300 3 ≤ n)
    let s := { s with tallies := { s.tallies with
      winRx := tmod s.tallies.winRx p 0 (· + 1), headerCount := tset s.tallies.headerCount p (if whole then 0 else n) } }
    let s := if whole then s.trace 9 12 p (some g.part.toNat) 0 (g.header / 2 ^ 64) else s
    if g.vc = 0 ∨ g.vc = 2 then s.partTally g.part.toNat 0 1 else s

/-- A discarded open grain frees its place (R301). -/
def State.dropAt (s : State) (p : Nat) (g : Grain) : State := s.freeInput p g.vc.toNat

/-- The checker has a maintenance grain before any check discards it (R321). -/
def State.maintain (s : State) (p : Nat) (g : Grain) (headerOk : Bool) : State :=
  if g.vc = 7 ∧ headerOk ∧ g.legal then s.emit (.deliver "maintenance" p g) else s

/-- The checks of Table 3.10 in order.  A maintenance grain is no further than its checker's: it is never acknowledged and
never switched (R93), and it has no age (log 181). -/
def State.gate (s : State) (p : Nat) (l : IngressLine) : State :=
  let g := l.grain
  let x := s.decoded p l
  let answers := x.headerOk && g.legal && g.vc != 7
  let slot := s.senderSlot l
  let hop := s.hopOk p l
  let s := s.maintain p g x.headerOk
  if !x.fecOk || !x.headerOk then if answers then (s.nackGrain p g 0).dropAt p g else s
  else if !hop then
    let s := (s.portTally p 19 1).portLight p 6 1
    if answers then (s.nackGrain p g 0).dropAt p g else s
  else if !g.legal then ((s.portTally p 18 1).portLight p 6 1).dropAt p g
  else if !s.policePass p g slot then (s.police p g slot).dropAt p g
  else if g.vc = 7 then s
  else if s.aged g then (s.discardAged p g).dropAt p g
  else if s.isPairState p g then (s.emit (.deliver "pair" p g)).dropAt p g
  else
    let s := if s.checksKey p g then s.quarterTally (g.handle / 2 ^ 19 % 4) 7 1 else s
    match s.gateCheck p g with
    | some st => (s.denyGrain p g st).dropAt p g
    | none => if g.isSched then s.routeSched p l else s.routeOpen p g

/-- INGRESS_GRAIN (R104): a grain position presented at an ingress gate. -/
def execIngressGrain (p : Port) (l : IngressLine) (s : State) : Out :=
  .next (
    let rx := (s.port p.val).rx
    let here := p.val == 48 || rx == 5 || rx == 7 || (rx == 9 && l.grain.vc == 7)
    let x := s.decoded p.val l
    if !here then s
    else if x.headerOk && l.grain.vc == 7 && l.grain.op == 15 then s.countFec p.val x
    else (s.countRx p.val l x).gate p.val l)

/-! ### Stage one, tiles and early discard (R44, R47 to R49, R117, R118) -/

def State.reseqOf (s : State) (o : Nat) : List ReseqEntry := tget s.xbar.reseq o []

def State.setReseq (s : State) (o : Nat) (l : List ReseqEntry) : State :=
  { s with xbar := { s.xbar with reseq := tset s.xbar.reseq o l } }

/-- Open grains of a partition that the device holds for an output (R47). -/
def State.held (s : State) (part o : Nat) : Nat :=
  ((s.reseqOf o).filter (fun e => match e.grain with | some g => g.part.toNat == part | none => false)).length +
  (s.xbar.ready.filter (fun g => g.outPort == o && g.grain.part.toNat == part)).length

/-- Open grains in a tile: those that wait for their order, and those that wait for open capacity (R47, R48). -/
def State.tileLoad (s : State) (tile : Nat) : Nat :=
  s.xbar.reseq.foldl (fun n e => n + (e.2.filter (fun x => x.tile == tile && x.grain.isSome)).length)
    (s.xbar.ready.filter fun g => g.tile == some tile).length

/-- The grain time at a grain offset of the running span, counted from the beginning of span 0. -/
def State.grainTime (s : State) (offset : Nat) : Nat := s.clock.span * s.spanLen + offset

/-- Stage one does not take a grain at a grain time: its partition's count has reached the limit, or has just left it on that
grain time, or the buffer of its output is full (R47, R49). -/
def State.mustWait (s : State) (t : Nat) (g : OpenGrain) : Bool :=
  let q := g.grain.part.toNat
  let n := s.held q g.outPort
  let limit := s.reg 0x4020 1
  decide (limit ≤ n) || (decide (limit ≤ n + 1) && s.xbar.madeRoom.contains (64 * g.outPort + q, t)) ||
  decide (1024 ≤ (s.reseqOf g.outPort).length)

/-- A departure from an output at a grain time lowers its partition's count; one from the limit is remembered (R47). -/
def State.leaveTile (s : State) (t : Nat) (g : OpenGrain) : State :=
  let q := g.grain.part.toNat
  if g.tile.isSome ∧ s.reg 0x4020 1 ≤ s.held q g.outPort then
    { s with xbar := { s.xbar with madeRoom := tset s.xbar.madeRoom (64 * g.outPort + q) t } }
  else s

/-- A tile of a quarter refuses an open grain for want of room: counted once in a grain time (R48). -/
def State.refuseRoom (s : State) (q t : Nat) : State :=
  if s.xbar.roomFull.contains (q, t) then s
  else ({ s with xbar := { s.xbar with roomFull := tset s.xbar.roomFull q t } }).quarterTally q 12 1

/-- MIN, MAX and PMAX of a colour (Table 3.11); RSVD colours as red. -/
def State.redCurve (s : State) (c : Nat) : Nat × Nat × Nat :=
  let k := 3 * min c 2
  (s.reg 0x3081 (k + 1), s.reg 0x3081 (k + 2), s.reg 0x3081 (k + 3))

/-- Early discard of a VC0 grain that enters a tile's queue: the new average, and whether it is discarded (R117, log 14,
log 32). -/
def State.earlyDiscard (s : State) (tile : Nat) (g : OpenGrain) : State × Bool :=
  if g.grain.vc ≠ 0 then (s, false)
  else
    let q := g.grain.part.toNat
    let occ := ((s.reseqOf g.outPort).filter (fun e =>
      e.tile == tile && (match e.grain with | some x => x.part.toNat == q | none => false))).length +
      (s.xbar.ready.filter fun x => x.tile == some tile && x.outPort == g.outPort && x.grain.part.toNat == q).length
    let key := (tile * 64 + q) * 64 + g.outPort
    let a := tget s.xbar.redAvg key (0, 0)
    let w := s.reg 0x3080 4
    let num := a.1 * 2 ^ w + occ * 2 ^ a.2 - a.1
    let e := a.2 + w
    let s := { s with xbar := { s.xbar with redAvg := tset s.xbar.redAvg key (num, e) } }
    let (lo, hi, pmax) := s.redCurve g.grain.colour
    let d := Config.redDraw s.fresh % 2 ^ 64
    let s := s.draw
    if num < lo * 2 ^ e then (s, false)
    else if hi * 2 ^ e ≤ num then (s, true)
    else (s, decide (d * 256 * (hi - lo) * 2 ^ e < (num - lo * 2 ^ e) * pmax * 2 ^ 64))

/-- Hand a grain to its tile, or discard it early. -/
def State.handOff (s : State) (tile : Nat) (g : OpenGrain) : State :=
  let s := { s with xbar := { s.xbar with waiting := s.xbar.waiting.erase g } }
  let s := s.freeInput g.inPort g.grain.vc.toNat
  let x := s.earlyDiscard tile g
  if x.2 then
    let s := x.1.quarterTally (tile / 128) (2 + min g.grain.colour 2) 1
    (s.partTally g.grain.part.toNat 7 1).nackGrain g.inPort g.grain 1
  else
    x.1.setReseq g.outPort (x.1.reseqOf g.outPort ++
      [{ inPort := g.inPort, vc := g.grain.vc.toNat, tile, slot := s.clock.span * s.slots + s.clock.slot, grain := some g.grain }])

/-- OPEN_GRAIN_HANDOFF (R44, R47, R48): input p's first grain that may be taken goes to tile (t + 10 p) mod 512. -/
def execOpenGrainHandoff (p : Port) (offset : Nat) (s : State) : Out :=
  .next (
    let t := s.grainTime offset
    match s.xbar.waiting.find? (fun g => g.inPort == p.val && !s.mustWait t g) with
    | none => s
    | some g =>
      let tile := (offset + 10 * p.val) % 512
      if 327 ≤ s.tileLoad tile then s.refuseRoom (tile / 128) t else s.handOff tile g)

/-! ### Resequencing and the combiner (R49, R214 to R217) -/

/-- The first entry of an input and channel. -/
def headOf (l : List ReseqEntry) (inPort vc : Nat) : Option ReseqEntry :=
  l.find? fun e => e.inPort == inPort && e.vc == vc

/-- The entry is the first of its input and channel. -/
def isHead (l : List ReseqEntry) (e : ReseqEntry) : Bool := headOf l e.inPort e.vc == some e

/-- Drop the first entry of an input and channel. -/
def dropHead (l : List ReseqEntry) (inPort vc : Nat) : List ReseqEntry :=
  ldrop l fun e => e.inPort == inPort && e.vc == vc

/-- Combining is on for a grain (R214, R215): plain one-chunk stores, or combinable atomics. -/
def State.combinable (s : State) (g : Grain) : Bool :=
  s.singleRoute g.dst &&
  ((g.vc == 0 && g.op == 2 && g.chunks == 0 && !isCombinedStore g && s.xbar.combStore == 1) ||
   (g.vc == 2 && (decide (g.op.toNat ≤ 6) || g.op == 8) && fld g.payload.toNat 2047 256 == 0 && !(atomOp g).bad &&
    s.xbar.combAtomic == 1))

/-- The operand block without OPERAND_A and NO_RETURN. -/
def blockRest (g : Grain) : Nat :=
  let x := g.payload.toNat % 2 ^ 256
  setBit (x - put (fld x 127 64) 127 64) 15 false

/-- Two grains may stand in one group (R215). -/
def sameGroup (a b : Grain) : Bool :=
  a.vc == b.vc && a.op == b.op && a.part == b.part && a.dst == b.dst && a.key == b.key && a.ctxLocal == b.ctxLocal &&
  a.handle == b.handle && a.chunk == b.chunk && a.chunks == b.chunks &&
  (a.vc == 0 || blockRest a == blockRest b)

/-- The group that a released grain gathers: repeated tests of the heads; the group in the order of entry. -/
def State.gather (s : State) (o : Nat) (g : Grain) (slot : Nat) : Nat → List ReseqEntry → State → List ReseqEntry ×
    List ReseqEntry × State
  | 0, l, t => ([], l, t)
  | fuel + 1, l, t =>
    match l.find? (fun e => e.slot == slot && isHead l e &&
      (match e.grain with | some h => sameGroup g h && s.combinable h | none => false)) with
    | none => ([], l, t)
    | some e =>
      let h := e.grain.getD {}
      let rest := dropHead l e.inPort e.vc
      if h.checkOk then
        let x := s.gather o g slot fuel rest t
        (e :: x.1, x.2.1, x.2.2)
      else s.gather o g slot fuel rest ((t.addReg 0x6030 6 64 1).nackGrain e.inPort h 0)

/-- The earliest BIRTH of a group as the running span sees them: that of the greatest age (R119, R216). -/
def earliestBirth (span : Nat) (ms : List Grain) (last : BitVec 6) : BitVec 6 :=
  let age (b : BitVec 6) : Nat := (span % 64 + 64 - b.toNat) % 64
  ms.foldl (fun b m => if age b < age m.birth then m.birth else b) last

/-- The grain that carries a group: the last member's, the others listed in order (R216). -/
def combineGrains (span : Nat) (ms : List Grain) : Grain :=
  match ms.getLast? with
  | none => {}
  | some last =>
    let others := ms.dropLast
    let birth := earliestBirth span ms last.birth
    let body :=
      if last.vc = 0 then
        last.payload.toNat % 2 ^ 512 + (others.zipIdx.foldl (fun n (m, k) =>
          n + (2 ^ 31 + put m.src.toNat 30 17 + put m.tag.toNat 16 2) * 2 ^ (512 + 32 * k)) 0)
      else
        last.payload.toNat % 2 ^ 256 + (others.zipIdx.foldl (fun n (m, k) =>
          n + (2 ^ 127 + put m.src.toNat 126 113 + put m.tag.toNat 112 98 + put (b2n (bit m.payload.toNat 15)) 64 64
            + fld m.payload.toNat 127 64) * 2 ^ (256 + 128 * k)) 0)
    let g := { last with payload := BitVec.ofNat 2048 body, birth, check := 0 }
    { g with check := BitVec.ofNat 32 g.crc }

def State.pushReady (s : State) (g : OpenGrain) : State :=
  { s with xbar := { s.xbar with ready := s.xbar.ready ++ [g] } }

/-- The buffer of output o releases the head of an input and channel (R49): from now on it waits in its tile for open
capacity (R47).  A group's grain waits in the tile of the group's last member. -/
def State.releaseHead (s : State) (o inPort vc : Nat) : State :=
  let l := s.reseqOf o
  match headOf l inPort vc with
  | none => s
  | some e =>
    match e.grain with
    | none => s.setReseq o (dropHead l inPort vc)
    | some g =>
      let rest := dropHead l inPort vc
      let alone : OpenGrain := ⟨g, inPort, o, some e.tile⟩
      if !s.combinable g then (s.setReseq o rest).pushReady alone
      else
        let room := if g.vc = 0 then 32 else 14
        let x := s.gather o g e.slot room rest s
        let t := x.2.2.setReseq o x.2.1
        if x.1.isEmpty then t.pushReady alone
        else if !g.checkOk then
          -- the released grain itself is damaged: it goes on alone and its destination finds it out
          (s.setReseq o rest).pushReady alone
        else
          let group := l.filter fun y => y == e || x.1.contains y
          let n := x.1.length
          let q := g.handle / 2 ^ 19 % 4
          let t := (if g.vc = 0 then (t.addReg 0x6030 3 64 n).quarterTally q 5 n
            else (t.addReg 0x6030 4 64 n).quarterTally q 6 n)
          ((t.addReg 0x6030 5 64 1).partTally g.part.toNat 9 n).pushReady
            ⟨combineGrains s.clock.span (group.map (·.grain.getD {})), inPort, o, (group.getLast?.map (·.tile))⟩

/-- RESEQ_RELEASE (R49, R215). -/
def execReseqRelease (p inPort : Port) (vc : BitVec 3) (s : State) : Out := .next (s.releaseHead p.val inPort.val vc.toNat)

/-! ### Open service (R37, R40, R41, R286, R465) -/

/-- Share of a partition in a slot of an egress: all channels, and VC0 and VC2 under the open acceptance. -/
def State.grant (s : State) (p q acc : Nat) : Nat :=
  if acc < 256 then s.reg (0x6100 + q) 5 * s.sEff p * acc / 65536 else s.reg (0x6100 + q) 5 * s.sEff p / 256

/-- The open acceptance in effect: the lesser of the cap's and the throttle's (R464, R470). -/
def State.acceptance (s : State) : Nat := min s.power.acc s.power.accT

/-- A ready grain that egress p may send now. -/
def State.sendable (s : State) (p : Nat) (noMirror : Bool) (g : OpenGrain) : Bool :=
  g.outPort == p && s.hasCredit p g.grain.vc.toNat && (g.grain.vc != 3 || noMirror)

/-- VC0 and VC2 count against the open acceptance. -/
def isShed (g : Grain) : Bool := g.vc == 0 || g.vc == 2

/-- The table in force in a span gives a partition a reserved slot on an egress. -/
def State.ownsSlot (s : State) (span p q : Nat) : Bool :=
  (List.range s.slots).any fun k => s.slotClass span p true k == (1, q)

/-- The pushed grain of a partition that waits first at an egress, if it may go at a grain offset of the running span: no
earlier than its claim (R71, R72). -/
def State.pushedNext (s : State) (p q offset : Nat) : Option OpenGrain :=
  match s.xbar.pushOpen.find? (fun c => c.port == p && c.part == q) with
  | some c =>
    if c.wait ≤ s.clock.span ∧ (c.span < s.clock.span ∨ (c.span = s.clock.span ∧ c.offset ≤ offset)) then
      some { grain := c.grain, inPort := p, outPort := p }
    else none
  | none => none

/-- The next grain of a partition in an open grain time: from its pushed grains in a span that gives it no reserved slot, else
one of each channel in turn (R72, R286). -/
def State.nextOf (s : State) (p q offset : Nat) (noMirror : Bool) (v : Serve) (ok : Grain → Bool) : Option OpenGrain :=
  match (s.pushedNext p q offset).filter (fun _ => !s.ownsSlot s.clock.span p q) with
  | some g => some g
  | none =>
    let l := s.xbar.ready.filter fun g => s.sendable p noMirror g && g.grain.part.toNat == q && ok g.grain
    let last := tget v.turns q 7
    let after := l.filter fun g => decide (last < g.grain.vc.toNat)
    let pool := if after.isEmpty then l else after
    pool.foldl (fun b g =>
      match b with
      | none => some g
      | some x => if g.grain.vc.toNat < x.grain.vc.toNat then some g else b) none

/-- One grain time of serve_open: the first loop goes on from its place, then the second. -/
def State.firstLoop (s : State) (p offset k acc : Nat) (noMirror : Bool) : Nat → Serve → Option (OpenGrain × Serve)
  | 0, _ => none
  | fuel + 1, v =>
    if 64 ≤ v.pos then none
    else
      let q := (k + v.pos) % 64
      let any := s.nextOf p q offset noMirror v (fun _ => true)
      let free := if acc < 256 then s.nextOf p q offset noMirror v (fun g => !isShed g) else none
      let pick := if v.used < s.grant p q acc then any else free
      match pick with
      | some g =>
        some (g, { v with used := if acc < 256 ∧ !isShed g.grain then v.used else v.used + 1, last := q,
                          turns := tset v.turns q g.grain.vc.toNat })
      | none => s.firstLoop p offset k acc noMirror fuel { v with pos := v.pos + 1, used := 0 }

def State.secondLoop (s : State) (p offset acc : Nat) (noMirror : Bool) (v : Serve) : Option (OpenGrain × Serve) :=
  let ok (g : Grain) : Bool := 256 ≤ acc || !isShed g
  let order := (List.range 64).map fun i => (v.last + 1 + i) % 64
  match order.find? (fun q => (s.nextOf p q offset noMirror v ok).isSome) with
  | none => none
  | some q => (s.nextOf p q offset noMirror v ok).map fun g => (g, { v with last := q, turns := tset v.turns q g.grain.vc.toNat })

/-- The grain that an open grain time of egress p carries. -/
def State.chooseOpen (s : State) (p offset : Nat) : Option (OpenGrain × Serve) :=
  let k := s.clock.span * s.slots + s.clock.slot
  let v0 := tget s.xbar.serve p {}
  let v := if v0.slot = k then v0 else { v0 with slot := k, pos := 0, used := 0, sent := 0 }
  let acc := s.acceptance
  let noMirror := !s.hasMirror p true
  match s.firstLoop p offset k acc noMirror 65 v with
  | some x => some x
  | none => s.secondLoop p offset acc noMirror { v with pos := 64 }

/-- A VC3 grain is queued for a port: at its input, in a tile, or released (R37). -/
def State.mirrorQueued (s : State) (p : Nat) : Bool :=
  s.xbar.ready.any (fun g => g.outPort == p && g.grain.vc == 3) || s.xbar.waiting.any (fun g => g.outPort == p && g.grain.vc == 3) ||
  (s.reseqOf p).any fun e => e.vc == 3 && e.grain.isSome

/-- The grain that a grain time of egress p carries: a reserved slot its owner's pushed grains that wait, a mirror slot VC3
while any is queued; lent grain times serve as open ones (R37, R39, R40, R72). -/
def State.chooseGrain (s : State) (p slot offset : Nat) : Option (OpenGrain × Serve) :=
  let x := s.slotClass s.clock.span p true slot
  let c := x.1
  if c = 1 then (s.pushedNext p x.2 offset).map fun g => (g, tget s.xbar.serve p {})
  else if c = 3 then
    match s.xbar.ready.find? (fun g => g.outPort == p && g.grain.vc == 3 && s.hasCredit p 3) with
    | some g => some (g, tget s.xbar.serve p {})
    | none => if s.mirrorQueued p then none else s.chooseOpen p offset
  else if c = 2 ∧ s.testHolds p true then none
  else s.chooseOpen p offset

/-- A pushed grain that waits for a grain time (R72). -/
def isPushed (g : OpenGrain) (c : Claim) : Bool := c.port == g.outPort && c.grain == g.grain

def State.takeReady (s : State) (g : OpenGrain) : State :=
  { s with xbar := { s.xbar with ready := s.xbar.ready.erase g, pushOpen := ldrop s.xbar.pushOpen (isPushed g) } }

/-- A scheduled grain has the grain time: its claim stands there, or it has been released to it (R33, R66). -/
def State.timeTaken (s : State) (p offset : Nat) : Bool :=
  s.xbar.claims.any (fun c => c.port == p && c.span == s.clock.span && c.offset == offset) ||
  s.xbar.pushes.any (fun e => e.1 / 64 == p && e.2.span == s.clock.span && e.2.offset == offset)

/-! ### Egress gates of scheduled grains (R14 to R18, R71 to R75) -/

/-- A grain time of an egress in a reserved slot of a partition. -/
def State.reservedAt (s : State) (p part t : Nat) : Bool :=
  let span := t / s.spanLen
  let off := t % s.spanLen
  s.canCarry p off && s.slotClass span p true (off / s.slotLen) == (1, part)

/-- First such grain time from t on. -/
def State.findReserved (s : State) (p part : Nat) : Nat → Nat → Option Nat
  | 0, _ => none
  | n + 1, t => if s.reservedAt p part t then some t else s.findReserved p part n (t + 1)

/-- A push of a claim of span c has come into span sp, which has no reserved slot of the partition (R72). -/
def State.carriedOver (s : State) (p part c sp : Nat) : Bool :=
  decide (c < sp) && !s.ownsSlot sp p part

/-- Where a push puts a grain: the next reserved grain time of its span or of the next; none: it waits (R71, R72). -/
def State.pushTime (s : State) (p part c from_ : Nat) : Option Nat :=
  let sp := from_ / s.spanLen
  if s.carriedOver p part c sp then none
  else s.findReserved p part (2 * s.spanLen - from_ % s.spanLen) from_

/-- The minimum slack of a quarter falls to v: in the running span, held, and since the last control interval (R17, R18). -/
def State.lowerSlack (s : State) (q v : Nat) : State :=
  let s := { s with
    clock := { s.clock with slackNow := tset s.clock.slackNow q (min v (tget s.clock.slackNow q 32)) },
    power := { s.power with slackMin := min v s.power.slackMin } }
  s.setReg 0x4030 (5 + q) (min v (s.reg 0x4030 (5 + q)))

/-- A slack that a gate has measured (R17, Table 18.3). -/
def State.slackSample (s : State) (q v : Nat) : State :=
  let s := s.lowerSlack q v
  if v ≤ 4 then s.quarterTally q 1 1 else s

/-- An overrun of a quarter's gate (R15, R74, R75, Table 2.13): it is no slack, and leaves the minimum at 0 (R17). -/
def State.overrun (s : State) (q stage port part slot late : Nat) (sustained : Bool) : State :=
  let detail := put q 31 30 + put port 29 24 + put slot 23 13 + put stage 12 10 + min late 1023
  let s := s.lowerSlack q 0
  let s := { s with power := { s.power with overruns := s.power.overruns + 1 } }
  let s := ((s.quarterTally q 0 1).addReg 0x4031 1 64 1).setReg 0x4031 2 s.clock.span
  let s := (s.setReg 0x4031 3 detail).exception 1 port part slot
  (s.trace 2 5 port none q detail).fault 0x09 2 q St.spanOverrun detail 1 (some part) false sustained

/-- A VC5 grain's context, for the tagged sets. -/
def State.tagSched (s : State) (g : Grain) (p c : Nat) : State :=
  if g.vc = 5 then s.tagTally g.context (some p) c 1 else s

/-- What leaving a port counts for the tagged sets (Table 18.5). -/
def State.tagSent (s : State) (g : Grain) (p : Nat) : State :=
  match g.op.toNat with
  | 2 => s.tagSched g p 2
  | 3 => s.tagSched g p 2
  | 4 => s.tagSched g p 3
  | 5 => s.tagSched g p 5
  | 6 => s.tagSched g p 6
  | _ => s

/-- A push has become sustained without a new overrun: the report of the overrun that began it takes the flag; where it has
left already, a new event says so (R75, log 171). -/
def State.sustain (s : State) (q port part slot back : Nat) : State :=
  let same (f : FaultRep) : Bool := f.kind == 0x09 && f.subjId == q && !f.closing
  let mark (l : List FaultRep) : List FaultRep := lmod l same fun f => { f with sustained := true }
  let x := s.faults
  if (x.windows ++ x.queue ++ x.waiting).any same then
    { s with faults := { x with windows := mark x.windows, queue := mark x.queue, waiting := mark x.waiting } }
  else s.fault 0x09 2 q St.spanOverrun (put q 31 30 + put port 29 24 + put slot 23 13 + min back 1023) 1 (some part) false true

/-- A scheduled grain of a partition is put at a span and offset of an egress, `back` grain times behind its claim: the push
that it stands in, its greatest backlog, and whether it is sustained (R71, R75).  DESIGN CHOICE (log 171): the backlog of a
push is how far its grain leaves behind its claim.  `origin` is the quarter whose overrun `own` is reported already. -/
def State.notePush (s : State) (c : Claim) (span offset back : Nat) (origin : Option Nat) (own : Bool) : State :=
  let key := 64 * c.port + c.part
  let x := tget s.xbar.pushes key {}
  let goes := decide (0 < x.backlog)
  let quarter := if own then origin else if goes then x.quarter else origin
  let is := decide (s.slotLen < back)
  let s := s.setReg 0x4031 4 (max (s.reg 0x4031 4) (min back 65535))
  let s := { s with xbar := { s.xbar with
    pushes := tset s.xbar.pushes key ⟨span, offset, back, if back = 0 then none else quarter, is⟩ } }
  match quarter with
  | some q => if is && !own && !(goes && x.sustained) then s.sustain q c.port c.part (c.offset / s.slotLen) back else s
  | none => s

/-- A scheduled grain leaves its port, `back` grain times behind its claim. -/
def State.sendSched (s : State) (c : Claim) (span offset back : Nat) : State :=
  let s := if 0 < back then ((s.portTally c.port 33 1).partTally c.part 15 1).tagSched c.grain c.port 12 else s
  (s.tagSent c.grain c.port).sendOut c.port c.grain span offset

/-- A pushed grain that waited leaves in a grain time of the running span (R72). -/
def State.sendPushed (s : State) (c : Claim) (offset : Nat) : State :=
  let back := s.grainTime offset - (c.span * s.spanLen + c.offset)
  (s.notePush c s.clock.span offset back c.quarter false).sendSched c s.clock.span offset back

/-- A released scheduled grain leaves `late` grain times after its claim, or where the push puts it.  What it inherited is no
overrun, and it cannot leave before it; behind a grain that waits it waits too (R14, R15, R71 to R75). -/
def State.release5 (s : State) (q stage : Nat) (c : Claim) (late slack : Nat) : State :=
  let p := c.port
  let late := max late c.inherited
  let own := late - c.inherited
  let claim := c.span * s.spanLen + c.offset
  let key := 64 * p + c.part
  let slot := c.offset / s.slotLen
  let busy := tget s.xbar.pushes key {}
  let from_ := max (claim + late) (if thas s.xbar.pushes key then busy.span * s.spanLen + busy.offset + 1 else 0)
  let behind := s.xbar.pushOpen.any fun x => x.port == p && x.part == c.part
  let at_ := if behind then none
    else if from_ = claim ∧ s.canCarry p c.offset then some claim else s.pushTime p c.part c.span from_
  let sp := from_ / s.spanLen
  let wait := if behind then c.span else if s.carriedOver p c.part c.span sp then sp else sp + 1
  let back := match at_ with
    | some t => t - claim
    | none => max late (wait * s.spanLen - claim)
  let s :=
    if own = 0 then s.slackSample q slack
    else s.overrun q stage p c.part slot own (decide (s.slotLen < back))
  let s := if c.board ∧ 0 < c.inherited then (s.addReg 0x4031 5 64 1).exception 2 p c.part slot else s
  let s := if !s.canCarry p c.offset ∧ s.sevenTx p then s.exception 5 p c.part slot else s
  if s.aged c.grain then s.discardAged p c.grain
  else if !s.portUp p then s.refuseGrain c.grain St.targetLost
  else
    let origin := if own = 0 then none else some q
    match at_ with
    | none =>
      let s := s.notePush c c.span c.offset back origin (decide (own ≠ 0))
      let quarter := (tget s.xbar.pushes key {}).quarter
      { s with xbar := { s.xbar with pushOpen := s.xbar.pushOpen ++ [{ c with wait, quarter }] } }
    | some t =>
      let s := s.notePush c (t / s.spanLen) (t % s.spanLen) back origin (decide (own ≠ 0))
      s.sendSched c (t / s.spanLen) (t % s.spanLen) back

/-- A write to HELD_MIN_Qq (R18): 0x01 resets the minimum to 32. -/
def heldMinEffect (sub : Nat) : Effect := fun _ v s => done (if leNat v = 1 then s.setReg 0x4030 sub 32 else s)

/-- HELD_MIN_RESET (R18). -/
def execHeldMinReset (r : Route) (q : Quarter) (v : Bytes) (s : State) : Out :=
  .next (s.rowWrite r 0x4030 (5 + q.val) v (heldMinEffect (5 + q.val)))

end Sys2Proof.Machine
end

