-- ==== Sys2Proof/Machine/Schedule.lean ====
section
/-! DEFINITION. Span tables: reading an image, its validation, loading, activation and cancelling; route loads; alignment
across the fabric (01 R25, 02 R50 to R70, 03 R103, 09 R315, 10 R339, R566, 16 R477, R485, 17 R500, R501). -/

namespace Sys2Proof.Machine

open Sys2Proof

/-! ### Reading images from the table area (R566, R337) -/

/-- The status that a load gets when its image cannot be read: past the table area, or an uncorrectable chunk. -/
def State.imageFault (s : State) (off len : Nat) (malformed : Nat) : Option Nat :=
  if s.reg 0x6300 8 < off + len then some malformed
  else if s.ep.home.anyBad (s.reg 0x6300 1 + off) len then some St.dataLost
  else none

/-- Octets of the table area. -/
def State.tableBytes (s : State) (off len : Nat) : Bytes := s.ep.home.read (s.reg 0x6300 1 + off) len

/-! ### The span table image (R58 to R61) -/

/-- Ports present under a split mask, and port 48 (R43). -/
def presentPorts (split : Nat) : List Nat :=
  ((List.range 24).flatMap fun n => if bit split n then [2 * n, 2 * n + 1] else [2 * n]) ++ [48]

def SpanTable.slots (t : SpanTable) : Nat := 2 ^ (t.spanLog - t.slotLog)
def SpanTable.slotLen (t : SpanTable) : Nat := 2 ^ t.slotLog
def SpanTable.spanLen (t : SpanTable) : Nat := 2 ^ t.spanLog
def SpanTable.isHalf (t : SpanTable) (p : Nat) : Bool := p != 48 && bit t.splitMask (p / 2)
def SpanTable.mapOf (t : SpanTable) (p : Nat) (egress : Bool) : Option SlotMap :=
  t.maps.find? fun m => m.port == p && m.egress == egress
def SpanTable.slotOf (t : SpanTable) (p : Nat) (egress : Bool) (slot : Nat) : Nat × Nat :=
  match t.mapOf p egress with
  | some m => m.slots.getD slot (0, 0)
  | none => (0, 0)

/-- Octets of one slot map. -/
def mapSize (slots : Nat) : Nat := 8 + (2 * slots + 7) / 8 * 8

/-- One slot map; an entry names an owner only where its slot is reserved (Table 2.6). -/
def parseMap (img : Bytes) (off slots : Nat) : SlotMap × Nat :=
  let h := leAt img off 8
  ({ port := fld h 5 0, egress := bit h 7,
     slots := (List.range slots).map fun k =>
       let e := leAt img (off + 8 + 2 * k) 2
       (fld e 15 14, if fld e 15 14 = 1 then fld e 13 8 else 0) }, fld h 23 8)

def parseRoute (x : Nat) : RouteRec :=
  { inPort := fld x 127 122, inSlot := fld x 121 111, outMask := fld x 110 62, part := fld x 61 56, toBoard := bit x 55,
    ctx := fld x 54 50 }

def parseBoard (x : Nat) : BoardRec :=
  { slot := fld x 127 117, ctx := fld x 116 112, quarters := fld x 111 108, role := fld x 107 105, part := fld x 104 99,
    outMask := fld x 98 50 }

/-- A section lies on a 64-octet boundary, behind the arrival section and inside the image. -/
def sectionOk (off size len : Nat) : Bool :=
  off % 64 == 0 && (size == 0 || (decide (192 ≤ off) && decide (off + size ≤ len)))

/-- The header's fields are in range (first test of R65); img is the whole image. -/
def headerOk (img : Bytes) : Bool :=
  let h := leAt img 0 128
  let len := fld h 127 96
  let spanLog := fld h 51 48
  let slotLog := fld h 54 52
  let slots := 2 ^ (spanLog - slotLog)
  fld h 31 0 == 0x4E505341 && fld h 47 40 == 1 && decide (9 ≤ spanLog) && decide (spanLog ≤ 14) && decide (3 ≤ slotLog) &&
  decide (slotLog ≤ 7) && decide (slotLog + 3 ≤ spanLog) && decide (192 ≤ len) && decide (len ≤ 0x400000) &&
  fld h 239 224 == 2 * (presentPorts (fld h 95 72)).length && decide (fld h 319 288 ≤ 100352) &&
  decide (fld h 255 240 ≤ slots) && fld h 359 352 != 0 &&
  sectionOk (fld h 223 192) (fld h 239 224 * mapSize slots) len && sectionOk (fld h 287 256) (16 * fld h 319 288) len &&
  sectionOk (fld h 351 320) (16 * fld h 255 240) len

/-- The table that an image holds, with the ENTRY_COUNT of each map. -/
def parseTable (img : Bytes) : SpanTable × List Nat :=
  let h := leAt img 0 128
  let slots := 2 ^ (fld h 51 48 - fld h 54 52)
  let maps := (List.range (fld h 239 224)).map fun m => parseMap img (fld h 223 192 + m * mapSize slots) slots
  ({ serial := fld h 191 128, spanLog := fld h 51 48, slotLog := fld h 54 52, splitMask := fld h 95 72, swEp := fld h 69 56,
     minGuard := fld h 359 352, digest := fld h 1023 512,
     arrivals := (List.range 24).map fun n => toSigned 16 (leAt img (128 + 2 * n) 2),
     maps := maps.map (·.1),
     routes := (List.range (fld h 319 288)).map fun r => parseRoute (leAt img (fld h 287 256 + 16 * r) 16),
     boards := (List.range (fld h 255 240)).map fun b => parseBoard (leAt img (fld h 351 320 + 16 * b) 16),
     image := img }, maps.map (·.2))

/-! ### Claims (R45, R46, R62, R65, R66) -/

/-- A claim: egress port, grain time modulo the span, and whether it leaves in the carry-over window of the next span. -/
abbrev ClaimAt := Nat × Nat × Bool

/-- Arrival offset of an ingress port as the table was built for. -/
def SpanTable.arrivalOf (t : SpanTable) (p : Nat) : Int := if p = 48 then 0 else t.arrivals.getD (p / 2) (-32768)

/-- Grain positions of a slot at a port. -/
def SpanTable.positions (t : SpanTable) (p : Nat) : List Nat :=
  if t.isHalf p then (List.range (t.slotLen / 2)).map (2 * ·) else List.range t.slotLen

def SpanTable.routeClaims (t : SpanTable) (r : RouteRec) : List ClaimAt :=
  (t.positions r.inPort).flatMap fun i =>
    let at_ := ((t.arrivalOf r.inPort + (r.inSlot * t.slotLen + i : Nat)) % (t.spanLen : Int)).toNat + 2 * t.slotLen + 8
    (maskBits r.outMask 49).map fun o => (o, at_ % t.spanLen, decide (t.spanLen ≤ at_))

/-- First grain time of a record's output window, from the start of its span (R46). -/
def BoardRec.window (b : BoardRec) (slotLen : Nat) : Nat := (b.slot + (if b.role = 1 then 6 else 2)) * slotLen + 8

/-- Board slot 0 of ACTIVATE_SPAN runs under the old record, so its output counts as carry-over too (R66). -/
def SpanTable.boardClaims (t : SpanTable) (b : BoardRec) : List ClaimAt :=
  (maskBits b.outMask 49).flatMap fun o => (t.positions o).map fun i =>
    let at_ := b.window t.slotLen + i
    (o, at_ % t.spanLen, decide (t.spanLen ≤ at_) || b.slot == 0)

/-- Claims taken: per egress port the grain times, and those of them that carry over. -/
structure Taken where
  all : Tab Nat := []
  carry : Tab Nat := []

def Taken.has (c : Taken) (o t : Nat) : Bool := bit (tget c.all o 0) t

def Taken.add (c : Taken) (x : ClaimAt) : Taken :=
  { all := tmod c.all x.1 0 (· + 2 ^ x.2.1), carry := if x.2.2 then tmod c.carry x.1 0 (· + 2 ^ x.2.1) else c.carry }

/-- A claim can be taken: free, reserved for the partition, and at a grain time that the egress carries (R315). -/
def State.claimOk (s : State) (t : SpanTable) (part : Nat) (c : Taken) (x : ClaimAt) : Bool :=
  !c.has x.1 x.2.1 && t.slotOf x.1 true (x.2.1 / t.slotLen) == (1, part) && !(t.isHalf x.1 && x.2.1 % 2 == 1) &&
  !(s.sevenTx x.1 && x.2.1 % 8 == 7)

/-- Take a record's claims in order; none: one of them cannot be taken. -/
def State.takeClaims (s : State) (t : SpanTable) (part : Nat) : List ClaimAt → Taken → Option Taken
  | [], c => some c
  | x :: l, c => if s.claimOk t part c x then s.takeClaims t part l (c.add x) else none

/-! ### Validation (R65) -/

/-- A failure: status and DETAIL. -/
abbrev Fail := Nat × Nat

/-- Some run of 8 cyclically consecutive slots holds no open slot (R38). -/
def breaksOpen (m : SlotMap) : Bool :=
  let n := m.slots.length
  (List.range n).any fun k => (List.range 8).all fun i => (m.slots.getD ((k + i) % n) (0, 0)).1 != 0

/-- First failing map: entry count, port set, open slots. -/
def checkMaps (t : SpanTable) (counts : List Nat) : Option Fail :=
  let present := presentPorts t.splitMask
  (List.range t.maps.length).findSome? fun m =>
    let x := t.maps.getD m {}
    if counts.getD m 0 ≠ t.slots ∨ !present.contains x.port ∨
       (t.maps.take m).any (fun y => y.port == x.port && y.egress == x.egress) then some (St.tableInvalid, m)
    else if breaksOpen x then some (St.slotConflict, m)
    else none

/-- Starts of the refresh windows, taken in order from slot 0, each of the least length (R339, log 16). -/
def SpanTable.windowStarts (t : SpanTable) : Nat → Nat → List Nat
  | 0, _ => []
  | fuel + 1, k =>
    let n := t.slots
    let w := ceilDiv 400 t.slotLen
    if n ≤ k then []
    else if (t.slotOf 48 true k).1 = 2 ∧ (List.range w).all (fun i =>
        (t.slotOf 48 true ((k + i) % n)).1 != 1 && (t.slotOf 48 false ((k + i) % n)).1 != 1) then
      k :: t.windowStarts fuel (k + w)
    else t.windowStarts fuel (k + 1)

/-- The refresh windows: a run that would reach, across the span boundary, into the first one is no window (R339, log 16). -/
def SpanTable.windows (t : SpanTable) : List Nat :=
  let l := t.windowStarts t.slots 0
  l.filter fun k => decide (k + ceilDiv 400 t.slotLen ≤ l.headD 0 + t.slots)

/-- Every window follows the one before it, cyclically, by at most 3.9 µs, 5,200 grain times. -/
def SpanTable.windowsOk (t : SpanTable) : Bool :=
  let l := t.windows
  match l, l.getLast? with
  | a :: r, some z =>
    decide ((a + t.slots - z) * t.slotLen ≤ 5200) && ((a :: r).zip r).all fun x => decide ((x.2 - x.1) * t.slotLen ≤ 5200)
  | _, _ => false

/-- The pair link has no mirror slot in some direction (R500, log 33). -/
def State.pairUnserved (s : State) (t : SpanTable) : Bool :=
  let l := s.reg 0xB010 2
  l != 0xFF &&
  [true, false].any fun egress => !((t.maps.filter fun m => m.port / 2 == l && m.egress == egress && m.port != 48).any fun m =>
    m.slots.any fun x => x.1 == 3)

/-- Index of port 48's egress map, which names a failure of R339 and, as DESIGN CHOICE (log 33), one of R500. -/
def SpanTable.map48 (t : SpanTable) : Nat := t.maps.findIdx fun m => m.port == 48 && m.egress

def State.checkRoute (s : State) (t : SpanTable) (i : Nat) (r : RouteRec) (c : Taken) : Except Fail Taken :=
  let present := presentPorts t.splitMask
  if t.slots ≤ r.inSlot ∨ !present.contains r.inPort ∨ (maskBits r.outMask 49).any (fun o => !present.contains o) ∨
     (r.toBoard ∧ r.outMask ≠ 0) then .error (St.tableInvalid, i)
  else if t.arrivalOf r.inPort = -32768 then .error (St.tableInvalid, i)
  else if (t.routes.take i).any (fun x => x.inPort == r.inPort && x.inSlot == r.inSlot) then .error (St.slotConflict, i)
  else if t.slotOf r.inPort false r.inSlot ≠ (1, r.part) then .error (St.slotConflict, i)
  else
    match s.takeClaims t r.part (t.routeClaims r) c with
    | some c => .ok c
    | none => .error (St.slotConflict, i)

def State.checkBoard (s : State) (t : SpanTable) (i : Nat) (b : BoardRec) (c : Taken) : Except Fail Taken :=
  let present := presentPorts t.splitMask
  if s.reg 0x1020 1 = 0 then .error (St.featureAbsent, i)
  else if t.slots ≤ b.slot ∨ 3 < b.role ∨ (maskBits b.outMask 49).any (fun o => !present.contains o) then
    .error (St.tableInvalid, i)
  else if (t.boards.take i).any (fun x => x.slot == b.slot) then .error (St.slotConflict, i)
  else if (maskBits b.quarters 4).any (fun q => tget s.power.quarters q 0 != 1) then .error (St.tableInvalid, i)
  else
    match s.takeClaims t b.part (t.boardClaims b) c with
    | some c => .ok c
    | none => .error (St.slotConflict, i)

/-- Check the records of a list in order, taking their claims. -/
def checkAll {α : Type} (f : Nat → α → Taken → Except Fail Taken) : Nat → List α → Taken → Except Fail Taken
  | _, [], c => .ok c
  | i, r :: l, c =>
    match f i r c with
    | .ok c => checkAll f (i + 1) l c
    | .error e => .error e

/-- Unclaimed reserved grain times of a partition on an egress (R62). -/
def SpanTable.guard (t : SpanTable) (c : Taken) (m : SlotMap) (part : Nat) : Nat :=
  let slots := (List.range t.slots).filter fun k => m.slots.getD k (0, 0) == (1, part)
  slots.foldl (fun n k => n + ((t.positions m.port).filter fun i => !c.has m.port (k * t.slotLen + i)).length) 0

/-- First egress map on which some partition with reserved slots has too few guard grain times. -/
def SpanTable.checkGuard (t : SpanTable) (c : Taken) : Option Fail :=
  (List.range t.maps.length).findSome? fun k =>
    let m := t.maps.getD k {}
    if m.egress && (List.range 64).any (fun p => m.slots.contains (1, p) && decide (t.guard c m p < t.minGuard)) then
      some (St.slotConflict, k)
    else none

/-- All claims of a table, checked or not. -/
def SpanTable.claims (t : SpanTable) : Taken :=
  (t.routes.flatMap t.routeClaims ++ t.boards.flatMap t.boardClaims).foldl
    (fun c x => if c.has x.1 x.2.1 then c else c.add x) {}

/-- Claims of the new table in ACTIVATE_SPAN that collide with the active table's carry-over (R66). -/
def carryCollides (old new : Taken) : Bool :=
  new.all.any fun e => (e.2 - tget new.carry e.1 0) &&& tget old.carry e.1 0 != 0

/-- Contexts that are PREPARED, RESIDENT or QUIESCING. -/
def State.busyContexts (s : State) : List (Nat × Context) := s.board.ctxs.filter fun e => e.2.state != 0

def Context.part (c : Context) : Nat := fld c.desc.toNat 22 17

/-- The new table changes a reserved slot or a board record of a context that is not FREE (R67). -/
def changesContext (old new : SpanTable) (k : Nat) (c : Context) : Bool :=
  (old.maps.any fun m => (List.range old.slots).any fun i =>
    m.slots.getD i (0, 0) == (1, c.part) && new.slotOf m.port m.egress i != (1, c.part)) ||
  (old.boards.any fun b => b.ctx == k && !new.boards.contains b) ||
  (new.boards.any fun b => b.ctx == k && !old.boards.contains b)

/-- The last two checks: carry-over and contexts that are not FREE (R66, R67, R70). -/
def State.checkActive (s : State) (t : SpanTable) (c : Taken) : Option Fail :=
  let same := t.spanLog == s.sched.spanLog && t.slotLog == s.sched.slotLog
  let busy := s.busyContexts
  match s.sched.active with
  | none => if !same && !busy.isEmpty then some (St.slotConflict, 0) else none
  | some old =>
    if same && carryCollides old.claims c then some (St.slotConflict, 0)
    else if !busy.isEmpty && (!same || busy.any (fun e => changesContext old t e.1 e.2)) then some (St.slotConflict, 0)
    else none

/-- First link whose arrival offset, or whose fixed split, differs from the image's. -/
def State.checkLinks (s : State) (t : SpanTable) : Option Fail :=
  let now (n : Nat) : Int := tget s.clock.offsets n (-32768)
  match (List.range 24).find? (fun n => t.arrivals.getD n 0 != now n) with
  | some n => some (St.tableInvalid, n)
  | none =>
    ((List.range 24).find? fun n => match (s.link n).split with
      | some b => b != bit t.splitMask n
      | none => false).map fun n => (St.tableInvalid, n)

/-- validate of R65: the table, or the first failure.  DESIGN CHOICE (log 33): the pair link's mirror slots (R500) are checked
with the refresh windows (R339), behind the maps and before the routes. -/
def State.validate (s : State) (img : Bytes) : Except Fail SpanTable :=
  if !headerOk img then .error (St.tableInvalid, 0)
  else
    let x := parseTable img
    let t := x.1
    if sha3n (img.drop 128) ≠ t.digest then .error (St.tableInvalid, 0)
    else
      match s.checkLinks t with
      | some e => .error e
      | none =>
        match checkMaps t x.2 with
        | some e => .error e
        | none =>
          if !t.windowsOk || s.pairUnserved t then .error (St.slotConflict, t.map48)
          else
            match checkAll (s.checkRoute t) 0 t.routes {} with
            | .error e => .error e
            | .ok c =>
              match checkAll (s.checkBoard t) 0 t.boards c with
              | .error e => .error e
              | .ok c =>
                match t.checkGuard c with
                | some e => .error e
                | none =>
                  match s.checkActive t c with
                  | some e => .error e
                  | none => .ok t

/-! ### Loading, cancelling and activation (R63 to R70) -/

/-- RESULT, DETAIL and LOAD_STATE of 4010. -/
def State.tableResult (s : State) (state result detail : Nat) : State :=
  ((s.setReg 0x4010 4 state).setReg 0x4010 5 result).setReg 0x4010 6 detail

/-- A load is refused (R65), or its table is discarded (R57, R68, R69). -/
def State.dropTable (s : State) (result detail : Nat) : State :=
  let s := (s.tableResult 4 result detail).setReg 0x4010 9 0
  { s with sched := { s.sched with pending := none, lastLoad := 2 } }

/-- A write of 1 to 4010:01 (R63, R64). -/
def spanTableEffect : Effect := fun r v s =>
  if s.reg 0x4010 4 = 1 ∨ s.reg 0x4010 4 = 2 ∨ s.reg 0x4010 4 = 3 then refuse s St.loadBusy
  else
    let x := s.startStep r 0x4010 1 (leNat v)
    if x.2.1 = St.stepPending then
      ({ x.1 with sched := { x.1.sched with lastLoad := 1 } }.setReg 0x4010 4 1, x.2)
    else x

/-- SPAN_TABLE_LOAD (R63). -/
def execSpanTableLoad (r : Route) (v : Bytes) (s : State) : Out := .next (s.rowWrite r 0x4010 1 v spanTableEffect)

/-- Status with which the load of an image fails to be read, its declared length, and its octets. -/
def State.tableImage (s : State) (off : Nat) : Except Nat Bytes :=
  match s.imageFault off 128 St.tableInvalid with
  | some e => .error e
  | none =>
    let len := leAt (s.tableBytes off 128) 12 4
    if 0x400000 < len ∨ len < 192 then .error St.tableInvalid
    else
      match s.imageFault off len St.tableInvalid with
      | some e => .error e
      | none => .ok (s.tableBytes off len)

/-- The last step of a span table load: validation, then pending, or refused (R65, R68). -/
def State.runTableLoad (s : State) : State :=
  let fail (s : State) (st detail : Nat) : State := (s.dropTable st detail).endStep 0x4010 1 st
  match s.tableImage (s.reg 0x4010 2) with
  | .error st => fail s st (if st = St.dataLost then 0xFFFFFFFF else 0)
  | .ok img =>
    match s.validate img with
    | .error e => fail s e.1 e.2
    | .ok t =>
      let at_ := s.reg 0x4010 3
      if s.clock.align ≠ 2 ∨ at_ < s.clock.span + 2 then fail s St.activationLate 0xFFFFFFFF
      else
        let s := (s.tableResult 2 St.ok 0xFFFFFFFF).setReg 0x4010 9 t.digest
        { s with sched := { s.sched with pending := some t, activateAt := at_ } }.endStep 0x4010 1 St.ok

/-- A write of 1 to CANCEL 4010:07 (R69): in time before the edge that begins ACTIVATE_SPAN. -/
def spanCancelEffect : Effect := fun _ _ s =>
  if s.reg 0x4010 4 = 2 ∧ s.clock.span < s.sched.activateAt then
    done (({ s with sched := { s.sched with pending := none, lastLoad := 3 } }.setReg 0x4010 4 0).setReg 0x4010 9 0)
  else if s.reg 0x4010 4 = 2 ∨ s.reg 0x4010 4 = 3 ∨ (s.reg 0x4010 4 = 0 ∧ s.sched.lastLoad = 4) then refuse s St.activationLate
  else refuse s St.valueRefused

/-- SPAN_TABLE_CANCEL (R69). -/
def execSpanTableCancel (r : Route) (v : Bytes) (s : State) : Out := .next (s.rowWrite r 0x4010 7 v spanCancelEffect)

/-- Mirror an image to the partner as a stream of 256-octet pieces (Table 17.1). -/
def State.mirrorImage (s : State) (stream : Nat) (img : Bytes) : State :=
  (Machine.pieces 256 ((img.length + 255) / 256) img).zipIdx.foldl (fun s (d, k) => s.pairSend stream k d) s

/-- The program digest of a table (R485). -/
def State.programDigest (s : State) (t : SpanTable) : Nat :=
  sha3n ([3] ++ natLe 64 (s.reg 0xA030 2) ++ natLe 64 t.digest ++ natLe 1 t.spanLog ++ natLe 1 t.slotLog ++ natLe 3 t.splitMask)

/-- The switch to a table on the edge that begins ACTIVATE_SPAN (R69, R70, R56, R340, R485, R501). -/
def State.activate (s : State) (t : SpanTable) : State :=
  let same := t.spanLog == s.sched.spanLog && t.slotLog == s.sched.slotLog
  let s := { s with
    sched := { s.sched with
      previous := s.sched.active, active := some t, pending := none, switchedAt := some s.clock.span, inTransition := !same,
      lastLoad := 4 },
    clock := { s.clock with refuseAll := false, refuse := [], timedRefresh := false, trimArmed := [] } }
  let s := (((s.setReg 0x4010 4 (if same then 0 else 3)).setReg 0x4010 8 t.digest).setReg 0x4010 9 0).setReg 0x4010 0xA t.serial
  let d := s.programDigest t
  let s := ((s.setReg 0xB120 1 d).setReg 0xB120 2 t.serial).setReg 0xB120 3 s.clock.span
  (s.append { kind := 3, digest := d, reference := t.serial }).mirrorImage 3 t.image

/-- SPAN_TABLE_ACTIVATION (R69): the edge that begins ACTIVATE_SPAN; a device that is not aligned discards the table. -/
def execSpanTableActivation (s : State) : Out :=
  .next (match s.sched.pending with
    | none => s
    | some t =>
      if s.clock.span < s.sched.activateAt then s
      else if s.clock.align ≠ 2 then s.dropTable St.notAligned 0xFFFFFFFF
      else s.activate t)

/-- TRANSITION_SPAN_END (R70): at ACTIVATE_SPAN + 1 the new lengths and the new table take effect; grain times in the old
lengths name no grain time any more. -/
def execTransitionSpanEnd (s : State) : Out :=
  .next (match s.sched.active with
    | some t =>
      if s.sched.inTransition ∧ s.sched.switchedAt.any (fun a => decide (a < s.clock.span)) then
        let n := s.slots
        let m := 2 ^ (t.spanLog - t.slotLog)
        { s with
          sched := { s.sched with inTransition := false, spanLog := t.spanLog, slotLog := t.slotLog },
          xbar := { s.xbar with
            pushes := [], madeRoom := [], roomFull := [],
            buckets := s.xbar.buckets.map fun (e : Nat × Nat × Nat) => (e.1, (e.2.1 * m / n, e.2.2 * m / n)) } }.setReg 0x4010 4 0
      else s
    | none => s)

/-! ### Alignment (R51 to R57) -/

/-- RESULT, DETAIL and LOAD_STATE of an end-point's 4060. -/
def State.epResult (s : State) (w : EpSel) (state result detail : Nat) : State :=
  ((s.setEpReg w 0x4060 4 state).setEpReg w 0x4060 5 result).setEpReg w 0x4060 8 detail

/-- A load of an end-point schedule is refused, or a pending image is discarded. -/
def State.epDrop (s : State) (w : EpSel) (result detail : Nat) : State :=
  (s.epResult w 4 result detail).modEp w fun e => { e with schedPending := none, schedLast := 2 }

/-- An end-point's span counter has been set: a pending image whose ACTIVATE_SPAN it has reached is discarded (R69, R252). -/
def State.epCounterSet (s : State) (w : EpSel) : State :=
  let e := s.epOf w
  if e.schedPending.isSome ∧ e.schedAt ≤ s.epSpan w then s.epDrop w St.activationLate 0xFFFFFFFF else s

/-- The span counter takes a value, and a span that this breaks off leaves no slack (R18); a pending table whose
ACTIVATE_SPAN it has reached is discarded, and so is an image of the device's end-point (R69, R252). -/
def State.setCounter (s : State) (span : Nat) : State :=
  let s := { s with clock := { s.clock with span, slot := 0, slackNow := [] } }.epCounterSet .internal
  match s.sched.pending with
  | some _ => if s.sched.activateAt ≤ span then s.dropTable St.activationLate 0xFFFFFFFF else s
  | none => s

/-- ALIGN_STATE becomes 2 (R52, R53, R340, Table 16.7). -/
def State.becomeAligned (s : State) (span : Nat) : State :=
  let was := s.clock.align
  let s := { s with clock := { s.clock with align := 2, wasLost := false, marking := true, mark := none, timedRefresh := true } }.setCounter span
  if was = 2 then s else s.append { kind := 2, reference := span }

/-- A link is ACTIVE or DEGRADED: one of its ports is. -/
def State.linkUsable (s : State) (n : Nat) : Bool := decide (n < 24) && s.linkUp n

/-- A write to ALIGN_START (R31, R52, R53). -/
def alignEffect : Effect := fun _ v s =>
  if !s.clock.running then refuse s St.valueRefused
  else if s.reg 0x4000 5 = 1 then done { s with clock := { s.clock with startPending := some (leNat v) } }
  else if !s.linkUsable (s.reg 0x4000 6) then refuse s St.valueRefused
  else done { s with clock := { s.clock with align := 1, mark := none } }

/-- ALIGN_START (R52): on the master the counter takes the value at the next span boundary. -/
def execAlignStart (r : Route) (v : Bytes) (s : State) : Out := .next (s.rowWrite r 0x4000 7 v alignEffect)

/-- ALIGN_START_FOLLOWER (R53): the same write on a follower. -/
def execAlignStartFollower (r : Route) (v : Bytes) (s : State) : Out := .next (s.rowWrite r 0x4000 7 v alignEffect)

/-- ALIGN_LOST of a link: report and declared exception (R53, R56, Table 16.3). -/
def State.alignLost (s : State) (l : Nat) : State :=
  (s.fault 0x07 1 (2 * l) St.alignLost 0 2).exception 6 (2 * l) 0x7F s.clock.slot

/-- A follower's use of a parent marker with ALIGNED 1 while it aligns (R53, R56): `at_` is the marker's local time, in grain
times from the start of local span 0, less the fixed receive delay. -/
def State.followMark (s : State) (l span at_ : Nat) : State :=
  match s.clock.mark with
  | none => { s with clock := { s.clock with mark := some (span, at_) } }
  | some (n, a) =>
    if span = n + 1 ∧ at_ = a + s.spanLen then
      let moved := s.clock.wasLost && at_ != span * s.spanLen
      let s := s.becomeAligned span
      if moved then { s with clock := { s.clock with refuseAll := true } } else s
    else
      let s := { s with clock := { s.clock with mark := some (span, at_) } }
      if span = n + 1 then s.alignLost l else s

/-- The trim of a first measured offset against the link's target (R477): the offset that then holds. -/
def State.trimLink (s : State) (l : Nat) (measured : Int) : State × Int :=
  let target := toSigned 16 (tget s.clock.targets l 0x8000)
  let armed := s.clock.trimArmed.contains l
  let first := s.clock.unmeasured.contains l
  let s := { s with clock := { s.clock with
    trimArmed := s.clock.trimArmed.filter (· != l), unmeasured := s.clock.unmeasured.filter (· != l) } }
  let setTrim (s : State) (x : Nat) : State := { s with clock := { s.clock with trim := tset s.clock.trim l x } }
  if target = -32768 then (setTrim s 0, measured)
  else if target = measured then (setTrim s 1, measured)
  else if armed ∧ (target - measured).natAbs = 1 then
    (setTrim { s with clock := { s.clock with depth := tset s.clock.depth l ((4 + (target - measured)).toNat) } } 2, target)
  else if first then ((setTrim s 3).fault 0x16 1 (2 * l) St.ok (ofSigned 32 (target - measured)) 1, measured)
  else (setTrim s 3, measured)

/-- The check of the marker of a span against the link's offset: departures in two consecutive spans lose it (R56). -/
def State.checkOffset (s : State) (l span : Nat) (offset : Int) : State :=
  match s.clock.offsets.find? (fun e => e.1 == l) with
  | none => s
  | some e =>
    if (offset - e.2).natAbs ≤ 1 then { s with clock := { s.clock with departures := tdel s.clock.departures l } }
    else if !s.clock.departures.any (fun d => d.1 == l && d.2 + 1 == span) then
      { s with clock := { s.clock with departures := tset s.clock.departures l span } }
    else
      let s := s.alignLost l
      let c := s.clock
      let parent := s.reg 0x4000 5 = 0 ∧ s.reg 0x4000 6 = l
      { s with clock := { c with
          offsets := tdel c.offsets l, departures := tdel c.departures l, refuse := if c.refuse.contains l then c.refuse else c.refuse ++ [l],
          trim := if tget c.trim l 0 = 0 then c.trim else tset c.trim l 4,
          align := if parent then 3 else c.align, wasLost := if parent then true else c.wasLost } }

/-- A span marker at the device (R53, R55, R56). -/
def State.markerAt (s : State) (l : Nat) (aligned : Bool) (span at_ : Nat) (offset : Int) : State :=
  if !s.clock.running then s
  else if s.clock.align = 1 ∧ s.reg 0x4000 5 = 0 ∧ s.reg 0x4000 6 = l then
    if aligned then s.followMark l span at_ else s
  else if thas s.clock.offsets l then s.checkOffset l span offset
  else if s.clock.align = 2 ∧ aligned then
    let x := s.trimLink l offset
    { x.1 with clock := { x.1.clock with offsets := tset x.1.clock.offsets l x.2 } }
  else s

/-- A span marker at an accelerator's end-point (R232, R233): it aligns to its parent side, and checks the first marker of a
new parent against its own boundary. -/
def State.faetteMarker (s : State) (side : Nat) (aligned : Bool) (span at_ : Nat) (offset : Int) : State :=
  let e := s.faette
  if side ≠ e.parent ∨ !aligned then s
  else if e.align ≠ 2 then
    match e.mark with
    | none => { s with faette := { e with mark := some (span, at_), align := 1 } }
    | some (n, a) =>
      if span = n + 1 ∧ at_ = a + 2 ^ s.sched.spanLog then
        { s with faette := { e with mark := none, align := 2, span } }.epCounterSet .faette
      else
        let s := { s with faette := { e with mark := some (span, at_) } }
        if span = n + 1 then s.epFault .faette 0x07 1 side St.alignLost 0 2 else s
  else if e.newParent then
    let s := { s with faette := { e with newParent := false } }
    if offset.natAbs ≤ 1 then s
    else { s with faette := { s.faette with refuse := true } }.epFault .faette 0x07 1 side St.alignLost 0 2
  else s

/-! ### Route loads (R103, R566) -/

/-- A write of 1 to 3090:01. -/
def routeLoadEffect : Effect := fun r v s =>
  if s.stepRuns 0x3090 1 ∨ s.xbar.pendingRoutes.isSome then refuse s St.loadBusy else s.startStep r 0x3090 1 (leNat v)

/-- ROUTE_LOAD (R103). -/
def execRouteLoad (r : Route) (v : Bytes) (s : State) : Out := .next (s.rowWrite r 0x3090 1 v routeLoadEffect)

/-- Split mask that route entries are judged by: the active table's, else that of the links' fixed splits (log 34). -/
def State.splitMask (s : State) : Nat :=
  match s.sched.active with
  | some t => t.splitMask
  | none => maskOf ((List.range 24).filter fun n => (s.link n).split == some true)

/-- The loaded routes and groups take effect. -/
def State.applyRoutes (s : State) : State :=
  match s.xbar.pendingRoutes with
  | none => s
  | some (e, g) =>
    { s with xbar := { s.xbar with
      routes := (e.zipIdx.filter fun x => x.1 != 0xFFFF).map fun x => (x.2, x.1),
      groups := g.zipIdx.map fun x => (x.2, x.1), pendingRoutes := none } }

/-- The last step of a route load (R103, R566). -/
def State.runRouteLoad (s : State) : State :=
  let off := s.reg 0x3090 2
  match s.imageFault off 32832 St.tableInvalid with
  | some st => s.endStep 0x3090 1 st
  | none =>
    let img := s.tableBytes off 32832
    let entries := (Machine.pieces 2 16384 img).map leNat
    let groups := (Machine.pieces 8 8 (img.drop 32768)).map leNat
    let present := presentPorts s.splitMask
    if entries.any (fun e => decide (e < 0x8000) && !present.contains (e % 64)) then s.endStep 0x3090 1 St.tableInvalid
    else
      let s := { s with xbar := { s.xbar with pendingRoutes := some (entries, groups) } }.endStep 0x3090 1 St.ok
      if s.clock.running then s else s.applyRoutes

end Sys2Proof.Machine
end

