-- ==== Sys2Proof/Machine/Tokens.lean ====
section
/-! DEFINITION. Lane C tokens as they are received: the CRC, the port that a HALF field names, counting; span markers
(09 R297 to R302, 02 R53, R55, R56, 07 R232, R233). -/

namespace Sys2Proof.Machine

open Sys2Proof

/-- Running disparity of lane C where a token came in; inside the device there is no code, and tokens stand as at negative
disparity (R297). -/
def State.rxDisparity (s : State) (f : TokenFrom) : Bool :=
  match f with
  | .port p => p.val != 48 && s.disparity.rx.contains (linkOf p.val)
  | .faette k => s.disparity.rx.contains (64 + k.val)

/-- The disparity of a lane C once code groups have come in. -/
def State.tookGroups (s : State) (f : TokenFrom) (groups : List (BitVec 10)) : State :=
  let set (n : Nat) : State := { s with disparity := { s.disparity with
    rx := withDisparity s.disparity.rx n (disparityOver (s.rxDisparity f) groups) } }
  match f with
  | .port p => if p.val = 48 then s else set (linkOf p.val)
  | .faette k => set (64 + k.val)

/-- A token of a kind arrives: its fields, if it is not discarded; the tallies of its link (R298, Tables 18.2 and 18.7). -/
def State.takeToken (s : State) (f : TokenFrom) (t : RawToken) (k : String) : State × Option Nat :=
  let x := tokenFields (s.rxDisparity f) t k
  let s := s.tookGroups f t.groups
  match f with
  | .port p =>
    let b := 2 * linkOf p.val
    if p.val = 48 then (s, x)
    else if x.isSome then (s.portTally b 30 1, x)
    else ((s.portTally b 28 1).light (linkOf b) 7 1, x)
  | .faette _ => (s, x)

/-- Tokens of a kind are carried by lane C of a link in its state (Table 9.6): in SPARE markers and credits, and the lane tokens
of R313. -/
def State.carriesToken (s : State) (n : Nat) (k : String) : Bool :=
  s.linkUp n || ((k == "SpanMarker" || k == "Credit" || k == "Lane") && (s.portsOf n).any s.sendsCredit)

/-- A token arrives that lane C carries only in some states. -/
def State.takeUrgent (s : State) (f : TokenFrom) (t : RawToken) (k : String) : State × Option Nat :=
  match f with
  | .port p => if p.val = 48 ∨ s.carriesToken (linkOf p.val) k then s.takeToken f t k else (s, none)
  | .faette _ => s.takeToken f t k

/-- Port of the half of a link that a token's HALF names. -/
def halfPort (p half : Nat) : Nat := if p = 48 then 48 else 2 * linkOf p + half

/-- SPAN_MARKER (R53, R55, R56, R232, R233): a marker received on a link, or on a side of an accelerator's end-point.
`at_` is its local arrival time, counted in grain times from the start of local span 0 and less the fixed receive delay;
`offset` is, at the device, the arrival offset that the marker shows for its link, and at an end-point its distance from
the local span boundary. -/
def execSpanMarker (f : TokenFrom) (t : RawToken) (at_ : Nat) (offset : Int) (s : State) : Out :=
  .next (
    let x := s.takeToken f t "SpanMarker"
    match x.2 with
    | none => x.1
    | some m =>
      (match f with
       | .port p => if p.val < 48 then x.1.markerAt (linkOf p.val) (bit m 71) (fld m 63 0) at_ offset else s
       | .faette k => x.1.faetteMarker (x.1.faette.sideOf k.val) (bit m 71) (fld m 63 0) at_ offset))

end Sys2Proof.Machine
end

