-- ==== Sys2Proof/Machine/Member.lean ====
section
/-! DEFINITION. A member's end-point: the instances it holds, the grains it forms for its owned slots, the elements it
writes, what it misses, end tokens (05 R175, R178 to R186, 07 R253 to R257, 03 R105, R112, 16 R495). -/

namespace Sys2Proof.Machine

open Sys2Proof

/-! ### Instances (R254) -/

/-- What software hands over with an instance: the items of R254, the number of members (log 45) and whether it is
mirrored (R495). -/
def MemberInst.of (desc : Desc) (member members handle : Nat) (data : Bytes) (mirrored : Bool) : MemberInst :=
  { desc, fingerprint := Machine.fingerprint desc, member, members, handle, data, mirrored }

def MemberInst.f (i : MemberInst) : NumFmt := inFmt i.desc

/-- The instance of a context that has not been let go. -/
def EndPoint.inst (e : EndPoint) (ctx part : Nat) : Option MemberInst :=
  e.insts.find? fun i => dCtx i.desc == ctx && dPart i.desc == part && i.stopAt.isNone

/-- Two instances are one: context and FIRST_SPAN agree. -/
def MemberInst.same (a b : MemberInst) : Bool := dCtx a.desc == dCtx b.desc && dFirst a.desc == dFirst b.desc

def EndPoint.setInst (e : EndPoint) (i : MemberInst) : EndPoint := { e with insts := lmod e.insts i.same (fun _ => i) }

def EndPoint.dropInst (e : EndPoint) (i : MemberInst) : EndPoint := { e with insts := e.insts.filter fun x => !i.same x }

/-- Index, in the operation's element order, of the first element that a member sends. -/
def sentBase (d : Desc) (n i : Nat) : Nat := if dPrim d = 1 then (shardOf d n i).1 else 0

/-! ### The elements it sends (R129, R255) -/

/-- Payload of a block of what the member sends: its elements at their places, zeros elsewhere. -/
def MemberInst.payload (i : MemberInst) (b : Nat) : Nat :=
  let f := i.f
  let base := sentBase i.desc i.members i.member
  let lo := max (b * f.per) base
  let hi := min ((b + 1) * f.per) (base + sentBy i.desc i.members i.member)
  leNat (sliceB i.data (f.place (lo - base)) (ceilDiv (hi - lo) f.unit.1 * f.unit.2)) * 2 ^ (8 * f.place (lo - b * f.per))

/-- Blocks whose first element sent lies in chunk k of what the member sends. -/
def MemberInst.chunkBlocks (i : MemberInst) (k : Nat) : List Nat :=
  let per := i.f.per
  let base := sentBase i.desc i.members i.member
  let lo := base + k * dChunk i.desc
  let hi := min (lo + dChunk i.desc) (base + sentBy i.desc i.members i.member)
  let b0 := if k = 0 then lo / per else ceilDiv lo per
  (List.range (ceilDiv hi per - b0)).map (b0 + ·)

/-- A grain of the instance. -/
def MemberInst.grain (i : MemberInst) (own op block payload : Nat) (fp : Nat := 0) : Grain :=
  mkColl op (dPart i.desc) own (dCtx i.desc) i.member block 0 fp payload

/-- The grains of owned slot k (R175, R255). -/
def MemberInst.slotGrains (i : MemberInst) (own k : Nat) : List Grain :=
  if isData i.desc then
    if k = 0 then [i.grain own 0 0xFFFFFF 0 i.fingerprint]
    else (i.chunkBlocks (k - 1)).map fun b => i.grain own 6 b (i.payload b)
  else
    (i.chunkBlocks k).zipIdx.map fun (b, j) =>
      if k = 0 ∧ j = 0 then i.grain own 0 b (i.payload b) i.fingerprint else i.grain own 1 b (i.payload b)

/-! ### The elements it receives (R161, R256) -/

/-- Elements that a grain of a sender may bring this member, as a range of the operation's element order, and the place in
the received sequence of the first. -/
def MemberInst.wanted (i : MemberInst) (result : Bool) (sender : Nat) : Nat × Nat × Nat :=
  let d := i.desc
  let n := i.members
  if result then
    match dPrim d with
    | 0 => let x := shardOf d n i.member; (x.1, x.1 + x.2, 0)
    | 3 => if i.member = dRoot d then (0, dCount d, 0) else (0, 0, 0)
    | _ => (0, 0, 0)
  else
    match dPrim d with
    | 1 => let x := shardOf d n sender; (x.1, x.1 + x.2, x.1)
    | 2 => if sender = dRoot d ∧ i.member ≠ sender then (0, dCount d, 0) else (0, 0, 0)
    | 4 => (i.member * dCount d, (i.member + 1) * dCount d, sender * dCount d)
    | _ => (0, 0, 0)

/-- Blocks of a range. -/
def blocksIn (per lo hi : Nat) : List Nat := if hi ≤ lo then [] else (List.range (ceilDiv hi per - lo / per)).map (lo / per + ·)

/-- The grains of which the member writes elements: (sender, block); a RESULT grain's SENDER is zero. -/
def MemberInst.needs (i : MemberInst) : List (Nat × Nat) :=
  let of (result : Bool) (s : Nat) : List (Nat × Nat) :=
    let w := i.wanted result s
    (blocksIn (outFmt i.desc).per w.1 w.2.1).map fun b => (s, b)
  if isData i.desc then
    ((List.range i.members).filter fun s => !(dPrim i.desc == 1 && s == i.member)).flatMap (of false)
  else of true 0

/-- Elements of its own that an ALL_GATHER's member writes itself (R256). -/
def MemberInst.ownCount (i : MemberInst) : Nat := if dPrim i.desc = 1 then (shardOf i.desc i.members i.member).2 else 0

/-- The member receives elements (R186). -/
def MemberInst.receives (i : MemberInst) : Bool := !i.needs.isEmpty || decide (0 < i.ownCount)

/-- Every element that the member receives has been written, its own shard too. -/
def MemberInst.complete (i : MemberInst) : Bool := i.needs.all i.got.contains && (i.ownDone || i.ownCount == 0)

/-- Write packed octets at an element's place of the destination region (R161). -/
def State.writeDest (s : State) (w : EpSel) (i : MemberInst) (pos : Nat) (bs : Bytes) : State :=
  let a := entBase (s.homeEntry w i.handle) * 2 ^ 21 + dDestOffset i.desc + (outFmt i.desc).place pos
  s.modHome w fun h => h.write a bs

/-- Write what the member wants of a block. -/
def State.writeBlock (s : State) (w : EpSel) (i : MemberInst) (result : Bool) (sender block : Nat) (payload : Bytes) : State :=
  let f := outFmt i.desc
  let x := i.wanted result sender
  let lo := max x.1 (block * f.per)
  let hi := min x.2.1 ((block + 1) * f.per)
  if hi ≤ lo then s
  else
    s.writeDest w i (x.2.2 + (lo - x.1))
      (sliceB payload (f.place (lo - block * f.per)) (ceilDiv (hi - lo) f.unit.1 * f.unit.2))

/-! ### Its status (R179, R185, R186, R257, R259) -/

/-- The instance ends for this member with a status: software is told, a failure gets an error record. -/
def State.instStatus (s : State) (w : EpSel) (i : MemberInst) (st : Nat) : State :=
  let s := s.emit (.agent "INSTANCE_STATUS" [dCtx i.desc, dFirst i.desc, i.member, st])
  let s := if st = 0 then s else s.errorRecord w 0 0 0 0 0 0 st 2 (dCtx i.desc) (dInst i.desc)
  s.modEp w fun e => e.setInst { i with status := some st }

/-- Once all is written the member completes OK: a mirrored one only on the OK token (R186, R495).  After that token the
instance is let go. -/
def State.instComplete (s : State) (w : EpSel) (i : MemberInst) : State :=
  if i.status.isSome ∨ !i.complete ∨ !i.receives ∨ (i.mirrored ∧ !i.okHeld) then s
  else
    let s := s.instStatus w i St.ok
    if i.okHeld then s.modEp w (·.dropInst i) else s

/-- Failed instances are let go at the boundary that begins a span. -/
def EndPoint.stopInsts (e : EndPoint) (now : Nat) : EndPoint :=
  { e with insts := e.insts.filter fun i => match i.stopAt with
      | some x => decide (now ≤ x)
      | none => true }

/-- Octets of an end token that an end-point raises (R257); the internal end-point's reaches the device beside it. -/
def State.raiseEnd (s : State) (w : EpSel) (fields : Nat) : State :=
  match w with
  | .internal => s.putToken 48 "End" fields
  | .faette => s.faette.sideUp.foldl (fun s k => s.putToken (64 + k) "End" fields) s

/-- A failure token ends the instance for this member, which stops at the next span boundary (R179, R182). -/
def State.memberFails (s : State) (w : EpSel) (i : MemberInst) (st sub : Nat) : State :=
  s.instStatus w { i with stopAt := some (s.epSpan w) } (if sub = 0x3FFF ∨ sub = i.member then st else St.abortedPeer)

/-- RESEND_LIMIT NACKs have gone for a grain: before the OK token an end token names its sender, after it the member alone
fails (R185, R257). -/
def State.lackFails (s : State) (w : EpSel) (i : MemberInst) (result : Bool) (l : Lack) : State :=
  if i.okHeld then
    (s.instStatus w i St.resendExhausted).modEp w (·.dropInst i)
  else
    let sub := if result then 0x3FFF else l.sender
    let f := put sub 20 7 + put St.resendExhausted 36 21 + put (dInst i.desc) 52 37
      + put (dCtx i.desc) 57 53 + put (dPart i.desc) 63 58
    (s.raiseEnd w f).memberFails w i St.resendExhausted sub

/-- NACK one missing grain: once per span (R112, log 46).  Where no grain of its sender has come, its SRC_EP is not known and
the NACK is counted only (R105, log 177). -/
def State.nackLack (s : State) (w : EpSel) (ctx part sender block : Nat) : State :=
  match (s.epOf w).inst ctx part with
  | none => s
  | some i =>
    if i.status.isSome then s
    else
      let span := s.epSpan w
      let l := (i.lacks.find? fun l => l.sender == sender && l.block == block).getD { sender, block, span := span + 1 }
      if l.nacks ≠ 0 ∧ span ≤ l.span then s
      else if s.epReg w 0x3080 2 ≤ l.nacks then s.lackFails w i (!isData i.desc) l
      else
        let l' := { l with nacks := l.nacks + 1, span }
        let i := { i with lacks := l' :: i.lacks.filter fun x => !(x.sender == sender && x.block == block) }
        let s := s.modEp w (·.setInst i)
        match i.srcs.find? (fun x => x.1 == sender) with
        | some x => s.epNack w part (nackFields5 x.2 ctx sender block (span % 64) 3)
        | none => s

/-- Every grain that an instance still misses is NACKed: the OK token says that all have been sent (R184, R185). -/
def State.nackMissing (s : State) (w : EpSel) (i : MemberInst) : State :=
  (i.needs.filter fun x => !i.got.contains x).foldl (fun s x => s.nackLack w (dCtx i.desc) (dPart i.desc) x.1 x.2) s

/-- The NACKs that a span repeats (R112): of what is known to be missing, after the OK token of all that is. -/
def State.repeatLacks (s : State) (w : EpSel) : State :=
  (s.epOf w).insts.foldl (fun s i =>
    if i.stopAt.isSome then s
    else if i.okHeld then s.nackMissing w i
    else i.lacks.foldl (fun s l => s.nackLack w (dCtx i.desc) (dPart i.desc) l.sender l.block) s) s

/-- An end token at a member's end-point (R178 to R180, R182): a failure stops it at the next span boundary. -/
def State.memberEnd (s : State) (w : EpSel) (fields : Nat) : State :=
  let e := s.epOf w
  match e.insts.find? (fun i => dPart i.desc == fld fields 63 58 && dCtx i.desc == fld fields 57 53
      && dInst i.desc == fld fields 52 37 && i.stopAt.isNone) with
  | none => s
  | some i =>
    let st := fld fields 36 21
    let sub := fld fields 20 7
    if i.status.isSome then s.modEp w (·.dropInst i)
    else if st = 0 then
      let i := { i with okHeld := true }
      if i.complete then (s.instStatus w i St.ok).modEp w (·.dropInst i) else (s.modEp w (·.setInst i)).nackMissing w i
    else if i.okHeld then s
    else s.memberFails w i st sub

/-- A RESULT or DATA grain at a member (R256, R185): written once; what of its source is missing before it is NACKed. -/
def State.memberGrain (s : State) (w : EpSel) (g : Grain) : State :=
  let result := g.op == 5
  if !g.checkOk then
    (s.epNack w g.part.toNat (nackFields5 g.src.toNat g.context g.sender g.block g.birth.toNat 0)).checkReport w
  else
    match (s.epOf w).inst g.context g.part.toNat with
    | none => s
    | some i =>
      let key := (g.sender, g.block)
      if isData i.desc == result ∨ !i.needs.contains key ∨ i.got.contains key then s
      else
        let i := { i with
          srcs := tset i.srcs g.sender g.src.toNat, got := key :: i.got, lacks := i.lacks.filter fun l => !(l.sender == g.sender && l.block == g.block) }
        let s := (s.writeBlock w i result g.sender g.block g.bytes).modEp w (·.setInst i)
        let missing := i.needs.filter fun x => x.1 == g.sender && decide (x.2 < g.block) && !i.got.contains x
        let s := missing.foldl (fun s x => s.nackLack w g.context g.part.toNat x.1 x.2) s
        match (s.epOf w).inst g.context g.part.toNat with
        | some i => s.instComplete w i
        | none => s

/-! ### Its owned slots (R253, R255, R244, R112, R495) -/

/-- A NACK names a grain that this member has sent: it goes again in the next owned slot; `side` is that of the NACK. -/
def State.memberResend (s : State) (w : EpSel) (side fields : Nat) : State :=
  let ctx := fld fields 54 50
  let sender := fld fields 49 40 * 16 + fld fields 39 36
  match (s.epOf w).insts.find? (fun i => dCtx i.desc == ctx && i.member == sender && i.stopAt.isNone) with
  | none => s
  | some i =>
    let key := if i.mirrored then side else 0
    let l := (i.copies.filter fun g => g.block == fld fields 35 12)
    let q := tget i.queues key []
    s.modEp w (·.setInst { i with queues := tset i.queues key (l.filter (fun g => !q.contains g) ++ q) })

/-- Send grains of an instance from its queue, at most n; a grain that finds no copy room waits and counts in DEFERRED. -/
def State.sendOwned (s : State) (w : EpSel) (side : Nat) (i : MemberInst) (key : Nat) : Nat → State × MemberInst
  | 0 => (s, i)
  | n + 1 =>
    match tget i.queues key [] with
    | [] => (s, i)
    | g :: r =>
      let known := i.copies.contains g
      if !known && !((s.modEp w (·.setInst i)).epOf w).room 5 then
        (s.setEpReg w 0x6200 0xE (s.epReg w 0x6200 0xE + min (n + 1) (r.length + 1)), i)
      else
        let i := { i with queues := tset i.queues key r, copies := if known then i.copies else i.copies ++ [g] }
        let port := match w with
          | .internal => 48
          | .faette => 64 + side
        (s.emit (.grain port (g.seal (s.epSpan w)) (s.epSpan w) s.offsetNow [])).sendOwned w side i key n

/-- The first owned slot of an ALL_GATHER: the member writes its own shard (R256). -/
def State.ownShard (s : State) (w : EpSel) (i : MemberInst) : State :=
  if dPrim i.desc = 1 then s.writeDest w i (shardOf i.desc i.members i.member).1 (i.data.take ((inFmt i.desc).octets (shardOf i.desc i.members i.member).2))
  else s

/-- A COLLECTIVE slot on a side, of n grains (R255, R495). -/
def State.collectiveSlot (s : State) (w : EpSel) (side ctx part n : Nat) : State :=
  match (s.epOf w).insts.find? (fun i => dCtx i.desc == ctx && dPart i.desc == part && decide (dFirst i.desc ≤ s.epSpan w)) with
  | none => s
  | some i =>
    let key := if i.mirrored then side else 0
    let k := tget i.slots key 0
    let s := if k = 0 ∧ key = 0 then s.ownShard w i else s
    let i := { i with
      ownDone := i.ownDone || (k == 0 && key == 0), slots := tset i.slots key (k + 1),
      queues := tset i.queues key (tget i.queues key [] ++ i.slotGrains (s.epId w) k) }
    let x := s.sendOwned w side i key n
    let s := x.1.modEp w (·.setInst x.2)
    match (s.epOf w).inst ctx part with
    | some i => s.instComplete w i
    | none => s

end Sys2Proof.Machine
end

