-- ==== Sys2Proof/Machine/Phases.lean ====
section
/-! DEFINITION. The table of operator phases and what it learns when an instance ends (15 R460, R461, Table 15.3). -/

namespace Sys2Proof.Machine

/-- The records of DEFAULT_PHASES 2020:01 in force. -/
def State.defaultPhases (s : State) : List Nat :=
  let v := s.inForce 0x2020 1
  (List.range 256).map fun k => fld v (128 * k + 127) (128 * k)

/-- A record of Table 15.3 as a learned one for a tag. -/
def phaseOf (tag x : Nat) : Phaseset :=
  ⟨tag, fld x 95 80, fld x 79 64, fld x 63 48, fld x 47 32⟩

/-- The record of a tag: learned, else a copy of the first default that names it, else of the first with ANY. -/
def State.phase (s : State) (tag : Nat) : Option Phaseset :=
  match s.power.learned.find? (fun p => p.tag == tag) with
  | some p => some p
  | none =>
    let l := s.defaultPhases.filter (fun x => bit x 0)
    match l.find? (fun x => !bit x 1 && fld x 127 96 == tag) with
    | some x => some (phaseOf tag x)
    | none => (l.find? (fun x => bit x 1)).map (phaseOf tag)

/-- Put a record in front of the table; of more than 1,024 the least recently used goes. -/
def State.usePhase (s : State) (p : Phaseset) : State :=
  { s with power := { s.power with learned := (p :: s.power.learned.filter (fun x => x.tag != p.tag)).take 1024 } }

/-- Whole watts that cover a sample in units of 0.1 mW. -/
def wattsUp (x : Nat) : Nat := ceilDiv x 10000

/-- The need after an instance: the peak, or the old need less an eighth of it (log 37). -/
def learnNeed (peak old : Nat) : Nat := max (wattsUp peak) (old - old / 8)

/-- An instance with a tag ends at a context: its needs are learned (R460). -/
def State.learn (s : State) (ctx tag : Nat) : State :=
  let pk := tget s.power.peaks ctx []
  let s' := { s with power := { s.power with peaks := tdel s.power.peaks ctx } }
  match s.phase tag with
  | none => s'
  | some p =>
    s'.usePhase ⟨tag, learnNeed (pk.getD 0 0) p.link, learnNeed (pk.getD 1 0) p.memory, learnNeed (pk.getD 2 0) p.board,
      learnNeed (pk.getD 3 0) p.open_⟩

end Sys2Proof.Machine
end

