-- ==== Sys2Proof/Machine/Collectives.lean ====
section
/-! DEFINITION. Rosters, board contexts, the checks of an admission, end tokens and completion records
(05 R165 to R187, 04 R128, 08 R285, 14 R443, 16 R494). -/

namespace Sys2Proof.Machine

open Sys2Proof

/-! ### Rosters (R165, R166) -/

/-- Index of an end-point's device entry. -/
def Roster.device (r : Roster) (ep : Nat) : Option Nat := r.devices.findIdx? fun e => e.1 == ep

/-- Device indices whose PARENT is k: its child devices, every one of which a board expects carry grains of (log 39). -/
def Roster.children (r : Roster) (k : Nat) : List Nat :=
  (List.range r.devices.length).filter fun i => i != 0 && (r.devices.getD i (0, 0)).2 == k

/-- Member indices whose LEAF is device k. -/
def Roster.membersAt (r : Roster) (k : Nat) : List Nat :=
  (List.range r.members.length).filter fun i => (r.members.getD i {}).leaf == k

def Roster.member (r : Roster) (i : Nat) : RosterMember := r.members.getD i {}

/-- Octet at which the member list begins. -/
def memberOffset (devices : Nat) : Nat := (64 + 8 * devices + 15) / 16 * 16

/-- Length of a roster image. -/
def rosterLen (h : Nat) : Nat := memberOffset (fld h 57 47) + 16 * fld h 46 33

/-- A roster image of the right length (Tables 5.3 to 5.5). -/
def parseRoster (img : Bytes) : Roster :=
  let h := leAt img 0 64
  let nd := fld h 57 47
  { digest := fld h 511 448, part := fld h 63 58, image := img,
    devices := (Machine.pieces 8 nd (img.drop 64)).map fun b => (fld (leNat b) 63 50, fld (leNat b) 49 39),
    members := (Machine.pieces 16 (fld h 46 33) (img.drop (memberOffset nd))).map fun b =>
      let x := leNat b
      ⟨fld x 127 114, fld x 113 103, fld x 102 82, fld x 81 50, fld x 49 40⟩ }

/-- The image breaks no rule of R165 and R166. -/
def rosterOk (img : Bytes) : Bool :=
  let h := leAt img 0 64
  let r := parseRoster img
  fld h 31 0 == 0x54534F4C && fld h 57 47 != 0 && fld h 46 33 != 0 && decide (fld h 46 33 ≤ 10240) &&
  r.digest == sha3n (img.drop 64) % 2 ^ 64 &&
  r.members.all (fun m => decide (m.leaf < r.devices.length)) && (r.members.map (·.ep)).Nodup &&
  (r.devices.zipIdx.all fun (e, i) => if i = 0 then e.2 == 0x7FF else decide (e.2 < i))

/-! ### Contexts (R169, Table 5.15) -/

def State.ctx (s : State) (k : Nat) : Context := tget s.board.ctxs k {}
def State.setCtx (s : State) (k : Nat) (c : Context) : State :=
  { s with board := { s.board with ctxs := tset s.board.ctxs k c } }
def State.modCtx (s : State) (k : Nat) (f : Context → Context) : State := s.setCtx k (f (s.ctx k))

/-- PREPARED or RESIDENT. -/
def Context.held (c : Context) : Bool := c.state == 1 || c.state == 2

def State.heldCtxs (s : State) : List (Nat × Context) := s.board.ctxs.filter fun e => e.2.held

/-- This device admitted the instance: it is the roster's entry 0. -/
def Context.anchor (c : Context) : Bool := c.me == 0

/-- CONTEXT_c (Table 5.15). -/
def Context.report (c : Context) : Nat :=
  if c.state = 0 then 0
  else put (dInst c.desc) 33 18 + put (b2n (dStaged c.desc)) 34 34 + put c.windows 42 35 + put (dRoster c.desc) 54 43
    + put (dPart c.desc) 60 55 + put c.state 63 61

/-- Contexts that LOCKSTEP names (R494). -/
def State.mirrored (s : State) (k : Nat) : Bool := bit (s.reg 0xB110 1) k

/-- This device is side 0 of the pair. -/
def State.isSide0 (s : State) : Bool := decide (s.ownEp < s.pair.partner)

/-! ### Claims (R171, R172, Table 5.7) -/

/-- Board records of a descriptor's context in the active span table. -/
def State.recordsOf (s : State) (d : Desc) : List BoardRec :=
  match s.sched.active with
  | none => []
  | some t => t.boards.filter fun b => b.ctx == dCtx d && b.part == dPart d

/-- A route record serves the context: by its number to the board, or for a data primitive by its partition (log 35). -/
def State.routesFor (s : State) (d : Desc) : Bool :=
  match s.sched.active with
  | none => false
  | some t => t.routes.any fun r => r.part == dPart d && (if r.toBoard then r.ctx == dCtx d else isData d)

/-- Quarters that a record names. -/
def BoardRec.nq (b : BoardRec) : Nat := popcount b.quarters 4

/-- Least number of quarters of any record. -/
def leastQuarters (l : List BoardRec) : Nat := l.foldl (fun m b => min m (max 1 b.nq)) 4

def windowsOf (d : Desc) (l : List BoardRec) : Nat :=
  if l.isEmpty then 0 else gangOf d * ceilDiv (dChunk d) (1024 * leastQuarters l)

/-- WINDOWS_FREE 5000:02. -/
def State.windowsFree (s : State) : Nat :=
  128 - s.reg 0x5000 4 - (s.heldCtxs.filter (fun e => !dStaged e.2.desc)).foldl (fun n e => n + e.2.windows) 0

/-- 80 × g × C × r, the staging demand times the span length in ns. -/
def State.demand (s : State) (d : Desc) : Nat := 80 * gangOf d * dChunk d * (s.recordsOf d).length

/-- Staging demand of the held staged contexts. -/
def State.stagedDemand (s : State) : Nat :=
  (s.heldCtxs.filter (fun e => dStaged e.2.desc)).foldl (fun n e => n + s.demand e.2.desc) 0

/-- A demand is within a bandwidth in GB/s: the span lasts 3/4 ns for each grain time. -/
def State.withinBandwidth (s : State) (demand bw : Nat) : Bool := decide (4 * demand ≤ 3 * bw * s.spanLen)

/-- Roster cache entries that the held contexts claim, once per handle. -/
def State.cacheUsed (s : State) : Nat :=
  let hs := (s.heldCtxs.map fun e => dRoster e.2.desc).eraseDups
  hs.foldl (fun n h =>
    match s.heldCtxs.find? (fun e => dRoster e.2.desc == h) with
    | some e => n + e.2.roster.members.length + e.2.roster.devices.length
    | none => n) 0

/-- S_eff of Table 5.7 at a port. -/
def State.grainTimes (s : State) (p : Nat) : Nat := if s.isHalf p then s.slotLen / 2 else s.slotLen

/-- The grain counts of Table 5.7 keep to their limits. -/
def State.grainsFit (s : State) (d : Desc) (r : Roster) (me : Nat) : Bool :=
  let c := dChunk d
  (r.membersAt me).all (fun i => decide (ceilDiv c (inFmt d).per ≤
    (match s.leafPort (r.member i).ep with
     | some p => s.grainTimes p
     | none => s.slotLen))) &&
  (s.recordsOf d).all fun b =>
    let ports := maskBits b.outMask 49
    let need :=
      if b.role = 1 then ceilDiv c (outFmt d).per
      else if b.role ≠ 0 then 0
      else if longMode d then ceilDiv (ceilDiv (c * gangOf d) 6) ports.length
      else ceilDiv (ceilDiv c (inFmt d).words) ports.length
    ports.all fun p => decide (need ≤ s.grainTimes p)

/-- The destination of a member, by the entry of its handle in this leaf's table (R171, R443). -/
def State.destStatus (s : State) (d : Desc) (m : RosterMember) (octets : Nat) : Nat :=
  let e := s.keyEntry m.handle
  if !entValid e || entKey e != m.key || entOwner e != m.ep then St.keyMismatch
  else if entPart e ≠ dPart d ∨ m.ctxLocal / 2 ^ entCtxSpan e ≠ entCtxValue e / 2 ^ entCtxSpan e then St.contextDenied
  else if !entWrite e || entSealed e then St.contextDenied
  else if entLen e < dDestOffset d + octets then St.bounds
  else St.ok

/-- First failing destination of this leaf's members. -/
def State.destsStatus (s : State) (d : Desc) (r : Roster) (me : Nat) : Nat :=
  (r.membersAt me).foldl (fun st i =>
    let k := receivedBy d r.members.length i
    if st ≠ 0 ∨ k = 0 then st else s.destStatus d (r.member i) ((outFmt d).octets k)) 0

/-- What R494 asks of a mirrored context's roster. -/
def State.mirrorOk (s : State) (r : Roster) : Bool :=
  let own := s.ownEp
  let other := s.pair.partner
  let side0 := min own other
  let side1 := max own other
  (r.devices.getD 0 (0, 0)).1 == side0 &&
  (match r.device side1 with
   | some i => i != 0 && (r.devices.getD i (0, 0)).2 == 0 && (r.membersAt i).isEmpty
   | none => false)

/-- The loaded roster that a descriptor names. -/
def State.rosterOf (s : State) (d : Desc) : Option Roster :=
  (s.board.rosters.find? (fun e => e.1 == dRoster d)).map (·.2)

/-- prepare(d) of R171: status and DETAIL, and the roster and this device's index for a pass. -/
def State.prepareCheck (s : State) (d : Desc) : Nat × Nat × Roster × Nat :=
  let fail (st detail : Nat) : Nat × Nat × Roster × Nat := (st, detail, {}, 0)
  let refused := St.claimRefused
  let ro := s.rosterOf d
  let r : Roster := ro.getD {}
  let st := descStatus d r.members.length
  if s.reg 0x1020 1 = 0 then fail St.featureAbsent 0
  else if s.partState (dPart d) ≠ 1 then fail St.contextDenied 0
  else if st ≠ 0 then fail st 0
  else
    match ro, r.device s.ownEp with
    | some _, some me =>
      if r.digest ≠ dRosterDigest d ∨ r.part ≠ dPart d then fail St.rosterInvalid 0
      else if s.mirrored (dCtx d) && !s.mirrorOk r then fail St.rosterInvalid 0
      else if (s.recordsOf d).isEmpty && !s.routesFor d then fail refused 6
      else if (s.ctx (dCtx d)).state ≠ 0 then fail refused 1
      else if !s.grainsFit d r me then fail refused 5
      else if s.destsStatus d r me ≠ 0 then fail (s.destsStatus d r me) 0
      else
        let w := windowsOf d (s.recordsOf d)
        let pool := s.reg 0x5000 4
        let cached := s.heldCtxs.any fun e => dRoster e.2.desc == dRoster d
        if !dStaged d && decide (s.windowsFree < w) then fail refused 2
        else if dStaged d && (pool == 0 || decide (pool < w) ||
            !s.withinBandwidth (s.demand d + s.stagedDemand) (s.reg 0x5000 3)) then fail refused 4
        else if !cached && decide (32768 < s.cacheUsed + r.members.length + r.devices.length) then fail refused 3
        else (St.ok, 0, r, me)
    | _, _ => fail St.rosterInvalid 0

/-- The lowest bead windows that no held context claims (R123, log 186). -/
def State.lowWindows (s : State) (n : Nat) : List Nat :=
  ((List.range 128).filter fun w => !s.heldCtxs.any fun e => e.2.claimed.contains w).take n

/-- The context becomes PREPARED and holds its claims; its beads are zero (R127, R169). -/
def State.hold (s : State) (d : Desc) (r : Roster) (me : Nat) (from_ : Context) : State :=
  s.setCtx (dCtx d) { from_ with
    state := 1, desc := d, fingerprint := fingerprint d, windows := windowsOf d (s.recordsOf d),
    claimed := if dStaged d then [] else s.lowWindows (windowsOf d (s.recordsOf d)), roster := r, me }

/-! ### End tokens (R178 to R183) -/

def endFields (d : Desc) (status subject : Nat) : Nat :=
  put subject 20 7 + put status 36 21 + put (dInst d) 52 37 + put (dCtx d) 57 53 + put (dPart d) 63 58

/-- The port toward an end-point of the roster's tree: that of an ACTIVE or DEGRADED link to it, else its route's (log 36). -/
def State.portToward (s : State) (ep : Nat) : Option Nat :=
  if ep = s.ownEp then some 48
  else
    match (List.range 24).find? (fun n => s.linkUp n && (s.link n).peerEp == ep) with
    | some n => some (2 * n)
    | none => (s.route s.ownEp ep 6).map fun p => 2 * linkOf p

/-- End-points that a device forwards an end token to: its parent, its children and its members. -/
def Roster.neighbours (r : Roster) (me : Nat) : List Nat :=
  (if me = 0 then [] else [(r.devices.getD (r.devices.getD me (0, 0)).2 (0, 0)).1]) ++
  (r.children me).map (fun k => (r.devices.getD k (0, 0)).1) ++ (r.membersAt me).map (fun i => (r.member i).ep)

/-- Ports on which an end token goes out; not the one it came in on. -/
def State.endPorts (s : State) (r : Roster) (me : Nat) (from_ : Option Nat) : List Nat :=
  ((r.neighbours me).filterMap s.portToward).eraseDups.filter fun p => some p != from_

/-- Send an end token on the ports whose links carry tokens; on port 48 it reaches the device's own end-point. -/
def State.sendEnd (s : State) (ports : List Nat) (fields : Nat) : State :=
  (ports.filter fun p => p == 48 || s.linkUp (linkOf p)).foldl (fun s p => if p = 48 then (s.token p "End" fields).memberEnd .internal fields else s.token p "End" fields) s

/-- The first spilled image that is still queued, with its port (R142). -/
def Context.spilled (c : Context) : Option (Nat × Nat) :=
  match c.queues.find? (fun e => e.2.any (·.spilled)) with
  | none => none
  | some e => some (e.1, ((e.2.find? (·.spilled)).getD {}).block)

/-- The board sends no further grains for a context: those that wait for their gates are discarded (R147). -/
def State.dropClaims (s : State) (k : Nat) : State :=
  let keep (c : Claim) : Bool := !(c.board && c.grain.vc == 5 && c.grain.context == k)
  { s with xbar := { s.xbar with claims := s.xbar.claims.filter keep, pushOpen := s.xbar.pushOpen.filter keep } }

/-- A context takes its end: it goes QUIESCING, its token is forwarded, a failure discards beads and images (R147, R169,
R178, R183, R460). -/
def State.endCtx (s : State) (k status subject : Nat) (from_ : Option Nat) : State :=
  let c := s.ctx k
  if !c.held then s
  else
    let ports := s.endPorts c.roster c.me from_
    let s := s.sendEnd ports (endFields c.desc status subject)
    let ok := status == 0
    let s := s.setCtx k { c with
      state := 3, ended := some (status, subject), endSpan := s.clock.span, tokens := ports, awaiting := [], prepared := [],
      recordOwed := c.anchor && !ok, beads := [], queues := [], works := [], missing := [], escaped := [],
      left := if ok then none else c.spilled,
      copies := if ok then c.copies else [] }
    let s := if ok then s else s.dropClaims k
    let s := s.devTally (if ok then 8 else 9) 1
    let s := if ok then s else s.partTally (dPart c.desc) 13 1
    let s := s.tagTally k from_ 15 1
    let s := s.trace 1 4 (from_.getD 0x3F) (some (dPart c.desc)) k
      (put (dFirst c.desc) 63 0 + put status 79 64 + put subject 93 80)
    if c.state = 2 then s.learn k (dOperator c.desc) else s

/-! ### Completion records (R187, Table 5.11) -/

def completionRecord (d : Desc) (fp digest endSpan refusing detail status : Nat) (dissent : List (Nat × Nat)) : Nat :=
  let eps := (lsort (fun (a b : Nat × Nat) => decide (a.1 < b.1)) dissent).map (·.2)
  put (dPrim d) 96 93 + put (dCtx d) 101 97 + put (dPart d) 107 102 + put (dLayer d) 123 108 + put (dOperator d) 155 124
    + put status 171 156 + put (if status = St.claimRefused then detail else 0) 179 172 + put refusing 193 180
    + put (min dissent.length 16383) 207 194
    + ((List.range 8).foldl (fun n k => n + put (eps.getD k 0x3FFF) (221 + 14 * k) (208 + 14 * k)) 0)
    + put endSpan 383 320 + put (dFirst d) 447 384 + put fp 511 448 + put digest 1023 512

/-- Core A logs a completion record in 5050 and gives it to the issuer: by a message, or by the ring command that
admitted. -/
def State.giveNow (s : State) (d : Desc) (rec_ status endSpan : Nat) (ring : Option (Nat × Nat)) : State :=
  let s := (s.addReg 0x5050 1 64 1).setReg 0x5050 2 rec_
  let s := if status = 0 then s else s.setReg 0x5050 3 rec_
  match ring with
  | none => s.tell (dIssuer d) (dPart d) 1 0x28 (natLe 128 rec_)
  | some (f, id) =>
    match (s.fn f).cmds.find? (fun c => c.id == id && c.second) with
    | none => s
    | some c => (s.emit (.hostWrite f (c.operand 191 128) (natLe 128 rec_))).complete f id status endSpan 0 true

/-- Give a completion record, or owe it while core A is stopped (Table 13.9). -/
def State.giveRecord (s : State) (d : Desc) (rec_ status endSpan : Nat) (ring : Option (Nat × Nat)) : State :=
  if (s.coreStop 3).isSome then { s with board := { s.board with owed := s.board.owed ++ [Owed.mk d rec_ status endSpan ring] } }
  else s.giveNow d rec_ status endSpan ring

/-- Send the record of an ended context. -/
def State.sendRecord (s : State) (k digest : Nat) : State :=
  let c := s.ctx k
  let st := (c.ended.getD (0, 0)).1
  let dissent := c.dissent.map fun i => (i, (c.roster.member i).ep)
  (s.modCtx k fun c => { c with recordOwed := false }).giveRecord c.desc
    (completionRecord c.desc c.fingerprint digest c.endSpan c.refusingEp c.detail st dissent) st c.endSpan c.ring

/-- The anchor raises OK, sends the record and, with a digest, appends the OPERATION entry (R184, R187, R484). -/
def State.raiseOk (s : State) (k : Nat) (digest : Option Nat) : State :=
  let c := s.ctx k
  if c.state ≠ 2 then s
  else
    let s := (s.endCtx k St.ok 0x3FFF none).sendRecord k (digest.getD 0)
    match digest with
    | none => s
    | some x => s.append {
        kind := 5, digest := x, reference := c.fingerprint, opTag := dOperator c.desc, layerTag := dLayer c.desc,
        count := dCount c.desc, part := dPart c.desc, ctx := k, primitive := dPrim c.desc }

/-- A failure that this device raises for the instance of a context. -/
def State.raiseFail (s : State) (k status subject : Nat) : State := s.endCtx k status subject none

/-! ### Admission at the anchor (R168 to R174) -/

/-- Answer whoever asked for the admission: ADMIT_RESULT, or the first entry of the ring command. -/
def State.admitAnswer (s : State) (msg : Option Msg) (ring : Option (Nat × Nat)) (status detail refusing fp : Nat) : State :=
  let s := match msg with
    | some m => s.answerMsg .internal m 0x21 (natLe 2 status ++ natLe 1 detail ++ natLe 2 refusing ++ natLe 8 fp)
    | none => s
  match ring with
  | some (f, id) => s.complete f id status fp detail false
  | none => s

/-- Context and FIRST_SPAN, as COMMIT, RELEASE and CANCEL carry them. -/
def ctxBody (d : Desc) : Bytes := natLe 1 (dCtx d) ++ natLe 8 (dFirst d)

/-- Counts of a refused ADMIT. -/
def State.countRefused (s : State) (d : Desc) : State := (s.addReg 0x5000 6 64 1).partTally (dPart d) 12 1

/-- Refuse an ADMIT that holds no context: answer, end token by the roster's tree, and a record that falls due (R173). -/
def State.refuseNew (s : State) (d : Desc) (msg : Option Msg) (ring : Option (Nat × Nat)) (status detail : Nat) : State :=
  let s := (s.countRefused d).admitAnswer msg ring status detail s.ownEp (fingerprint d)
  let r : Roster := (s.rosterOf d).getD {}
  let s := if r.device s.ownEp = some 0 then s.sendEnd (s.endPorts r 0 none) (endFields d status 0x3FFF) else s
  { s with board := { s.board with refused := s.board.refused ++
    [Refused.mk d (fingerprint d) status detail s.ownEp s.clock.span ring] } }

/-- Refuse an ADMIT that holds its context: RELEASE to the others, answer, end token (R173). -/
def State.refuseHeld (s : State) (k status detail refusing : Nat) : State :=
  let c := s.ctx k
  let s := (c.prepared ++ c.awaiting.map (·.1)).foldl (fun s ep =>
    if ep = refusing then s else s.tell ep (dPart c.desc) 1 0x25 (ctxBody c.desc)) s
  let s := (s.countRefused c.desc).admitAnswer c.admitMsg c.ring status detail refusing c.fingerprint
  (s.modCtx k fun c => { c with refusingEp := refusing, detail }).raiseFail k status 0x3FFF

/-- Spans before FIRST_SPAN whose start the anchor must commit before (R170). -/
def Context.lead (c : Context) : Nat := if c.roster.devices.length ≤ 1 then 1 else 2

/-- A context becomes RESIDENT (R169). -/
def State.commit (s : State) (k : Nat) : State := (s.modCtx k fun c => { c with state := 2 }).addReg 0x5000 5 64 1

/-- The anchor holds every PREPARED: it commits, or it is too late (R170). -/
def State.tryCommit (s : State) (k : Nat) : State :=
  let c := s.ctx k
  if c.state ≠ 1 ∨ !c.awaiting.isEmpty then s
  else if dFirst c.desc ≤ s.clock.span + c.lead then s.refuseHeld k St.admissionLate 0 s.ownEp
  else
    let s := c.prepared.foldl (fun s ep => s.tell ep (dPart c.desc) 1 0x24 (ctxBody c.desc)) s
    let s := ((s.commit k).partTally (dPart c.desc) 11 1).modCtx k fun c => { c with prepared := [] }
    s.admitAnswer c.admitMsg c.ring St.ok 0 0x3FFF c.fingerprint

/-- Send PREPARE to a device and remember the request's number. -/
def State.sendPrepare (s : State) (k : Nat) (d : Desc) (ep : Nat) : State :=
  let s := s.tell ep (dPart d) 1 0x22 (natLe 128 d.toNat)
  s.modCtx k fun c => { c with awaiting := c.awaiting ++ [(ep, s.ep.nextReq)] }

/-- An ADMIT at this device: its checks, then PREPARE to the others (R167, R168, R170). -/
def State.admitHere (s : State) (d : Desc) (part : Nat) (msg : Option Msg) (ring : Option (Nat × Nat)) : State :=
  let s := s.devTally 6 1
  let x := s.prepareCheck d
  let r : Roster := (s.rosterOf d).getD {}
  if s.reg 0x1020 1 = 0 then s.refuseNew d msg ring St.featureAbsent 0
  else if part ≠ dPart d ∨ s.partState (dPart d) ≠ 1 then s.refuseNew d msg ring St.contextDenied 0
  else if !r.devices.isEmpty && r.device s.ownEp != some 0 then s.refuseNew d msg ring St.rosterInvalid 0
  else if s.clock.span + 32767 < dFirst d then s.refuseNew d msg ring St.admissionLate 0
  else if x.1 ≠ 0 then s.refuseNew d msg ring x.1 x.2.1
  else
    let s := s.hold d x.2.2.1 0 { admitMsg := msg, ring }
    ((x.2.2.1.devices.drop 1).foldl (fun s e => s.sendPrepare (dCtx d) d e.1) s).tryCommit (dCtx d)

/-- A device has answered PREPARE, or could not be asked (R170, R173). -/
def State.answered (s : State) (k no status detail : Nat) : State :=
  let c := s.ctx k
  match c.awaiting.find? (fun e => e.2 == no) with
  | none => s
  | some (ep, _) =>
    let s := s.modCtx k fun c => { c with awaiting := c.awaiting.filter (fun e => e.2 != no) }
    if status ≠ 0 then s.refuseHeld k status detail ep
    else (s.modCtx k fun c => { c with prepared := c.prepared ++ [ep] }).tryCommit k

/-- Context whose PREPARE has a request number. -/
def State.prepareOf (s : State) (no : Nat) : Option Nat :=
  (s.heldCtxs.find? fun e => e.2.awaiting.any fun a => a.2 == no).map (·.1)

/-- A PREPARE has failed on the way. -/
def State.prepareEnded (s : State) (no status : Nat) : State :=
  match s.prepareOf no with
  | some k => if status ≠ 0 then s.answered k no status 0 else s
  | none => s

/-- A context becomes FREE and everything it staged goes (R127, R169, R183). -/
def State.freeCtx (s : State) (k : Nat) : State := { s with board := { s.board with ctxs := tdel s.board.ctxs k } }

end Sys2Proof.Machine
end

