-- ==== Sys2Proof/Machine/Answers.lean ====
section
/-! DEFINITION. Responses and timeouts at a requester as commands, with what the device itself awaited
(03 R106, R109, R110, R114, R569, 07 R245, R246, 08 R275). -/

namespace Sys2Proof.Machine

open Sys2Proof

/-- What the end of VC3 grains and VC6 requests does in the device, once per command. -/
def State.afterEnds (s : State) : State :=
  let l := s.ep.ended
  let s := { s with ep := { s.ep with ended := [] }, faette := { s.faette with ended := [] } }
  l.foldl (fun s e => (s.keyEnded e.1 e.2).prepareEnded e.1 e.2) s


/-- LOAD_DATA (R246): a requester matches a LOAD_DATA response, releases the copy and hands the data to the engine. -/
def execLoadData (a : Arrival) (g : Grain) (s : State) : Out :=
  .next ((s.took a 1).onResponse a.ep g (·.onLoadData a.ep g)).afterEnds

/-- COMPLETION (R106): releases the covered copies, cumulatively or not. -/
def execCompletion (a : Arrival) (g : Grain) (s : State) : Out :=
  .next ((s.took a 1).onResponse a.ep g (·.onCompletion a.ep g)).afterEnds

/-- ERROR (R569, R114). -/
def execError (a : Arrival) (g : Grain) (s : State) : Out :=
  .next ((s.took a 1).onResponse a.ep g (·.onError a.ep g)).afterEnds

/-- RESEND_TIMEOUT_EXPIRY (R109, R110): a grain with no acknowledgement RESEND_TIMEOUT spans after its latest send is
re-sent, or its request fails; before that time nothing is due. -/
def execResendTimeoutExpiry (w : EpSel) (dst : EpId) (vc : BitVec 3) (tag : BitVec 15) (s : State) : Out :=
  .next (match ((s.epOf w).chan dst.toNat vc.toNat).copies.find? (fun k => k.grain.tag == tag) with
    | none => s
    | some k =>
      if !k.due ∧ k.lastSpan + s.epReg w 0x3080 1 ≤ s.epSpan w then (s.recover w dst.toNat vc.toNat tag.toNat none).afterEnds
      else s)

/-- REQUEST_BACKSTOP (R245): (RESEND_LIMIT + 1) × RESEND_TIMEOUT + AGEING_LIMIT spans after its first send a request
with neither acknowledgement nor failure fails. -/
def execRequestBackstop (w : EpSel) (dst : EpId) (vc : BitVec 3) (tag : BitVec 15) (s : State) : Out :=
  .next (match ((s.epOf w).chan dst.toNat vc.toNat).copies.find? (fun k => k.grain.tag == tag) with
    | none => s
    | some k =>
      let limit := (s.epReg w 0x3080 2 + 1) * s.epReg w 0x3080 1 + s.epReg w 0x3080 3
      if !k.first ∧ k.firstSpan + limit ≤ s.epSpan w then
        (s.failFrom w dst.toNat vc.toNat tag.toNat St.resendExhausted).afterEnds
      else s)

/-- HOME_ACK (R272, R273): the home's status for the waiting command. -/
def execHomeAck (m : Msg) (s : State) : Out :=
  .next (
    let x := s.takeAnswer .internal m
    let s := x.1
    match x.2, s.keys.now with
    | some no, some j =>
      if j.no = no ∧ (j.phase = 2 ∨ j.phase = 3) then (s.keyStep j (leAt m.payload 0 2)).afterEnds
      else s.afterEnds
    | _, _ => s.afterEnds)

/-- MIRROR_STATE (R279): the partner record for the READ that waits. -/
def execMirrorState (m : Msg) (s : State) : Out :=
  .next (
    let x := s.takeAnswer .internal m
    let s := x.1
    match x.2, s.keys.now with
    | some no, some j =>
      if j.no = no ∧ j.phase = 6 then
        (s.keyStep { j with found := BitVec.ofNat 128 (leAt m.payload 4 16) } St.ok).afterEnds
      else s.afterEnds
    | _, _ => s.afterEnds)

end Sys2Proof.Machine
end

