-- ==== Sys2Proof/Machine/Admission.lean ====
section
/-! DEFINITION. Admission messages, deadlines, end tokens at the device, completion and the operation digest as commands
(05 R167 to R187, 16 R483, R484, R498). -/

namespace Sys2Proof.Machine

open Sys2Proof

/-- Core F passes an admission message to core A: the status of the first that is stopped (R422). -/
def State.coresFA (s : State) : Option Nat :=
  match s.coreStop 2 with
  | some st => some st
  | none => s.coreStop 3

/-- Descriptor at the beginning of a payload. -/
def descOf (b : Bytes) : Desc := BitVec.ofNat 1024 (leAt b 0 128)

/-- ADMIT (R167, R168, R170, R171): the anchor checks a descriptor and asks the other listed devices. -/
def execAdmit (m : Msg) (s : State) : Out :=
  .next (
    if m.kind ≠ 0x20 then s
    else
      let x := s.takeMsg .internal m .kept
      if !x.2 then x.1
      else
        match x.1.coresFA with
        | some st => x.1.admitAnswer (some m) none st 0 s.ownEp (fingerprint (descOf m.payload))
        | none => (x.1.admitHere (descOf m.payload) m.part.toNat (some m) none).afterEnds)

/-- Answer a PREPARE. -/
def State.prepared (s : State) (m : Msg) (status detail : Nat) : State :=
  s.answerMsg .internal m 0x23 (natLe 2 status ++ natLe 1 detail)

/-- PREPARE (R169, R171, R172): a listed device checks a descriptor, holds its claims and answers. -/
def execPrepare (m : Msg) (s : State) : Out :=
  .next (
    if m.kind ≠ 0x22 then s
    else
      let x := s.takeMsg .internal m .kept
      if !x.2 then x.1
      else
        match x.1.coresFA with
        | some st => x.1.prepared m st 0
        | none =>
          let s := x.1.devTally 7 1
          let c := s.prepareCheck (descOf m.payload)
          if c.1 = 0 then (s.hold (descOf m.payload) c.2.2.1 c.2.2.2 {}).prepared m St.ok 0
          else (s.addReg 0x5000 6 64 1).prepared m c.1 c.2.1)

/-- PREPARED (R170, R173): the anchor collects an answer, and commits or refuses. -/
def execPrepared (m : Msg) (s : State) : Out :=
  .next (
    let x := s.takeAnswer .internal m
    let s := x.1
    (match x.2 with
     | some no =>
       (match s.prepareOf no with
        | some k => s.answered k no (leAt m.payload 0 2) (leAt m.payload 2 1)
        | none => s)
     | none => s).afterEnds)

/-- ADMIT_RESULT (R173): the issuer learns status, DETAIL, refusing device and fingerprint. -/
def execAdmitResult (a : Arrival) (m : Msg) (s : State) : Out :=
  .next (
    let x := (s.tookMsg a m).takeAnswer a.ep m
    let s := match x.2 with
      | some _ => x.1.emit (.agent "ADMIT_RESULT" [leAt m.payload 0 2, leAt m.payload 2 1, leAt m.payload 3 2, leAt m.payload 5 8])
      | none => x.1
    s.afterEnds)

/-- The PREPARED context that a COMMIT or RELEASE names. -/
def State.preparedBy (s : State) (m : Msg) : Option Nat :=
  let k := leAt m.payload 0 1 % 32
  let c := s.ctx k
  if c.state = 1 ∧ dFirst c.desc = leAt m.payload 1 8 then some k else none

/-- COMMIT (R169, R170): in hardware, from PREPARED to RESIDENT, unless its deadline has passed. -/
def execCommit (m : Msg) (s : State) : Out :=
  .next (
    if m.kind ≠ 0x24 then s
    else
      let x := s.takeMsg .internal m .none
      if !x.2 then x.1
      else
        match x.1.preparedBy m with
        | none => x.1
        | some k =>
          if dFirst (s.ctx k).desc ≤ s.clock.span + 1 then x.1.raiseFail k St.admissionLate 0x3FFF else x.1.commit k)

/-- RELEASE (R169, R173): from PREPARED to FREE, and the claims are freed. -/
def execRelease (m : Msg) (s : State) : Out :=
  .next (
    if m.kind ≠ 0x25 then s
    else
      let x := s.takeMsg .internal m .none
      if !x.2 then x.1
      else
        match x.1.preparedBy m with
        | none => x.1
        | some k => x.1.freeCtx k)

/-- Context of the instance that a CANCEL names, at its anchor. -/
def State.cancelled (s : State) (k first : Nat) : Option Context :=
  let c := s.ctx (k % 32)
  if c.state ≠ 0 ∧ c.anchor ∧ dFirst c.desc = first then some c else none

/-- What a CANCEL that is accepted does: refuse before the commit, an end token after it, nothing after the end (R174). -/
def State.cancelCtx (s : State) (k : Nat) : State :=
  let c := s.ctx k
  if c.state = 1 then s.refuseHeld k St.cancelled 0 s.ownEp
  else if c.state = 2 then s.raiseFail k St.cancelled 0x3FFF
  else s

/-- CANCEL (R174): only from ISSUER_EP. -/
def execCancel (m : Msg) (s : State) : Out :=
  .next (
    if m.kind ≠ 0x26 then s
    else
      let k := leAt m.payload 0 1
      let refusal : Option Nat :=
        match s.coresFA with
        | some st => some st
        | none =>
          match s.cancelled k (leAt m.payload 1 8) with
          | some c => if dIssuer c.desc ≠ m.src.toNat then some St.contextDenied else none
          | none => none
      let x := s.takeOrRefuse .internal m refusal
      if !x.2 then x.1
      else
        match x.1.cancelled k (leAt m.payload 1 8) with
        | some _ => x.1.cancelCtx (k % 32)
        | none => x.1)

/-- MISMATCH_NOTE (R177): the anchor collects dissenters for 4 spans after it processed the end token. -/
def execMismatchNote (m : Msg) (s : State) : Out :=
  .next (
    if m.kind ≠ 0x27 then s
    else
      let x := s.takeOrRefuse .internal m s.coresFA
      if !x.2 then x.1
      else
        let k := leAt m.payload 0 1 % 32
        let c := x.1.ctx k
        let l := (List.range (leAt m.payload 9 2)).map fun i => leAt m.payload (11 + 2 * i) 2
        if c.state = 3 ∧ c.anchor ∧ c.recordOwed ∧ dFirst c.desc = leAt m.payload 1 8 ∧ s.clock.span ≤ c.endSpan + 4 then
          x.1.setCtx k { c with dissent := (c.dissent ++ l).eraseDups }
        else x.1)

/-- COLLECTIVE_COMPLETION (R187): the issuer receives a completion record. -/
def execCollectiveCompletion (a : Arrival) (m : Msg) (s : State) : Out :=
  .next (
    let s := s.tookMsg a m
    if m.kind ≠ 0x28 then s
    else
      let x := s.takeMsg a.ep m .none
      if x.2 then x.1.emit (.agent "COMPLETION" [leAt m.payload 0 128]) else x.1)

/-- ADMIT_DEADLINE (R170): the anchor has not committed before its deadline. -/
def execAdmitDeadline (k : Ctx) (s : State) : Out :=
  .next (
    let c := s.ctx k
    if c.state = 1 ∧ c.anchor ∧ dFirst c.desc ≤ s.clock.span + c.lead then s.refuseHeld k St.admissionLate 0 s.ownEp
    else s)

/-- COMMIT_DEADLINE (R170): a listed device is still PREPARED at the start of FIRST_SPAN - 1. -/
def execCommitDeadline (k : Ctx) (s : State) : Out :=
  .next (
    let c := s.ctx k
    if c.state = 1 ∧ !c.anchor ∧ dFirst c.desc ≤ s.clock.span + 1 then s.raiseFail k St.admissionLate 0x3FFF else s)

/-! ### End tokens at the device (R178, R302) -/

/-- A valid end token at the device: the first of an instance is processed, later ones are counted, others discarded. -/
def State.endTokenHere (s : State) (p fields : Nat) : State :=
  let k := fld fields 57 53
  let c := s.ctx k
  if c.state ≠ 0 ∧ dPart c.desc = fld fields 63 58 ∧ dInst c.desc = fld fields 52 37 then
    if c.held then s.endCtx k (fld fields 36 21) (fld fields 20 7) (some p) else s.portTally p 35 1
  else s

/-- END_TOKEN_REPEAT (R302): once per span while the instance is QUIESCING. -/
def execEndTokenRepeat (k : Ctx) (s : State) : Out :=
  .next (
    let c := s.ctx k
    match c.ended with
    | some (st, sub) =>
      if c.state = 3 then
        s.sendEnd c.tokens (endFields c.desc st sub)
      else s
    | none => s)

/-- QUIESCE_EXPIRY (R183): AGEING_LIMIT + 1 spans after the end token the context is FREE. -/
def execQuiesceExpiry (k : Ctx) (s : State) : Out :=
  .next (
    let c := s.ctx k
    if c.state = 3 ∧ c.endSpan + s.reg 0x3080 3 + 1 ≤ s.clock.span then
      (if c.recordOwed then s.sendRecord k 0 else s).freeCtx k
    else s)

/-- DATA_PRIMITIVE_END (R184): at FIRST_SPAN + SPAN_COUNT + AGEING_LIMIT the anchor of a data primitive raises OK. -/
def execDataPrimitiveEnd (k : Ctx) (s : State) : Out :=
  .next (
    let c := s.ctx k
    if c.state = 2 ∧ c.anchor ∧ isData c.desc ∧ dFirst c.desc + dSpans c.desc + s.reg 0x3080 3 ≤ s.clock.span then
      s.raiseOk k none
    else s)

/-- The records that are due of ADMITs refused without a context. -/
def State.refusedRecords (s : State) (k : Nat) : State :=
  let due (r : Refused) : Bool := dCtx r.desc == k && decide (r.span + 4 ≤ s.clock.span)
  (s.board.refused.filter due).foldl (fun s r =>
    s.giveRecord r.desc (completionRecord r.desc r.fingerprint 0 r.span r.ep r.detail r.status []) r.status r.span r.ring)
    { s with board := { s.board with refused := s.board.refused.filter fun r => !due r } }

/-- COMPLETION_RECORD_DUE (R177, R187): 4 spans after a failure token. -/
def execCompletionRecordDue (k : Ctx) (s : State) : Out :=
  .next (
    let c := s.ctx k
    let s := s.refusedRecords k
    if c.state = 3 ∧ c.recordOwed ∧ c.endSpan + 4 ≤ s.clock.span then s.sendRecord k 0 else s)

/-! ### Digests (R483, R484) -/

/-- One level of a tree digest: pairs are joined, an odd last one goes up as it is. -/
def treeLevel : List Bytes → List Bytes
  | a :: b :: r => sha3 (0x01 :: (a ++ b)) :: treeLevel r
  | l => l

/-- Reduce a level to one value; fuel bounds the height. -/
def treeRoot : Nat → List Bytes → Bytes
  | 0, l => l.headD []
  | n + 1, l => if l.length ≤ 1 then l.headD [] else treeRoot n (treeLevel l)

/-- tree_digest over 256-octet blocks, in leaves of 32 (R483). -/
def treeDigest (blocks : List Bytes) (domain : Byte) (hdr : Bytes) : Nat :=
  let n := (blocks.length + 31) / 32
  let leaves := (List.range n).map fun i => sha3 (0x00 :: (natLe 8 i ++ ((blocks.drop (32 * i)).take 32).flatten))
  sha3n (domain :: (hdr ++ treeRoot (n.log2 + 2) leaves))

/-- The operation header (Table 16.5). -/
def operationHeader (d : Desc) (n : Nat) : Nat :=
  0x0100 + put (dPrim d) 100 97 + put (b2n (dWrap d)) 101 101 + put (dRounding d) 103 102 + put (dOp d) 107 104
    + put (dIn d) 115 108 + put (dOut d) 123 116 + put (dRoot d) 137 124 + put n 151 138 + put (dCount d) 191 152
    + put (dSeed d) 255 192

/-- Result blocks of an instance. -/
def resultBlocks (d : Desc) : Nat := ceilDiv (dCount d) (outFmt d).per

def Context.digest (c : Context) : Nat :=
  treeDigest ((List.range (resultBlocks c.desc)).map fun b => natLe 256 (tget c.results b 0).toNat) 0x02
    (natLe 64 (operationHeader c.desc c.roster.members.length))

/-- Every board slot of a mirrored instance has compared equal (R498). -/
def State.comparedEqual (s : State) (k : Nat) : Bool :=
  !s.mirrored k ||
  (!s.lock.unequal.contains k && !(s.lock.own.any fun x => x.ctx == k) && !((s.ctx k).begun.any fun b => !b.digested))

/-- A RESULT grain that the device's board has emitted for a context. -/
def State.isOwnResult (s : State) (k : Nat) (g : Grain) : Bool :=
  g.vc == 5 && g.op == 5 && g.src.toNat == s.ownEp && g.context == k

/-- No RESULT grain of a context waits at an egress. -/
def State.resultsOut (s : State) (k : Nat) : Bool :=
  !(s.xbar.claims.any fun c => s.isOwnResult k c.grain) && !(s.xbar.pushOpen.any fun c => s.isOwnResult k c.grain)

/-- The last RESULT grain is out: OK, at once or with the digest (R184, R484, R498). -/
def State.finishReduction (s : State) (k : Nat) : State :=
  let c := s.ctx k
  if c.state = 2 ∧ c.anchor ∧ c.finished ∧ s.resultsOut k ∧ !dDigest c.desc ∧ s.comparedEqual k then s.raiseOk k none else s

/-- OPERATION_DIGEST_COMPLETE (R484): the digest of an instance whose results are all out. -/
def execOperationDigestComplete (k : Ctx) (s : State) : Out :=
  .next (
    let c := s.ctx k
    if c.state = 2 ∧ c.anchor ∧ c.finished ∧ s.resultsOut k ∧ dDigest c.desc ∧ s.comparedEqual k then
      (s.devTally 5 (256 * resultBlocks c.desc)).raiseOk k (some c.digest)
    else s)

end Sys2Proof.Machine
end

