-- ==== Sys2Proof/Machine/LockStep.lean ====
section
/-! DEFINITION. Lock-step comparison of mirrored contexts (16 R494 to R498, Table 16.9). -/

namespace Sys2Proof.Machine

open Sys2Proof

/-! ### LOCKSTEP (R494) -/

/-- A write to CONTEXTS B110:01. -/
def lockstepEffect : Effect := fun _ v s =>
  let new := leNat v
  if s.reg 0x1020 5 ≠ 1 ∨ s.pair.partner = 0x3FFF ∨ !Config.lockstepCapable s.pair.partner then refuse s St.featureAbsent
  else if (List.range 32).any (fun k => bit new k != s.mirrored k && (s.ctx k).state != 0) then refuse s St.valueRefused
  else done (s.setReg 0xB110 1 new)

/-- LOCKSTEP (R494): a write that names the mirrored contexts. -/
def execLockstep (r : Route) (v : Bytes) (s : State) : Out := .next (s.rowWrite r 0xB110 1 v lockstepEffect)

/-! ### Slot digests (R496) -/

/-- Octets of an image. -/
def imageBytes (v : Nat) : Bytes := natLe 40 v

/-- The slot digest of a record's payloads and images. -/
def slotDigest (ctx span slot : Nat) (payloads : List (BitVec 2048)) (images : List Nat) : Nat :=
  sha3n (0x05 :: (natLe 1 ctx ++ natLe 8 span ++ natLe 2 slot ++ payloads.flatMap (fun p => natLe 256 p.toNat)
    ++ images.flatMap imageBytes)) % 2 ^ 128

/-- A divergence of a slot: counted, journalled and reported; the first since the last clear is kept; with ACTION 1 the
instance is aborted (R497, R498). -/
def State.diverge (s : State) (ctx span slot kind own theirs : Nat) : State :=
  let c := s.ctx ctx
  let rec_ := put kind 18 17 + put 0xFFFF 34 19 + put 0x1FFF 47 35 + put ctx 52 48 + put slot 63 53 + put span 127 64
  let first := s.reg 0xB110 5 == 0
  let s := s.addReg 0xB110 5 32 1
  let s := if first then s.setReg 0xB110 6 rec_ else s
  let s := { s with lock := { s.lock with unequal := if s.lock.unequal.contains ctx then s.lock.unequal else ctx :: s.lock.unequal } }
  let action := s.reg 0xB110 3 == 1
  let s := s.append {
    kind := 7, digest := own * 2 ^ 384 + theirs * 2 ^ 256, reference := span, opTag := dOperator c.desc, layerTag := dLayer c.desc,
    part := dPart c.desc, ctx, primitive := dPrim c.desc, status := if action then St.abortedPeer else St.ok }
  let s := s.fault 0x15 5 ctx (if action then St.abortedPeer else St.ok) kind 3 (some (dPart c.desc))
  if action then s.raiseFail ctx St.abortedPeer 0x3FFF else s

/-- Key of a slot among digests. -/
def SlotDigest.same (a b : SlotDigest) : Bool := a.ctx == b.ctx && a.span == b.span && a.slot == b.slot

/-- Ask the partner for the CHECK words of a record, or for one of its output grains (log 43). -/
def State.askPlace (s : State) (o : SlotDigest) (kind : Nat) (rest : Bytes) : State :=
  s.tell s.pair.partner 0 1 kind (natLe 1 o.ctx ++ natLe 8 o.span ++ natLe 2 o.slot ++ rest)

/-- A pair of digests is complete: equal, or a divergence of KIND 0 whose place is sought. -/
def State.comparePair (s : State) (own theirs : SlotDigest) : State :=
  let s := s.addReg 0xB110 4 64 1
  if own.digest = theirs.digest then s
  else
    let first := s.reg 0xB110 5 == 0
    let s := s.diverge own.ctx own.span own.slot 0 own.digest theirs.digest
    if first then
      ({ s with lock := { s.lock with seeking := some own, grainAt := 0xFFFF } }).askPlace own 0x62 []
    else s

/-- A digest of this side is formed: side 0 compares it or keeps it, side 1 keeps it for the end of the span. -/
def State.ownDigest (s : State) (d : SlotDigest) : State :=
  if s.isSide0 then
    match s.lock.theirs.find? d.same with
    | some t =>
      ({ s with lock := { s.lock with theirs := s.lock.theirs.filter fun x => !x.same d } }).comparePair d t
    | none => { s with lock := { s.lock with own := s.lock.own ++ [d] } }
  else { s with lock := { s.lock with own := (s.lock.own ++ [d]).drop (s.lock.own.length - 4095), toSend := s.lock.toSend ++ [d] } }

/-- Entry of a slot digest in a message of KIND 0x61 (log 43). -/
def digestEntry (d : SlotDigest) : Bytes := natLe 16 d.digest ++ natLe 8 d.span ++ natLe 2 d.slot ++ natLe 6 d.ctx

/-- At the end of a span side 1 sends its slot digests, eight to a grain (R496). -/
def State.sendDigests (s : State) : State :=
  let l := s.lock.toSend
  let s := { s with lock := { s.lock with toSend := [] } }
  (List.range ((l.length + 7) / 8)).foldl (fun s i =>
    s.tell s.pair.partner 0 1 0x61 (((l.drop (8 * i)).take 8).flatMap digestEntry)) s

/-- One received digest. -/
def State.theirDigest (s : State) (t : SlotDigest) : State :=
  match s.lock.own.find? t.same with
  | some o => ({ s with lock := { s.lock with own := s.lock.own.filter fun x => !x.same t } }).comparePair o t
  | none => { s with lock := { s.lock with theirs := s.lock.theirs ++ [t] } }

/-- Once every slot has compared equal, an instance that waits for nothing else ends (R498). -/
def State.finishAll (s : State) : State := (List.range 32).foldl State.finishReduction s

/-- SLOT_DIGESTS (R496): side 0 receives side 1's digests and compares each pair.  DESIGN CHOICE (log 190): one from an end-point
that is not the partner is dropped before the TAG test. -/
def execSlotDigests (m : Msg) (s : State) : Out :=
  .next (
    if m.kind ≠ 0x61 ∨ m.src.toNat ≠ s.pair.partner then s
    else
      let x := s.takeMsg .internal m .none
      if !x.2 then x.1
      else
        let l := (Machine.pieces 32 (min 8 (m.payload.length / 32)) m.payload).map fun b =>
          ({ ctx := leAt b 26 6, span := leAt b 16 8, slot := leAt b 24 2, digest := leAt b 0 16 } : SlotDigest)
        (l.foldl State.theirDigest x.1).finishAll)

/-- DIGEST_WAIT_EXPIRY (R496): digests still missing WAIT_SPANS after their slot are divergences of KIND 1. -/
def execDigestWaitExpiry (s : State) : Out :=
  .next (
    let late (d : SlotDigest) : Bool := decide (d.span + s.reg 0xB110 8 ≤ s.clock.span)
    let l := if s.isSide0 then s.lock.own.filter late else []
    l.foldl (fun s d => s.diverge d.ctx d.span d.slot 1 d.digest 0)
      (if s.isSide0 then { s with lock := { s.lock with own := s.lock.own.filter fun d => !late d } } else s))

/-! ### Where a divergence lies (R497, R126) -/

/-- CHECK words of a record's output payloads and images, in that order (log 43). -/
def SlotDigest.checks (d : SlotDigest) : List Nat :=
  d.payloads.map (fun p => crc32c (natLe 256 p.toNat)) ++ d.images.map (fun x => crc32c (imageBytes x.2))

/-- The octets of output grain or image q of a record. -/
def SlotDigest.item (d : SlotDigest) (q : Nat) : Bytes :=
  match d.payloads[q]? with
  | some p => natLe 256 p.toNat
  | none => imageBytes ((d.images.getD (q - d.payloads.length) (0, 0)).2)

/-- The rod of element j of a record (R126). -/
def rodOf (quarters j : Nat) : Nat :=
  let l := maskBits quarters 4
  let r := j % (1024 * max 1 l.length)
  1024 * l.getD (r / 1024) 0 + r % 1024

/-- The kept record that a request names: context, span and slot at the beginning of its payload. -/
def State.keptRecord (s : State) (b : Bytes) : Option SlotDigest :=
  s.lock.own.find? fun d => d.ctx == leAt b 0 1 && d.span == leAt b 1 8 && d.slot == leAt b 9 2

/-- CHECK_WORDS_REQUEST (R497): side 1 answers with the CHECK words of a record. -/
def execCheckWordsRequest (m : Msg) (s : State) : Out :=
  .next (
    if m.kind ≠ 0x62 then s
    else
      let x := s.takeMsg .internal m .reading
      if x.2 then
        x.1.sendAnswer .internal m 0x63 (((x.1.keptRecord m.payload).map fun d => d.checks.flatMap (natLe 4)).getD [])
      else x.1)

/-- Write the place of the first divergence into B110:06. -/
def State.placeFound (s : State) (grain rod : Nat) : State :=
  let old := s.reg 0xB110 6
  let new := old - put (fld old 34 19) 34 19 - put (fld old 47 35) 47 35 + put grain 34 19 + put rod 47 35
  { s.setReg 0xB110 6 new with lock := { s.lock with seeking := none } }

/-- CHECK_WORDS_ANSWER (R497): side 0 finds the first item that differs, and fetches it. -/
def execCheckWordsAnswer (m : Msg) (s : State) : Out :=
  .next (
    let x := s.takeAnswer .internal m
    let s := x.1
    let s := match x.2, s.lock.seeking with
      | some _, some o =>
        let theirs := (Machine.pieces 4 (m.payload.length / 4) m.payload).map leNat
        (match (List.range o.checks.length).find? (fun q => o.checks.getD q 0 != theirs.getD q 0) with
         | none => s.placeFound 0xFFFF 0x1FFF
         | some q => ({ s with lock := { s.lock with grainAt := q } }).askPlace o 0x64 (natLe 2 q))
      | _, _ => s
    s.afterEnds)

/-- GRAIN_FETCH_REQUEST (R497): side 1 answers with one output grain or image. -/
def execGrainFetchRequest (m : Msg) (s : State) : Out :=
  .next (
    if m.kind ≠ 0x64 then s
    else
      let x := s.takeMsg .internal m .reading
      if x.2 then
        x.1.sendAnswer .internal m 0x65 (((x.1.keptRecord m.payload).map fun d => d.item (leAt m.payload 11 2)).getD [])
      else x.1)

/-- First element of the record in which item q differs from the partner's. -/
def SlotDigest.firstDiff (d : SlotDigest) (q : Nat) (theirs : Bytes) : Nat :=
  if q < d.payloads.length then
    let mine := d.item q
    let bits := 2048 / max 1 d.per
    let k := ((List.range d.per).find? fun k =>
      fld (leNat mine) (bits * k + bits - 1) (bits * k) != fld (leNat theirs) (bits * k + bits - 1) (bits * k)).getD 0
    q * d.per + k
  else (d.images.getD (q - d.payloads.length) (0, 0)).1

/-- GRAIN_FETCH_ANSWER (R497): side 0 names the first differing element's rod. -/
def execGrainFetchAnswer (m : Msg) (s : State) : Out :=
  .next (
    let x := s.takeAnswer .internal m
    let s := x.1
    let s := match x.2, s.lock.seeking with
      | some _, some o => s.placeFound s.lock.grainAt (rodOf o.quarters (o.firstDiff s.lock.grainAt m.payload))
      | _, _ => s
    s.afterEnds)

end Sys2Proof.Machine
end

