-- ==== Sys2Proof/Machine/Board.lean ====
section
/-! DEFINITION. The Counting Board at work: contributions, carry words and bead images come in; at the end of a board slot
its record emits completed blocks, sends queued images and asks for what is missing (02 R46, R61, R66, 03 R112,
04 R126, R127, R132 to R157, 05 R175 to R177, R184, R185, 10 R337). -/

namespace Sys2Proof.Machine

open Sys2Proof

/-! ### Records and what they expect -/

/-- The table under which the board slots of now run: slot 0 of ACTIVATE_SPAN belongs to the old one (R66). -/
def State.boardTable (s : State) : Option SpanTable :=
  if s.clock.slot = 0 ∧ s.sched.switchedAt = some s.clock.span then s.sched.previous
  else if s.clock.align ≠ 2 ∨ s.sched.inTransition then none
  else s.sched.active

/-- The record of the running board slot (R61). -/
def State.boardNow (s : State) : Option BoardRec :=
  match s.boardTable with
  | none => none
  | some t => t.boards.find? fun b => b.slot == s.clock.slot

/-- Device index whose members and children the board expects: side 1 of a mirrored context expects those of side 0. -/
def State.boardIndex (s : State) (k : Nat) : Nat := if s.mirrored k && !s.isSide0 then 0 else (s.ctx k).me

/-- Elements of an output block of a role. -/
def outPer (d : Desc) (role : Nat) : Nat := if role = 1 then (outFmt d).per else (inFmt d).words

/-- First element and end of a block of o elements. -/
def blockRange (d : Desc) (o b : Nat) : Nat × Nat := (b * o, min (dCount d) ((b + 1) * o))

/-- Blocks of o elements that the record of chunk k emits: those whose first element lies in it (DESIGN CHOICE, log 79). -/
def chunkBlocks (d : Desc) (o k : Nat) : List Nat :=
  let lo := ceilDiv (k * dChunk d) o
  let hi := ceilDiv (min (dCount d) ((k + 1) * dChunk d)) o
  (List.range (hi - lo)).map (lo + ·)

/-- Chunks of the operation. -/
def chunks (d : Desc) : Nat := ceilDiv (dCount d) (dChunk d)

/-- Every segment of an element's image has come from a child. -/
def Context.imaged (c : Context) (child e : Nat) : Bool :=
  (List.range (gangOf c.desc)).all fun g => c.images.contains (child, e, g)

/-- An element of a child's word has been added: its word, or in long mode its images (R138, R145). -/
def Context.wordIn (c : Context) (child e : Nat) : Bool :=
  (c.got.contains (1, child, e / (inFmt c.desc).words) && !c.escaped.contains (child, e)) ||
  (longMode c.desc && c.imaged child e)

/-- What elements lo to hi - 1 still lack: (kind, sender, block) of Missing. -/
def Context.lacks (c : Context) (idx lo hi : Nat) : List (Nat × Nat × Nat) :=
  let d := c.desc
  let inB := (inFmt d).per
  let w := (inFmt d).words
  let span (per : Nat) : List Nat := (List.range (ceilDiv hi per - lo / per)).map (lo / per + ·)
  ((c.roster.membersAt idx).flatMap fun m =>
    ((span inB).filter fun b => !c.got.contains (0, m, b)).map fun b => (0, m, b)) ++
  ((c.roster.children idx).flatMap fun ch =>
    ((span w).filter fun b =>
      (List.range w).any fun i =>
        decide (lo ≤ w * b + i) && decide (w * b + i < hi) && !c.wordIn ch (w * b + i)).map fun b => (1, ch, b))

/-! ### Sending from the board (R46, R139) -/

/-- Grain times behind its claim at which an output can leave whose input comes in the running slot: that input enters the board
in the next slot (R46, R73). -/
def State.inheritedBy (s : State) (b : BoardRec) (span : Nat) : Nat :=
  s.grainTime ((s.clock.slot + 1) * s.slotLen) - s.slotLen * b.slot - span * s.spanLen

/-- Put an output grain at position i of a record's window on a port. -/
def State.placeOutput (s : State) (span : Nat) (b : BoardRec) (p i : Nat) (g : Grain) (late : Bool) : State :=
  let t := span * s.spanLen + b.window s.slotLen + (if s.isHalf p then 2 * i else i)
  if (s.mapAt s.clock.span p true).isNone then s.portTally p 23 1
  else s.addClaim { grain := g.seal (t / s.spanLen), port := p, part := b.part, span := t / s.spanLen, offset := t % s.spanLen,
                    inherited := if late then s.inheritedBy b span else 0, board := true }

/-- Keep output grains for re-sends; one that goes to no port is kept for the comparison (R112, R185). -/
def State.keepOutput (s : State) (k : Nat) (ports : List Nat) (g : Grain) : State :=
  s.modCtx k fun c => { c with copies := c.copies ++ (if ports.isEmpty then [(63, g)] else ports.map fun p => (p, g)) }

/-- The record that handles a chunk: the one that has begun it, or that will, the LEVEL and ROOT records of the context taking
one chunk each in turn from the running slot on (R126, log 40). -/
def State.recordFor (s : State) (k chunk : Nat) : BoardRec :=
  let c := s.ctx k
  match c.begun.find? (fun b => b.chunk == chunk) with
  | some b => b.rec_
  | none =>
    let l := (s.recordsOf c.desc).filter fun b => b.role == 0 || b.role == 1
    let at_ := l.findIdx fun b => decide (s.clock.slot ≤ b.slot)
    l.getD ((at_ + chunk - c.begun.length) % max 1 l.length) {}

/-- Where a segment of an element lies under a record: its rod, and its window among those that the context claims (R126). -/
def Context.place (c : Context) (quarters e segment : Nat) : Nat × Nat :=
  let j := e % max 1 (dChunk c.desc)
  let rods := 1024 * max 1 (popcount quarters 4)
  (rodOf quarters j, c.claimed.getD (j / rods * gangOf c.desc + segment) 0)

/-- Quarter in which an element's bead lies (R12, R126). -/
def State.quarterAt (s : State) (k e : Nat) : Nat :=
  let c := s.ctx k
  (c.place (s.recordFor k (e / max 1 (dChunk c.desc))).quarters e 0).1 / 1024

/-- Count the handshakes of one add for each of some elements: n elements take one for `lanes` of them in a quarter, or with 0
lanes 8 for each (R124). -/
def State.countShakes (s : State) (k : Nat) (es : List Nat) (lanes : Nat) : State :=
  let qs := es.map (s.quarterAt k)
  let cost (n : Nat) : Nat := if lanes = 0 then 8 * n else ceilDiv n lanes
  let s := (List.range 4).foldl (fun s i => s.quarterTally i 8 (cost (qs.filter (· == i)).length)) s
  s.tagTally k none 10 (cost es.length)

/-! ### Emission (R136, R139 to R141, R148) -/

/-- The exact value of a bead (R148, R153, R155). -/
def exactOf (d : Desc) (n : Nat) (b : Bead) : Exact :=
  let f := inFmt d
  match opMode (dOp d) with
  | .sum =>
    if bit b.flags.toNat 2 || (bit b.flags.toNat 0 && bit b.flags.toNat 1) then .nan
    else if bit b.flags.toNat 0 then .inf false
    else if bit b.flags.toNat 1 then .inf true
    else .fin b.v f.e0 (if dOp d = 1 then n else 1)
  | .min | .max =>
    if bit b.flags.toNat 2 then .nan
    else
      match b.ext with
      | some .posInf => .inf false
      | some .negInf => .inf true
      | some (.fin v) => .fin v f.e0 1
      | none => .fin 0 f.e0 1
  | _ => .fin (b.running : Nat) 0 1

def Context.bead (c : Context) (e : Nat) : Bead := tget c.beads e {}

/-- What BOARD_ARITH_LOG records of an exhaustion (R143, R157). -/
def State.noteExhaust (s : State) (k slot port block : Nat) : State :=
  (s.setReg 0x5040 4 (put port 23 18 + put slot 34 24 + put k 39 35 + put block 63 40)).setReg 0x5040 5 (dOperator (s.ctx k).desc)

/-- The exhaustion of the escape budget (R143, R157). -/
def State.exhaust (s : State) (k slot port block : Nat) : State :=
  if (s.ctx k).exhausted then s
  else
    (((s.addReg 0x5040 3 32 1).noteExhaust k slot port block).modCtx k fun c => { c with exhausted := true }).raiseFail k
      St.carryExhausted 0x3FFF

/-- The context has an ESCAPE record, and with it an escape budget (R143). -/
def State.hasBudget (s : State) (d : Desc) : Bool := (s.recordsOf d).any fun b => b.role == 2

/-- The word with which a bead leaves in a block's CARRY or LONG_CARRY grain; none: the element escapes.  In long mode every
element without a flag does (R136, R145, log 182). -/
def wordFor (d : Desc) (b : Bead) : Option Nat :=
  if longMode d && b.flags == 0 then none else (inFmt d).emit (opMode (dOp d)) b

/-- Elements of a block whose beads have been emitted are zero again (R127). -/
def Context.clearBlock (c : Context) (o lo hi : Nat) : Context :=
  { c with emitted := o :: c.emitted, beads := c.beads.filter (fun e => decide (e.1 < lo) || decide (hi ≤ e.1)) }

/-- A LEVEL record emits one block: its words, and the images of what escapes, which join the queue of the block's port at the
end of the record's slot (R136, R140, R141, R145).  In long mode only a block with a flag has words to send. -/
def State.emitLevel (s : State) (k : Nat) (bg : Begun) (o q : Nat) (late : Bool) : State :=
  let c := s.ctx k
  let d := c.desc
  let f := inFmt d
  let r := blockRange d f.words o
  let beads := (List.range (r.2 - r.1)).map fun i => c.bead (r.1 + i)
  let words := beads.map (wordFor d)
  let ports := maskBits bg.rec_.outMask 49
  let port := ports.getD (q % max 1 ports.length) 63
  let imgs := (beads.zip words).zipIdx.flatMap fun (x, i) =>
    match x.2 with
    | some _ => []
    | none => (f.segments x.1.v).zipIdx.map fun (v, g) => ({ block := o, element := i, segment := g, v, port } : BeadImage)
  let g := mkColl (if f.long then 3 else 2) (dPart d) s.ownEp k c.me o 0 0
    (packPlain f.shape.width (words.map fun w => w.getD f.shape.escaped))
  let s := s.modCtx k fun c => { c.clearBlock o r.1 r.2 with
    begun := lmod c.begun (fun b => b.chunk == bg.chunk) (fun b => { b with images := b.images ++ imgs }) }
  let s := if longMode d && words.all (·.isNone) then s
    else
      let s := s.keepOutput k (if ports.isEmpty then [] else [port]) g
      if ports.isEmpty then s else s.placeOutput bg.span bg.rec_ port (q / ports.length) g late
  let s := if late then s.tagTally k none 11 1 else s
  if imgs.isEmpty ∨ s.hasBudget d then s else s.exhaust k s.clock.slot port o

/-- A ROOT record emits one block, rounded once, to every port (R139, R148, R184, R185). -/
def State.emitRoot (s : State) (k : Nat) (bg : Begun) (o q : Nat) (late : Bool) : State :=
  let c := s.ctx k
  let d := c.desc
  let f := outFmt d
  let r := blockRange d f.per o
  let l := (List.range (r.2 - r.1)).map fun i => exactOf d c.roster.members.length (c.bead (r.1 + i))
  let payload := f.resultPayload l (dRounding d) (dSeed d) r.1 (dWrap d)
  let ports := maskBits bg.rec_.outMask 49
  let g := mkColl 5 (dPart d) s.ownEp k 0 o 0 0 payload
  let s := s.modCtx k fun c => { c.clearBlock o r.1 r.2 with results := tset c.results o g.payload }
  let s := ports.foldl (fun s p => s.placeOutput bg.span bg.rec_ p q g late) (s.keepOutput k ports g)
  let s := if late then s.tagTally k none 11 1 else s
  s.modCtx k fun c => { c with finished := decide (resultBlocks d ≤ c.results.length) }

/-- A block may be emitted: complete, and the block that held its beads before it is out (R127). -/
def State.blockReady (s : State) (k : Nat) (bg : Begun) (o q : Nat) : Bool :=
  let c := s.ctx k
  let per := outPer c.desc bg.rec_.role
  let r := blockRange c.desc per o
  !c.emitted.contains o && (c.lacks (s.boardIndex k) r.1 r.2).isEmpty &&
  (bg.chunk == 0 ||
    (match (chunkBlocks c.desc per (bg.chunk - 1))[q]? with
     | some b => c.emitted.contains b
     | none => true))

/-- The blocks of a handled chunk that can go out go out, in element order. -/
def State.emitChunk (s : State) (k : Nat) (bg : Begun) (late : Bool) : State :=
  let d := (s.ctx k).desc
  (chunkBlocks d (outPer d bg.rec_.role) bg.chunk).zipIdx.foldl (fun s (o, q) =>
    if (s.ctx k).state = 2 && s.blockReady k bg o q then
      (if bg.rec_.role = 1 then s.emitRoot k bg o q late else s.emitLevel k bg o q late)
    else s) s

/-- The slot digest of a record whose blocks are all out (R496). -/
def State.formDigest (s : State) (k : Nat) (bg : Begun) : State :=
  let c := s.ctx k
  let d := c.desc
  let per := outPer d bg.rec_.role
  let blocks := chunkBlocks d per bg.chunk
  match c.begun.find? (fun b => b.chunk == bg.chunk) with
  | none => s
  | some b =>
    if !s.mirrored k ∨ b.digested ∨ c.state ≠ 2 ∨ !blocks.all (c.emitted.contains ·) then s
    else
      let payloads := blocks.filterMap fun o =>
        if b.rec_.role = 1 then some (tget c.results o 0)
        else (c.copies.find? fun x => (x.2.op == 2 || x.2.op == 3) && x.2.block == o).map fun x => x.2.payload
      let slot := b.rec_.slot
      let imgs := b.images.map fun i => ((inFmt d).words * i.block + i.element - b.chunk * dChunk d, i.v)
      let s := s.modCtx k fun c => { c with begun := lmod c.begun (fun x => x.chunk == bg.chunk) (fun x => { x with digested := true }) }
      s.ownDigest { ctx := k, span := b.span, slot, quarters := b.rec_.quarters, per, payloads, images := imgs,
                    digest := slotDigest k b.span slot payloads (imgs.map (·.2)) }

/-! ### Escape queues (R141 to R145) -/

/-- Take images for at most n grains of six; where BLOCK_DELTA would exceed 255 a new grain starts. -/
def packGrains : Nat → List BeadImage → List (List BeadImage) × List BeadImage
  | 0, l => ([], l)
  | n + 1, l =>
    match l with
    | [] => ([], [])
    | a :: _ =>
      let fits := (l.take 6).takeWhile fun i => decide (a.block ≤ i.block) && decide (i.block ≤ a.block + 255)
      let r := packGrains n (l.drop fits.length)
      (fits :: r.1, r.2)

/-- An ESCAPE grain (Tables 4.7 and 4.8). -/
def escapeGrain (d : Desc) (own me : Nat) (l : List BeadImage) : Grain :=
  let b0 := (l.headD {}).block
  mkColl 4 (dPart d) own (dCtx d) me b0 l.length 0
    (l.zipIdx.foldl (fun n (i, k) =>
      n + i.v % 2 ^ 320 * 2 ^ (320 * k)
        + (put i.segment 15 13 + put (i.block - b0) 12 5 + put i.element 4 0) * 2 ^ (1920 + 16 * k)) 0)

/-- A record takes images from the front of a port's queue and sends them in its window (R142). -/
def State.sendImages (s : State) (k : Nat) (w : Work) (late : Bool) (p : Nat) : State :=
  let c := s.ctx k
  let x := packGrains (s.grainTimes p) (tget c.queues p [])
  let n := x.1.foldl (fun n l => n + l.length) 0
  let s := s.modCtx k fun c => { c with queues := tset c.queues p x.2 }
  let s := x.1.zipIdx.foldl (fun s (l, i) =>
    let g := escapeGrain c.desc s.ownEp c.me l
    (s.keepOutput k [p] g).placeOutput w.span w.rec_ p i g late) s
  if w.rec_.role = 3 then (s.addReg 0x5040 2 64 n).tagTally k (some p) 4 n else s

/-- Every image that is still queued is marked spilled (R142, log 183). -/
def State.markSpilled (s : State) (k : Nat) : State :=
  s.modCtx k fun c => { c with queues := c.queues.map fun e => (e.1, e.2.map fun i => { i with spilled := true }) }

/-- The order in which a slot's images join a queue: block, element, segment (R141). -/
def imageBefore (a b : BeadImage) : Bool :=
  decide (a.block < b.block) || (a.block == b.block && (decide (a.element < b.element) ||
    (a.element == b.element && decide (a.segment < b.segment))))

/-- The images of a LEVEL record's chunks join the queues of their ports (R141). -/
def State.joinImages (s : State) (k : Nat) (chunks : List Nat) : State :=
  let c := s.ctx k
  let imgs := lsort imageBefore (((c.begun.filter fun b => chunks.contains b.chunk).flatMap (·.images)).filter (·.port != 63))
  let s := s.addReg 0x5040 1 64 imgs.length
  let s := imgs.foldl (fun s i => s.quarterTally (s.quarterAt k ((inFmt c.desc).words * i.block + i.element)) 10 1) s
  s.modCtx k fun c => { c with queues := imgs.foldl (fun t i => tmod t i.port [] (· ++ [i])) c.queues }

/-- Every block of the chunks that a record has handled has been emitted. -/
def Context.chunksOut (c : Context) (w : Work) : Bool :=
  w.chunks.all fun k => (chunkBlocks c.desc (outPer c.desc w.rec_.role) k).all (c.emitted.contains ·)

/-- One board slot's part in the escape queues: a LEVEL record's images join, and in long mode it sends from the queues; an
ESCAPE record finds spilled images as it begins, and it and a RESERVE record take images as they end, an ESCAPE record marking
what remains (R141 to R145). -/
def State.work (s : State) (k : Nat) (w : Work) (late : Bool) : State :=
  let send (s : State) : State := (maskBits w.rec_.outMask 49).foldl (fun s p => s.sendImages k w late p) s
  if w.begins then
    match (s.ctx k).spilled with
    | some x => s.exhaust k w.rec_.slot x.1 x.2
    | none => s
  else if w.rec_.role = 0 then
    let s := s.joinImages k w.chunks
    if longMode (s.ctx k).desc then send s else s
  else
    let s := send s
    if w.rec_.role = 2 then s.markSpilled k else s

/-- The board slots of a context take their part in the escape queues in order: one waits until the blocks of the LEVEL records
before it are out, so that lateness changes neither what escapes nor where exhaustion is found (R144, log 184).  `fuel` is the
number of those that wait. -/
def State.runWorks (k : Nat) (late : Bool) : Nat → State → State
  | 0, s => s
  | n + 1, s =>
    let c := s.ctx k
    match c.works with
    | [] => s
    | w :: r =>
      if c.state = 2 ∧ c.chunksOut w then State.runWorks k late n ((s.modCtx k fun c => { c with works := r }).work k w late)
      else s

/-- A board slot of a context joins those that wait, and what can goes on. -/
def State.addWork (s : State) (k : Nat) (w : Work) : State :=
  let s := s.modCtx k fun c => { c with works := c.works ++ [w] }
  State.runWorks k false (s.ctx k).works.length s

/-- Late blocks of every handled chunk, once more inputs are in, and the images that waited for them (R73, R127); then the
digests and the end. -/
def State.emitLate (s : State) (k : Nat) : State :=
  let l := (s.ctx k).begun
  let s := l.foldl (fun s bg => s.emitChunk k bg true) s
  let s := State.runWorks k true (s.ctx k).works.length s
  (l.foldl (fun s bg => s.formDigest k bg) s).finishReduction k

/-! ### Inputs (R132, R133, R176) -/

/-- A grain or an image that the board has already added, or that comes for no resident context. -/
def State.dupInput (s : State) (k p lo : Nat) : State :=
  ((s.addReg 0x5040 6 64 1).quarterTally (s.quarterAt k lo) 11 1).tagTally k (some p) 9 1

/-- A damaged board input: CORRUPT NACK and a report naming this device (R104). -/
def State.corruptInput (s : State) (p : Nat) (g : Grain) : State :=
  (s.nackGrain p g 0).tagTally g.context (some p) 7 1 |>.fault 0x0A 3 s.ownEp St.ok 0 2

/-- Add the first addends of elements lo, lo + 1, … from a list. -/
def Context.addAll (c : Context) (lo : Nat) (l : List Addend) : Context :=
  let m := opMode (dOp c.desc)
  { c with beads := l.zipIdx.foldl (fun t (a, i) =>
      if lo + i < dCount c.desc then tmod t (lo + i) {} (·.take (gangOf c.desc) m a) else t) c.beads }

/-- The running board slot: its span and number. -/
def State.slotId (s : State) : Nat × Nat := (s.clock.span, s.clock.slot)

/-- One more than the highest chunk of which an input came before a slot: what is presented in slot k enters the board in
slot k + 1 (R46). -/
def Context.topBefore (c : Context) (now : Nat × Nat) : Nat := if c.newSlot = now then c.top else max c.top c.newTop

/-- An input of a chunk has come; NACKs that it answers stop. -/
def Context.arrive (c : Context) (now : Nat × Nat) (idx e : Nat) : Context :=
  { c with
    top := c.topBefore now, newSlot := now,
    newTop := max (if c.newSlot = now then c.newTop else 0) (e / max 1 (dChunk c.desc) + 1),
    missing := c.missing.filter fun m =>
      let per := if m.kind = 0 then (inFmt c.desc).per else (inFmt c.desc).words
      let r := blockRange c.desc per m.block
      (c.lacks idx r.1 r.2).contains (m.kind, m.sender, m.block) }

/-- A contribution of a resident context: its elements are added once per sender and block.  DESIGN CHOICE (log 191): one of a
sender that is not expected is dropped. -/
def State.contribute (s : State) (p : Nat) (g : Grain) : State :=
  let k := g.context
  let c := s.ctx k
  let f := inFmt c.desc
  let idx := s.boardIndex k
  let lo := f.per * g.block
  if c.got.contains (0, g.sender, g.block) then s.dupInput k p lo
  else if !(c.roster.membersAt idx).contains g.sender ∨ dCount c.desc ≤ lo then s
  else
    let hi := min (dCount c.desc) (lo + f.per)
    let l := (List.range (hi - lo)).map fun i =>
      let x := f.element g.payload.toNat i
      f.toInt x.1 x.2
    let c := ({ c.addAll lo l with got := (0, g.sender, g.block) :: c.got }).arrive s.slotId idx lo
    ((s.setCtx k c).countShakes k ((List.range (hi - lo)).map (lo + ·)) f.lanes).emitLate k

/-- A board input that is intact and belongs to a resident context's partition; others are discarded (R133). -/
def State.boardTakes (s : State) (g : Grain) : Bool :=
  (s.ctx g.context).state == 2 && dPart (s.ctx g.context).desc == g.part.toNat

/-- CONTRIB (R132, R133). -/
def execContrib (p : Port) (g : Grain) (s : State) : Out :=
  .next (
    let s := s.tagTally g.context (some p.val) 0 1
    if !g.checkOk then s.corruptInput p.val g
    else if !s.boardTakes g then s.dupInput g.context p.val 0
    else s.contribute p.val g)

/-- The leaf goes on comparing after a MISMATCH until the end of the span after the one of the token (R177). -/
def State.stillCompares (s : State) (c : Context) (g : Grain) : Bool :=
  c.state == 3 && (c.ended.getD (0, 0)).1 == St.mismatch && dPart c.desc == g.part.toNat && decide (s.clock.span ≤ c.endSpan + 1)

/-- Remember a dissenting member for the note of this span. -/
def State.noteDissent (s : State) (k m : Nat) : State :=
  s.modCtx k fun c => { c with noted := if c.noted.contains m then c.noted else c.noted ++ [m] }

/-- The fingerprint grain of a data primitive's member, which its leaf consumes once (R133, R175). -/
def State.fingerprintIn (s : State) (k p : Nat) (g : Grain) : State :=
  let c := s.ctx k
  if c.got.contains (0, g.sender, 0xFFFFFF) then s.dupInput k p 0
  else s.setCtx k { c with
    got := (0, g.sender, 0xFFFFFF) :: c.got
    missing := c.missing.filter fun m => m.sender != g.sender || m.block != 0xFFFFFF }

/-- CONTRIB_FIRST (R176): the fingerprint is compared with the admitted one; in a reduction the grain is a contribution. -/
def execContribFirst (p : Port) (g : Grain) (s : State) : Out :=
  .next (
    let k := g.context
    let c := s.ctx k
    let s := s.tagTally k (some p.val) 0 1
    if !g.checkOk then s.corruptInput p.val g
    else if s.boardTakes g then
      if g.fingerprint ≠ c.fingerprint then (s.raiseFail k St.mismatch 0x3FFF).noteDissent k g.sender
      else if isData c.desc then s.fingerprintIn k p.val g
      else s.contribute p.val g
    else
      -- the context is no longer resident: the grain is discarded and counted, and after a MISMATCH still compared (R177)
      let s := s.dupInput k p.val 0
      if s.stillCompares c g && g.fingerprint != c.fingerprint then s.noteDissent k g.sender else s)

/-- Word i of a CARRY or LONG_CARRY grain. -/
def wordAt (d : Desc) (g : Grain) (i : Nat) : Word :=
  let f := inFmt d
  f.readWord (fld g.payload.toNat (f.shape.width * i + f.shape.width - 1) (f.shape.width * i))

/-- The words of a CARRY or LONG_CARRY grain that belong to elements of the operation. -/
def wordsOf (d : Desc) (g : Grain) : List Word :=
  let r := blockRange d (inFmt d).words g.block
  (List.range (r.2 - r.1)).map (wordAt d g)

/-- A carry grain holds an RSVD word, at whatever place (R135). -/
def hasReserved (d : Desc) (g : Grain) : Bool := (List.range (inFmt d).words).any fun i => wordAt d g i == .reserved

/-- A carry grain of a resident context (R135, R138). -/
def State.carry (s : State) (p : Nat) (g : Grain) : State :=
  let k := g.context
  let c := s.ctx k
  let d := c.desc
  let f := inFmt d
  let idx := s.boardIndex k
  let lo := f.words * g.block
  let ws := wordsOf d g
  if c.got.contains (1, g.sender, g.block) then s.dupInput k p lo
  else if !(c.roster.children idx).contains g.sender ∨ dCount d ≤ lo ∨ (g.op == 3) != f.long then s
  else if hasReserved d g then (s.nackGrain p g 0).tagTally k (some p) 7 1
  else
    let m := opMode (dOp d)
    let esc := ws.zipIdx.filterMap fun (w, i) => if w = .escaped ∧ !c.imaged g.sender (lo + i) then some (g.sender, lo + i) else none
    let beads := ws.zipIdx.foldl (fun t (w, i) =>
      match w with
      | .value a => tmod t (lo + i) {} (·.take (gangOf d) m a)
      | _ => t) c.beads
    let added := ws.zipIdx.filterMap fun (w, i) => if w = .escaped then none else some (lo + i)
    let c := { c with beads, got := (1, g.sender, g.block) :: c.got, escaped := c.escaped ++ esc }.arrive s.slotId idx lo
    ((s.setCtx k c).countShakes k added 1).emitLate k

def State.carryGrain (s : State) (p : Nat) (g : Grain) : State :=
  let s := s.tagTally g.context (some p) 1 1
  if !g.checkOk then s.corruptInput p g
  else if !s.boardTakes g then s.dupInput g.context p 0
  else s.carry p g

/-- CARRY (R138): 32 carry words. -/
def execCarry (p : Port) (g : Grain) (s : State) : Out := .next (s.carryGrain p.val { g with op := 2 })

/-- LONG_CARRY (R138): 16 long carry words. -/
def execLongCarry (p : Port) (g : Grain) (s : State) : Out := .next (s.carryGrain p.val { g with op := 3 })

/-- The images of an ESCAPE grain: element, segment, value (Tables 4.7 and 4.8). -/
def imagesOf (d : Desc) (g : Grain) : List (Nat × Nat × Nat) :=
  (List.range (min 6 g.count)).map fun k =>
    let x := fld g.payload.toNat (1935 + 16 * k) (1920 + 16 * k)
    ((inFmt d).words * (g.block + fld x 12 5) + fld x 4 0, fld x 15 13, fld g.payload.toNat (320 * k + 319) (320 * k))

/-- One bead image: added once, as a wide add (R133, R138). -/
def State.addImage (s : State) (p k sender : Nat) (i : Nat × Nat × Nat) : State :=
  let c := s.ctx k
  let e := i.1
  if c.images.contains (sender, e, i.2.1) then s.dupInput k p e
  else if dCount c.desc ≤ e ∨ gangOf c.desc ≤ i.2.1 then s
  else
    let a : Addend := (0, (inFmt c.desc).segmentValue i.2.1 i.2.2)
    let c := { c with beads := tmod c.beads e {} (·.take (gangOf c.desc) (opMode (dOp c.desc)) a), images := (sender, e, i.2.1) :: c.images }
    let c := { c with escaped := if c.imaged sender e then c.escaped.filter (· != (sender, e)) else c.escaped }
    (s.setCtx k (c.arrive s.slotId (s.boardIndex k) e)).countShakes k [e] 1

/-- ESCAPE (R138, R146). -/
def execEscape (p : Port) (g : Grain) (s : State) : Out :=
  .next (
    let k := g.context
    if !g.checkOk then s.corruptInput p.val g
    else if !s.boardTakes g then s.dupInput k p.val 0
    else if !((s.ctx k).roster.children (s.boardIndex k)).contains g.sender then s
    else ((imagesOf (s.ctx k).desc g).foldl (fun s i => s.addImage p.val k g.sender i) s).emitLate k)

/-! ### NACKs for what is missing (R105, R112, R146) -/

/-- Send a NACK to the sender of a missing input. -/
def State.boardNack (s : State) (k : Nat) (m : Missing) : State :=
  let c := s.ctx k
  let src := if m.kind = 0 then (c.roster.member m.sender).ep else (c.roster.devices.getD m.sender (0, 0)).1
  let p := (s.portToward src).getD 0x3F
  let s := (s.sendNack (nackFields5 src k m.sender m.block (s.clock.span % 64) 3)).partTally (dPart c.desc) 10 1
  (s.nackException p 5 (dPart c.desc)).tagTally k (some p) 7 1

/-- Ask for what the blocks of a chunk lack, each input once. -/
def State.askMissing (s : State) (k : Nat) (bg : Begun) : State :=
  let c := s.ctx k
  let lo := bg.chunk * dChunk c.desc
  let l := c.lacks (s.boardIndex k) lo (min (dCount c.desc) (lo + dChunk c.desc))
  l.foldl (fun s x =>
    if (s.ctx k).missing.any fun m => (m.kind, m.sender, m.block) == x then s
    else
      let m : Missing := ⟨x.1, x.2.1, x.2.2, 1⟩
      (s.modCtx k fun c => { c with missing := c.missing ++ [m] }).boardNack k m) s

/-- From the span after its first on, a data primitive's leaf asks for the fingerprint grains that its members still owe (R176,
log 185). -/
def State.askFingerprints (s : State) (k : Nat) : State :=
  let c := s.ctx k
  if c.state ≠ 2 ∨ !isData c.desc ∨ s.clock.span ≤ dFirst c.desc then s
  else
    let owing := (c.roster.membersAt c.me).filter fun m =>
      !(c.got.contains (0, m, 0xFFFFFF) || c.missing.any fun x => x.sender == m && x.block == 0xFFFFFF)
    s.modCtx k fun c => { c with missing := c.missing ++ owing.map fun m => ⟨0, m, 0xFFFFFF, 0⟩ }

/-- BOARD_NACK_REPEAT (R112): once per span; past RESEND_LIMIT NACKs the operation fails for the sender. -/
def execBoardNackRepeat (k : Ctx) (s : State) : Out :=
  .next (
    let limit := s.reg 0x3080 2
    let s := s.askFingerprints k.val
    (s.ctx k).missing.foldl (fun s m =>
      if (s.ctx k).state ≠ 2 then s
      else if limit ≤ m.nacks then s.raiseFail k St.resendExhausted (if m.kind = 0 then m.sender else 0x3FFF)
      else
        (s.modCtx k fun c => { c with missing := lmod c.missing (· == m) (fun m => { m with nacks := m.nacks + 1 }) }).boardNack k m) s)

/-! ### The end of a board slot (R141, R142) -/

/-- A LEVEL or ROOT record has worked for a context: staged bytes and slots are counted. -/
def State.countSlot (s : State) (k : Nat) (b : BoardRec) : State :=
  let d := (s.ctx k).desc
  let s := (maskBits b.quarters 4).foldl (fun s q => s.quarterTally q 9 1) s
  let s := s.tagTally k none 13 1
  if dStaged d then s.tagTally k none 14 (80 * gangOf d * dChunk d) else s

/-- A LEVEL or ROOT record's slot is one in which inputs are due: the instance has begun, and in its first span some slot before
has a route to the board for it (R46, R112, log 185). -/
def State.inputsDue (s : State) (k : Nat) (b : BoardRec) : Bool :=
  let first := dFirst (s.ctx k).desc
  decide (first < s.clock.span) || (first == s.clock.span &&
    (match s.boardTable with
     | some t => t.routes.any fun r => r.toBoard && r.ctx == k && decide (r.inSlot < b.slot)
     | none => false))

/-- A LEVEL or ROOT record ends: the chunks that it handles are begun, complete blocks leave, missing inputs are asked for. -/
def State.levelEnd (s : State) (k : Nat) (b : BoardRec) : State :=
  let c := s.ctx k
  let n := c.begun.length
  let top := c.topBefore s.slotId
  let m := if top = 0 ∧ !s.inputsDue k b then n else min (chunks c.desc) (max (n + 1) top)
  let new := (List.range (m - n)).map fun i => (⟨s.clock.span, b, n + i, [], false⟩ : Begun)
  let s := s.modCtx k fun c => { c with begun := c.begun ++ new }
  let s := new.foldl (fun s bg => (s.emitChunk k bg false).askMissing k bg) s
  let s := if b.role = 0 then s.addWork k { span := s.clock.span, rec_ := b, chunks := new.map (·.chunk) } else s
  (new.foldl (fun s bg => s.formDigest k bg) s).finishReduction k

/-- The digest of a record that emits no block (R496). -/
def State.emptyDigest (s : State) (k : Nat) (b : BoardRec) : State :=
  if s.mirrored k && (s.ctx k).topBefore s.slotId != 0 then
    s.ownDigest { ctx := k, span := s.clock.span, slot := b.slot, quarters := b.quarters,
                  digest := slotDigest k s.clock.span b.slot [] [] }
  else s

/-- BOARD_SLOT_END (R141, R142, R112): the record of the running board slot ends.  `lost`: a staged bead that it read was
uncorrectable (R337). -/
def execBoardSlotEnd (lost : Bool) (s : State) : Out :=
  .next (
    match s.boardNow with
    | none => s
    | some b =>
      let k := b.ctx
      let c := s.ctx k
      if c.state ≠ 2 ∨ dPart c.desc ≠ b.part ∨ isData c.desc then s
      else if lost ∧ dStaged c.desc then s.raiseFail k St.dataLost 0x3FFF
      else
        let s := s.countSlot k b
        if b.role = 0 ∨ b.role = 1 then s.levelEnd k b
        else (s.addWork k { span := s.clock.span, rec_ := b }).emptyDigest k b)

/-- ESCAPE_RECORD_BEGIN (R143): a spilled image that is still queued exhausts the budget; of a context that another cause has
already aborted, the exhaustion is only recorded. -/
def execEscapeRecordBegin (s : State) : Out :=
  .next (
    match s.boardNow with
    | none => s
    | some b =>
      let k := b.ctx
      let c := s.ctx k
      if b.role ≠ 2 ∨ dPart c.desc ≠ b.part then s
      else if c.state = 2 then s.addWork k { span := s.clock.span, rec_ := b, begins := true }
      else if c.state = 3 then
        match c.left with
        | some x => (s.noteExhaust k b.slot x.1 x.2).modCtx k fun c => { c with left := none }
        | none => s
      else s)

/-! ### Re-sends from the board (R112, R185) -/

/-- Blocks that an output grain carries. -/
def outputBlocks (g : Grain) : List Nat :=
  if g.op = 4 then (List.range (min 6 g.count)).map fun k => g.block + fld (fld g.payload.toNat (1935 + 16 * k) (1920 + 16 * k)) 12 5
  else [g.block]

/-- The next window of the context's records on a port: span and record. -/
def State.nextWindow (s : State) (d : Desc) (p : Nat) : Option (Nat × BoardRec) :=
  let l := (s.recordsOf d).filter fun b => bit b.outMask p
  match l.find? (fun b => decide (s.clock.slot ≤ b.slot)) with
  | some b => some (s.clock.span, b)
  | none => (l.head?).map fun b => (s.clock.span + 1, b)

/-- A NACK names an output of this board: the kept copies go again in the context's next window (log 42).  `lost`: a held
RESULT grain is uncorrectable, and is not sent (R337). -/
def State.boardResend (s : State) (fields : Nat) (lost : Bool) : State :=
  let k := fld fields 54 50
  let b := fld fields 35 12
  let c := s.ctx k
  if c.state ≠ 2 ∧ c.state ≠ 3 then s
  else
    (c.copies.filter fun x => x.1 != 63 && (outputBlocks x.2).contains b && !(lost && x.2.op == 5)).foldl (fun s x =>
      match s.nextWindow c.desc x.1 with
      | none => s
      | some (span, r) => s.placeOutput span r x.1 (s.grainTimes x.1 - 1) x.2 false) s

end Sys2Proof.Machine
end

