-- ==== Sys2Proof/Machine/Barriers.lean ====
section
/-! DEFINITION. Roster loads; the barrier table, arrivals, releases and broken episodes (05 R165, R166, R188 to R190,
09 R302, 17 R501). -/

namespace Sys2Proof.Machine

open Sys2Proof

/-! ### Roster loads (R166) -/

/-- A write of 1 to 5010:01. -/
def execRosterLoad (r : Route) (v : Bytes) (s : State) : Out := .next (s.rowWrite r 0x5010 1 v (startEffect 0x5010 1))

/-- A held context names a roster handle. -/
def State.rosterInUse (s : State) (h : Nat) : Bool := s.heldCtxs.any fun e => dRoster e.2.desc == h

/-- The roster as its stream to the partner carries it: HANDLE and LENGTH, padded to 64 octets, then the image (R501). -/
def rosterStream (h : Nat) (img : Bytes) : Bytes := natLe 64 (h + img.length * 2 ^ 16) ++ img

/-- The last step of a roster load. -/
def State.runRosterLoad (s : State) : State :=
  let off := s.reg 0x5010 3
  let h := s.reg 0x5010 2
  let fail (st : Nat) : State := s.endStep 0x5010 1 st
  match s.imageFault off 64 St.rosterInvalid with
  | some st => fail st
  | none =>
    let len := rosterLen (leAt (s.tableBytes off 64) 0 64)
    match s.imageFault off len St.rosterInvalid with
    | some st => fail st
    | none =>
      let img := s.tableBytes off len
      if !rosterOk img || s.rosterInUse h then fail St.rosterInvalid
      else
        (({ s with board := { s.board with rosters := tset s.board.rosters h (parseRoster img) } }).mirrorImage 2
          (rosterStream h img)).endStep 0x5010 1 St.ok

/-! ### The barrier table (R188, Table 5.13) -/

def parseBarrier (x : Nat) : Barrier :=
  { mask := fld x 127 79, parent := fld x 78 73, part := fld x 72 67, valid := bit x 66 }

/-- Two entries hold the same content. -/
def Barrier.sameEntry (a b : Barrier) : Bool :=
  a.mask == b.mask && a.parent == b.parent && a.part == b.part && a.valid == b.valid

def State.barrier (s : State) (b : Nat) : Barrier := tget s.board.barriers b {}

def State.setBarrier (s : State) (b : Nat) (e : Barrier) : State :=
  { s with board := { s.board with barriers := tset s.board.barriers b e } }

/-- The loaded table takes effect: a changed entry restarts at epoch 0 with no arrivals. -/
def State.applyBarriers (s : State) : State :=
  match s.board.pendingBarriers with
  | none => s
  | some l =>
    let new := l.zipIdx.map fun (x, b) =>
      let e := parseBarrier x.toNat
      (b, if (s.barrier b).sameEntry e then s.barrier b else e)
    { s with board := { s.board with barriers := new.filter (fun e => e.2.valid), pendingBarriers := none } }

/-- A write of 1 to 5060:01. -/
def barrierLoadEffect : Effect := fun r v s =>
  if s.stepRuns 0x5060 1 ∨ s.board.pendingBarriers.isSome then refuse s St.loadBusy else s.startStep r 0x5060 1 (leNat v)

/-- BARRIER_LOAD (R188). -/
def execBarrierLoad (r : Route) (v : Bytes) (s : State) : Out := .next (s.rowWrite r 0x5060 1 v barrierLoadEffect)

/-- The last step of a barrier load; with the span counter stopped it takes effect at once. -/
def State.runBarrierLoad (s : State) : State :=
  let off := s.reg 0x5060 2
  match s.imageFault off 65536 St.tableInvalid with
  | some st => s.endStep 0x5060 1 st
  | none =>
    let l := (Machine.pieces 16 4096 (s.tableBytes off 65536)).map fun b => BitVec.ofNat 128 (leNat b)
    let s := { s with board := { s.board with pendingBarriers := some l } }
    (if s.clock.running then s else s.applyBarriers).endStep 0x5060 1 St.ok

/-! ### Episodes (R189, R190, R302) -/

def Barrier.children (e : Barrier) : List Nat := maskBits e.mask 49

/-- A barrier's token on a port; each is sent twice.  The internal port has no lane C, and a link that is neither ACTIVE nor
DEGRADED carries none. -/
def State.sendBarrier (s : State) (p kind b : Nat) (e : Barrier) (broken : Bool) : State :=
  if 48 ≤ p ∨ !s.portUp p then s
  else
    let f := put (if s.isHalf p then p % 2 else 0) 23 23 + put kind 22 22 + put (b2n e.epoch) 21 21 + put (b2n broken) 20 20
      + put e.part 19 14 + put b 13 2
    (s.token p "Barrier" f).token p "Barrier" f

/-- RELEASE to every child but one, and the epoch toggles. -/
def State.releaseBarrier (s : State) (b : Nat) (broken : Bool) (but : Option Nat) : State :=
  let e := s.barrier b
  let s := (e.children.filter fun p => some p != but).foldl (fun s p => s.sendBarrier p 1 b e broken) s
  (s.setBarrier b { e with epoch := !e.epoch, arrived := [], broken := false }).devTally 10 1

/-- What an arrival sets off: at the root RELEASE, else ARRIVE to the parent. -/
def State.barrierUp (s : State) (b : Nat) (broken : Bool) : State :=
  let e := s.barrier b
  if e.parent = 0x3F then s.releaseBarrier b broken none else s.sendBarrier e.parent 0 b e broken

/-- An ARRIVE at the device: one per child port and epoch; a BROKEN one goes up at once (log 44). -/
def State.barrierArrive (s : State) (p x : Nat) : State :=
  let b := fld x 13 2
  let e := s.barrier b
  if !e.valid ∨ !e.children.contains p ∨ fld x 19 14 ≠ e.part ∨ bit x 21 ≠ e.epoch ∨ e.arrived.contains p then s.portTally p 36 1
  else
    let e := { e with arrived := e.arrived ++ [p], broken := e.broken || bit x 20 }
    let s := s.setBarrier b e
    if bit x 20 then s.barrierUp b true
    else if e.children.all e.arrived.contains && !e.broken then s.barrierUp b false
    else s

/-- A RELEASE at the device (R189, R302): only at the current epoch. -/
def State.releaseAt (s : State) (x : Nat) : State :=
  let b := fld x 13 2
  let e := s.barrier b
  if !e.valid ∨ bit x 21 ≠ e.epoch then s else s.releaseBarrier b (bit x 20) none

/-- A child port has left ACTIVE and DEGRADED before arriving (R190). -/
def State.breakBarriers (s : State) (p : Nat) : State :=
  (s.board.barriers.filter fun e => e.2.valid && e.2.children.contains p && !e.2.arrived.contains p).foldl (fun s e =>
    let s := if e.2.parent = 0x3F then s else s.sendBarrier e.2.parent 0 e.1 e.2 true
    s.releaseBarrier e.1 true (some p)) s

/-! ### The end-point's half (Table 7.7) -/

/-- A RELEASE lets the waiting engines of its barrier go and toggles the epoch; BROKEN is reported with ABORTED_PEER (R190, R258). -/
def State.faetteRelease (s : State) (x : Nat) : State :=
  let b := fld x 13 2
  let e := s.faette
  if bit x 21 ≠ tget e.epochs b false then s
  else
    let st := if bit x 20 then St.abortedPeer else St.ok
    let s := (e.waitBarrier.filter fun w => w.2.1 == b).foldl (fun s w => s.emit (.engine w.1 st [])) s
    { s with faette := { s.faette with
        epochs := tset s.faette.epochs b (!bit x 21), waitBarrier := s.faette.waitBarrier.filter fun w => w.2.1 != b } }

/-- BARRIER_ARRIVE (R189, R190): an ARRIVE token.  An end-point discards it. -/
def execBarrierArrive (f : TokenFrom) (t : RawToken) (s : State) : Out :=
  .next (
    let x := s.takeUrgent f t "Barrier"
    match x.2, f with
    | some m, .port p => if bit m 22 then x.1 else x.1.barrierArrive (halfPort p.val (fld m 23 23)) m
    | some _, .faette _ => { x.1 with faette := { x.1.faette with arrivesDropped := x.1.faette.arrivesDropped + 1 } }
    | none, _ => x.1)

/-- BARRIER_RELEASE (R189, R190, R258): a RELEASE token. -/
def execBarrierRelease (f : TokenFrom) (t : RawToken) (s : State) : Out :=
  .next (
    let x := s.takeUrgent f t "Barrier"
    match x.2, f with
    | some m, .port _ => if bit m 22 then x.1.releaseAt m else x.1
    | some m, .faette _ => if bit m 22 then x.1.faetteRelease m else x.1
    | none, _ => x.1)

/-- ENGINE_BARRIER_ARRIVE (R189, R258): an engine arrives; ARRIVE leaves on the parent link. -/
def execEngineBarrierArrive (id : Nat) (b : BitVec 12) (part : Part) (s : State) : Out :=
  .next (
    let e := s.faette
    let f := put (b2n (tget e.epochs b.toNat false)) 21 21 + put part.val 19 14 + put b.toNat 13 2
    let s := { s with faette := { e with waitBarrier := e.waitBarrier ++ [(id, b.toNat, part.val)] } }
    if e.sideUp.contains e.parent then
      (s.putToken (64 + e.parent) "Barrier" f).putToken (64 + e.parent) "Barrier" f
    else s)

end Sys2Proof.Machine
end

