-- ==== Sys2Proof/Machine/HostLink.lean ====
section
/-! DEFINITION. The host link: what its training, its loss and the resets of functions do (11 R347, R350, R369). -/

namespace Sys2Proof.Machine

open Sys2Proof

/-- A function after a reset: as at power-up, with the commands fetched before it, which complete nowhere. -/
def FnState.reset (x : FnState) : FnState :=
  { orphans := x.orphans ++ x.cmds.filter fun c => !c.started }

/-- A transfer whose function has been reset: it goes on, and tells nobody (R350). -/
def Transfer.forget (t : Transfer) : Transfer :=
  if t.req.kind = 6 ∨ t.req.kind = 7 then { t with req := { t.req with cmd := 65536 } }
  else if t.req.kind = 9 ∨ t.req.kind = 10 then { t with fn := 256 }
  else t

/-- The ring command that admitted an instance, once its ring has been reset. -/
def forgetRing (which : Nat → Bool) (r : Option (Nat × Nat)) : Option (Nat × Nat) :=
  r.map fun e => if which e.1 then (e.1, 65536) else e

/-- Reset functions: rings, apertures, vectors and tokens; window reads go unanswered, what was accepted takes effect. -/
def State.resetFns (s : State) (which : Nat → Bool) : State :=
  { s with
    host := { s.host with fns := s.host.fns.map fun e => if which e.1 then (e.1, e.2.reset) else e },
    tokens := s.tokens.filter fun e => !(decide (e.1 < 65) && which e.1),
    board := { s.board with
      ctxs := s.board.ctxs.map fun e => (e.1, { e.2 with ring := forgetRing which e.2.ring }),
      refused := s.board.refused.map fun r => { r with ring := forgetRing which r.ring },
      owed := s.board.owed.map fun r => { r with ring := forgetRing which r.ring } },
    ep := { s.ep with
      transfers := (s.ep.transfers.filter fun t => !(t.req.kind == 8 && which t.fn)).map fun t =>
        if which t.fn then t.forget else t } }

/-- Every function is reset, and the virtual functions are withdrawn. -/
def State.resetAllFns (s : State) : State :=
  let s := s.resetFns fun _ => true
  { s with host := { s.host with numVfs := 0, turn := 0 } }

/-- PCIe goes down (R350). -/
def State.hostDown (s : State) : State :=
  if s.host.up then
    let s := (s.resetAllFns).addReg 0xA100 4 32 1
    { s with host := { s.host with up := false } }
  else s

/-- The host engine goes dark: PCIe and the management port go down (R32, R472). -/
def State.hostDark (s : State) : State :=
  let s := s.hostDown
  { s with mgmt := { s.mgmt with port := 0 } }

/-- The host engine can carry light. -/
def State.hostLight (s : State) : Bool := (s.host.laser0 || s.host.laser1) && !s.host.hot

/-- HOST_LINK_DOWN (R350): 0 a link down, 1 a hot reset, 2 a Function Level Reset of the PF. -/
def execHostLinkDown (kind : Fin 3) (s : State) : Out :=
  .next (if kind.val = 2 then (s.resetAllFns).addReg 0xA100 5 32 1 else s.hostDown)

/-- VF_RESET (R350): a Function Level Reset of a VF, or its entry to D3hot. -/
def execVfReset (p : Part) (flr : Bool) (s : State) : Out :=
  .next (
    let s := s.resetFns fun f => f == p.val + 1
    if flr then s.addReg 0xA100 5 32 1 else s)

/-- HOST_LINK_TRAINED (R347, R369): at a width of 16, 8 or 4 lanes. -/
def execHostLinkTrained (rate : BitVec 8) (width : Fin 3) (s : State) : Out :=
  .next (
    if !s.hostLight ∨ s.boot.phase = .off ∨ s.boot.phase = .inReset then s
    else { s with host := { s.host with up := true, rate := rate.toNat, width := 2 ^ (4 - width.val) } })

/-- Virtual functions that the device offers: TotalVFs (R368, R410). -/
def State.totalVfs (s : State) : Nat := if s.isReady then 64 else 0

/-- NUMVFS_SET (R348, R368): a function withdrawn is reset. -/
def execNumvfsSet (n : Fin 65) (s : State) : Out :=
  .next (
    if !s.host.up ∨ s.totalVfs < n.val then s
    else
      let s := s.resetFns fun f => decide (n.val < f)
      { s with host := { s.host with numVfs := n.val } })

/-- A function can be reached: the PF, or a virtual function that is offered and enabled. -/
def State.fnOffered (s : State) (f : Nat) : Bool := s.host.up && (f == 0 || decide (f ≤ s.host.numVfs))

end Sys2Proof.Machine
end

