-- ==== Sys2Proof/Machine/Partitions.lean ====
section
/-! DEFINITION. Opening and closing a partition (08 R281, R284, R285, 10 R332, 17 R502, R503). -/

namespace Sys2Proof.Machine

open Sys2Proof

/-- STATE of a partition changes; the partner is told (Table 17.1). -/
def State.setPart (s : State) (p st : Nat) : State :=
  (s.setReg (0x6100 + p) 1 st).pairNext 6 [BitVec.ofNat 8 p, BitVec.ofNat 8 st]

/-- The conditions of R284, that no scrub of p is still running, and that the random source is healthy (R427). -/
def State.mayOpen (s : State) (p : Nat) : Bool :=
  s.partState p == 0 && s.reg 0x9000 6 == 0 && s.reg (0x6100 + p) 4 != 0 && !bit (s.reg 0x6310 6) p &&
  !(s.stepRuns 0x6310 2 && (s.stepOp 0x6310 2).place == p)

/-- A fresh memory key of p: what its units still hold decrypts to noise (R331, R332). -/
def State.drawMemKey (s : State) (p : Nat) : State :=
  { s with keys := { s.keys with memKey := tset s.keys.memKey p (Config.random s.fresh 512) } }.draw.rekeyed s

/-- p becomes OPEN. -/
def State.openPart (s : State) (p : Nat) : State := (s.drawMemKey p).setPart p 1

/-- Every resident instance of p ends with CANCELLED (R285). -/
def State.cancelPart (s : State) (p : Nat) : State :=
  (s.board.ctxs.filter fun e => e.2.state == 2 && dPart e.2.desc == p).foldl (fun s e => s.raiseFail e.1 St.cancelled 0x3FFF) s

/-- VALID entries of a partition, in domain order. -/
def State.partEntries (s : State) (p : Nat) : List (Nat × Ent) :=
  s.keys.table.filter fun e => entValid e.2 && entPart e.2 == p

/-- What a close revokes: those entries, and the one that a register under way may still make VALID (R271, R285). -/
def State.closeList (s : State) (p : Nat) : List (Nat × Ent) :=
  match s.keys.now with
  | some j =>
    if j.kind = 1 ∧ entPart j.ent = p then tset (s.partEntries p) j.handle j.ent else s.partEntries p
  | none => s.partEntries p

/-- Close p: CLOSING, its instances end, its entries are revoked (R285). -/
def State.closePart (s : State) (p : Nat) (r : Route) : State :=
  let s := (s.setPart p 2).cancelPart p
  let s := { s with keys := { s.keys with closing := s.keys.closing ++ [p] } }
  let jobs := (s.closeList p).map fun e => ({ kind := 2, handle := e.1, ent := e.2, purpose := 2, route := r } : KeyJob)
  if jobs.isEmpty then s.finishClose p else s.addJobs jobs

/-- A write to CONTROL 6100+p:02.  A member that is not the key primary hands a close on to it (log 26). -/
def controlEffect (p : Nat) : Effect := fun r v s =>
  if leNat v = 1 then (if s.mayOpen p then done (s.openPart p) else refuse s St.contextDenied)
  else if s.stepRuns (0x6100 + p) 2 ∨ s.loadRuns then refuse s St.loadBusy
  else if s.pair.state = 2 then refuse s St.targetLost
  else if s.partState p ≠ 1 then refuse s St.valueRefused
  else
    let x := s.startStep r (0x6100 + p) 2 2
    if x.2.1 ≠ St.stepPending then x
    else if s.isPrimary then (x.1.closePart p r, x.2)
    else (x.1.forwarded "forward CONTROL" [p, 2], x.2)

/-- PARTITION_OPEN (R284): a write of 1 to CONTROL. -/
def execPartitionOpen (r : Route) (p : Part) (s : State) : Out :=
  .next (s.rowWrite r (0x6100 + p.val) 2 [1] (controlEffect p.val))

/-- PARTITION_CLOSE (R285): a write of 2 to CONTROL. -/
def execPartitionClose (r : Route) (p : Part) (s : State) : Out :=
  .next (s.rowWrite r (0x6100 + p.val) 2 [2] (controlEffect p.val))

end Sys2Proof.Machine
end

