-- ==== Sys2Proof/Machine/Reserved.lean ====
section
/-! DEFINITION. The end-point schedule and the reserved slots it serves, instances given to a member, RESULT and DATA grains,
end tokens as they are received, FLUSH (05 R178, 07 R236, R244, R251 to R262). -/

namespace Sys2Proof.Machine

open Sys2Proof

/-! ### Objects of an end-point (R262, Table 7.9) -/

/-- Index under which an end-point's running load is kept: the Faette's apart from the device's. -/
def schedStep : EpSel → Nat
  | .internal => 0x4060
  | .faette => 0x14060

/-- Sub-indices that a Faette's management agent serves. -/
def faetteServes (idx sub : Nat) : Bool :=
  (idx == 0x3080 && decide (sub ≤ 3)) || (idx == 0x4000 && (sub == 0 || sub == 1 || sub == 4 || sub == 8)) || idx == 0x4060 ||
  idx == 0x6200

/-- The checks of an end-point's own objects, in the order of R378 as far as they apply to it (log 47). -/
def faetteCheck (idx sub : Nat) (write : Bool) (v : Bytes) : Option Nat :=
  match findObj idx sub with
  | none => some (if faetteServes idx sub && sub == 0 then (if write then St.accessMismatch else 0) else St.objectUnknown)
  | some o =>
    if !faetteServes idx sub then some St.objectUnknown
    else if (if write then o.acc == 0 else o.acc == 3) then some St.accessMismatch
    else if !write then none
    else if v.length ≠ o.size then some St.bounds
    else if !o.inRange (leNat v) then some St.valueRefused
    else none

/-- A write to an end-point's object: on the device through its dictionary, at a Faette by its management agent. -/
def State.epWrite (s : State) (w : EpSel) (r : Route) (idx sub : Nat) (v : Bytes) (e : Effect) : State :=
  match w with
  | .internal => s.rowWrite r idx sub v e
  | .faette =>
    match faetteCheck idx sub true v with
    | some st => s.emit (.answer r idx sub st 0 [])
    | none =>
      let x := e r v s
      x.1.emit (.answer r idx sub x.2.1 x.2.2 [])

/-! ### The schedule image (R251, R252) -/

def State.epAlign (s : State) : EpSel → Nat
  | .internal => s.clock.align
  | .faette => s.faette.align

def parseSend (x : Nat) : Nat × Nat × Nat × Nat × Nat := (fld x 63 53, fld x 52 52, fld x 51 46, fld x 45 43, fld x 42 38)

/-- Sides of an end-point whose transmit direction is DEGRADED; the internal one has no lanes. -/
def State.sevenSides (s : State) (w : EpSel) : List Nat :=
  match w with
  | .internal => []
  | .faette => s.faette.lostTx.map (·.1)

/-- Grains that a slot carries on a side: of eight grain times seven in a DEGRADED direction (R314). -/
def State.slotGrains (s : State) (w : EpSel) (side : Nat) : Nat :=
  if (s.sevenSides w).contains side then s.slotLen / 8 * 7 else s.slotLen

/-- An image of an end-point schedule, checked against the running lengths; `seven`: the sides whose transmit direction is
DEGRADED, where a reserved slot, of 8 grain times or more, holds a skipped one (R252, R315). -/
def checkEpSched (spanLog slotLog : Nat) (seven : List Nat) (img : Bytes) : Except Fail EpSched :=
  let none_ : Nat := 0xFFFFFFFF
  let h := leAt img 0 64
  let slots := 2 ^ (spanLog - slotLog)
  let off := (64 + 2 * mapSize slots + 63) / 64 * 64
  let count := fld h 95 80
  if fld h 31 0 ≠ 0x44454546 ∨ fld h 47 32 ≠ 0x0100 ∨ 0x40000 < fld h 127 96 ∨ fld h 51 48 ≠ spanLog ∨ fld h 54 52 ≠ slotLog
     ∨ 2 * slots < count ∨ fld h 127 96 < off + 8 * count then .error (St.tableInvalid, none_)
  else
    let maps := (List.range 2).map fun m => parseMap img (64 + m * mapSize slots) slots
    let recs := (List.range count).map fun k => parseSend (leAt img (off + 8 * k) 8)
    let badMap := (maps.zipIdx.find? fun (x, m) => x.2 != slots || x.1.port != m || !x.1.egress).map (·.2)
    let badRec := (recs.zipIdx.find? fun (x, k) =>
      decide (slots ≤ x.1) || decide (1 < x.2.2.2.1) || (x.2.2.2.1 == 0 && x.2.2.2.2 != 0) ||
      (k != 0 && decide (x.1 < (recs.getD (k - 1) (0, 0, 0, 0, 0)).1))).map (·.2)
    let slotOf (side slot : Nat) : Nat × Nat := ((maps.getD side ({}, 0)).1.slots.getD slot (0, 0))
    let closed := (maps.zipIdx.find? fun (x, m) =>
      breaksOpen x.1 || (seven.contains m && x.1.slots.any fun y => y.1 == 1)).map (·.2)
    let unnamed := (maps.zipIdx.find? fun (_, m) => (List.range slots).any fun k =>
      (slotOf m k).1 == 1 && (recs.filter fun x => x.1 == k && x.2.1 == m).length != 1).map (·.2)
    let stray := (recs.zipIdx.find? fun (x, _) => slotOf x.2.1 x.1 != (1, x.2.2.1)).map (·.2)
    match badMap, badRec, closed, unnamed, stray with
    | some m, _, _, _, _ => .error (St.tableInvalid, m)
    | _, some k, _, _, _ => .error (St.tableInvalid, k)
    | _, _, some m, _, _ => .error (St.slotConflict, m)
    | _, _, _, some m, _ => .error (St.slotConflict, m)
    | _, _, _, _, some k => .error (St.slotConflict, k)
    | none, none, none, none, none =>
      .ok { serial := fld h 191 128, spanLog, slotLog, maps := maps.map (·.1), sends := recs }

/-- A write of 1 to 4060:01 (R63, R64). -/
def epScheduleEffect (w : EpSel) : Effect := fun r v s =>
  let st := s.epReg w 0x4060 4
  if st = 1 ∨ st = 2 ∨ st = 3 then refuse s St.loadBusy
  else
    let x := s.startStep r (schedStep w) 1 (leNat v)
    if x.2.1 = St.stepPending then ((x.1.modEp w fun e => { e with schedLast := 1 }).setEpReg w 0x4060 4 1, x.2) else x

/-- EP_SCHEDULE_LOAD (R252). -/
def execEpScheduleLoad (w : EpSel) (r : Route) (v : Bytes) (s : State) : Out :=
  .next (s.epWrite w r 0x4060 1 v (epScheduleEffect w))

/-- The last step of the load: pending, or refused (R68). -/
def State.runEpLoad (s : State) (w : EpSel) : State :=
  let off := s.epReg w 0x4060 2
  let fail (st detail : Nat) : State := (s.epDrop w st detail).endStep (schedStep w) 1 st
  let len := min 0x40000 (leAt ((s.home w).read (off + 12) 4) 0 4)
  if (s.home w).anyBad off (max 64 len) then fail St.dataLost 0xFFFFFFFF
  else
    match checkEpSched s.sched.spanLog s.sched.slotLog (s.sevenSides w) ((s.home w).read off (max 64 len)) with
    | .error e => fail e.1 e.2
    | .ok t =>
      let at_ := s.epReg w 0x4060 3
      if s.epAlign w ≠ 2 ∨ at_ < s.epSpan w + 2 then fail St.activationLate 0xFFFFFFFF
      else
        ((s.epResult w 2 St.ok 0xFFFFFFFF).modEp w fun e => { e with schedPending := some t, schedAt := at_ }).endStep
          (schedStep w) 1 St.ok

/-- A write of 1 to CANCEL 4060:07 (R69, R252). -/
def epCancelEffect (w : EpSel) : Effect := fun _ _ s =>
  let st := s.epReg w 0x4060 4
  if st = 2 then done ((s.modEp w fun e => { e with schedPending := none, schedLast := 3 }).setEpReg w 0x4060 4 0)
  else if st = 3 ∨ (st = 0 ∧ (s.epOf w).schedLast = 4) then refuse s St.activationLate
  else refuse s St.valueRefused

/-- EP_SCHEDULE_CANCEL (R252). -/
def execEpScheduleCancel (w : EpSel) (r : Route) (v : Bytes) (s : State) : Out :=
  .next (s.epWrite w r 0x4060 7 v (epCancelEffect w))

/-- At the edge that begins ACTIVATE_SPAN the pending image comes into force; an end-point that is not aligned discards it
(R69, R233). -/
def State.epActivate (s : State) (w : EpSel) : State :=
  let e := s.epOf w
  match e.schedPending with
  | none => s
  | some t =>
    if s.epSpan w < e.schedAt then s
    else if s.epAlign w ≠ 2 then s.epDrop w St.notAligned 0xFFFFFFFF
    else
      ((s.modEp w fun e => { e with schedActive := some t, schedPending := none, schedLast := 4, refuse := false }).setEpReg
        w 0x4060 4 0).setEpReg w 0x4060 6 t.serial

/-! ### Reserved slots (R244, R253) -/

/-- A VC4 grain is one that a partition's slot on a side carries; the internal end-point has one side. -/
def State.slotCarries (s : State) (w : EpSel) (side part : Nat) (g : Grain) : Bool :=
  g.part.toNat == part && (w == .internal || s.epPort w g == 64 + side)

/-- The VC4 copies that wait to go again in a partition's slots on a side, in send order (R111). -/
def State.bulkDue (s : State) (w : EpSel) (side part : Nat) : List Copy :=
  let l := (s.epOf w).send.flatMap fun c => if c.1 % 8 = 4 then c.2.copies else []
  lsort (fun a b => decide (a.seq ≤ b.seq)) (l.filter fun k => k.due && s.slotCarries w side part k.grain)

/-- Send the VC4 grains of a partition whose destination lies on a side, at most one for each of n grain times, in queue order;
SEQ_RESET takes one of its own. -/
def State.bulkLoop (w : EpSel) (side part : Nat) : List Queued → List Queued → List Nat → Nat → State → State
  | [], keep, _, _, s => s.modEp w fun e => { e with vc4 := keep }
  | q :: r, keep, blocked, n, s =>
    if !s.slotCarries w side part q.grain || n == 0 then State.bulkLoop w side part r (keep ++ [q]) blocked n s
    else if !(s.epOf w).room 4 then
      State.bulkLoop w side part r (keep ++ [q]) blocked (n - 1)
        (s.setEpReg w 0x6200 0xE ((s.epReg w 0x6200 0xE + 1) % 2 ^ 64))
    else
      let resets := s.needsReset w q && s.maySend w blocked q
      let s := if resets then s.resetFor w q else s
      let n := if resets then n - 1 else n
      if n != 0 && !s.needsReset w q && s.maySend w blocked q then State.bulkLoop w side part r keep blocked (n - 1) (s.sendKept w q)
      else State.bulkLoop w side part r (keep ++ [q]) (chanKey q.grain.dst 4 :: blocked) n s

/-- A BULK slot of a partition on a side: what is due goes first, and the grains behind it move later (R111, R253). -/
def State.bulkSlot (s : State) (w : EpSel) (side part n : Nat) : State :=
  let l := (s.bulkDue w side part).take n
  let s := l.foldl (fun s k => s.resend w k.grain.dst 4 k) s
  State.bulkLoop w side part (s.epOf w).vc4 [] [] (n - l.length) s

/-- A side of an end-point carries grains now. -/
def State.sideRuns (s : State) (w : EpSel) (side : Nat) : Bool :=
  match w with
  | .internal => true
  | .faette => s.faette.sideUp.contains side

/-- ENDPOINT_RESERVED_SLOT (R253): a slot on a side, under the active schedule. -/
def execEndpointReservedSlot (w : EpSel) (side : Fin 2) (slot : BitVec 11) (s : State) : Out :=
  .next (
    let e := s.epOf w
    match e.schedActive with
    | none => s
    | some t =>
      if e.refuse ∨ s.epAlign w ≠ 2 ∨ !s.sideRuns w side.val then s
      else
        match t.sends.find? (fun x => x.1 == slot.toNat && x.2.1 == side.val) with
        | none => s
        | some (_, _, part, kind, ctx) =>
          if kind = 0 then s.bulkSlot w side.val part (s.slotGrains w side.val)
          else s.collectiveSlot w side.val ctx part (s.slotGrains w side.val))

/-- INSTANCE_SUBMIT (R254). -/
def execInstanceSubmit (w : EpSel) (i : Submit) (s : State) : Out :=
  .next (s.modEp w fun e => { e with
    insts := e.insts ++ [MemberInst.of i.desc i.member i.members i.handle i.data i.mirrored] })

/-- RESULT (R256). -/
def execResult (a : Arrival) (g : Grain) (s : State) : Out := .next ((s.took a 5).memberGrain a.ep { g with vc := 5, op := 5 })

/-- DATA (R256). -/
def execData (a : Arrival) (g : Grain) (s : State) : Out := .next ((s.took a 5).memberGrain a.ep { g with vc := 5, op := 6 })

/-- END_TOKEN (R178 to R182): at the device on a port, or at a member's end-point on a side. -/
def execEndToken (f : TokenFrom) (t : RawToken) (s : State) : Out :=
  .next (
    let x := s.takeUrgent f t "End"
    match x.2, f with
    | none, _ => x.1
    | some m, .port p => x.1.endTokenHere p.val m
    | some m, .faette _ => x.1.memberEnd .faette m)

/-- A write to FLUSH 6200:0B; with the context table go the runs of each PASID whose entry has changed (R236, R237). -/
def flushEffect : Effect := fun _ v s =>
  let x := leNat v
  done { s with faette := { s.faette with
    ctxCache := if bit x 0 then [] else s.faette.ctxCache,
    bindCache := if bit x 1 then [] else s.faette.bindCache,
    atc := if bit x 2 then []
      else if bit x 0 then s.faette.atc.filter fun r => s.contextInTable r.pasid == some r.ctx
      else s.faette.atc } }

/-- FLUSH (R236, R262). -/
def execFlush (r : Route) (v : Bytes) (s : State) : Out := .next (s.epWrite .faette r 0x6200 0xB v flushEffect)

end Sys2Proof.Machine
end

