-- ==== Sys2Proof/Machine/Ports.lean ====
section
/-! DEFINITION. The states of a port and what entering one does; exchange messages; failed attempts, fences and light
(09 R303, R304, R307, R311, R312, R319, 05 R190, Table 5.9, 14 R448, 17 R507). -/

namespace Sys2Proof.Machine

open Sys2Proof

/-! ### Port states (Table 9.6) -/

/-- What the data lanes and lane C carry in a state. -/
def stateName : Nat → String
  | 0 => "dark"
  | 1 => "beacon"
  | 2 => "PRBS31"
  | 3 => "lock"
  | 4 => "exchange"
  | 5 => "active"
  | 6 => "margin"
  | 7 => "degraded"
  | 8 => "fenced"
  | _ => "spare"

/-- ACTIVE or DEGRADED. -/
def runs (st : Nat) : Bool := st == 5 || st == 7
/-- ACTIVE, DEGRADED or SPARE. -/
def keeps (st : Nat) : Bool := st == 5 || st == 7 || st == 9
/-- States that hold a session: ACTIVE, DEGRADED, SPARE, MARGIN. -/
def holdsKeys (st : Nat) : Bool := keeps st || st == 6
/-- DARK, DETECT or FENCED. -/
def isDown (st : Nat) : Bool := st == 0 || st == 1 || st == 8

/-- Object index of link n. -/
def linkObj (n : Nat) : Nat := 0x3000 + n

/-- State of the link's first port, which brings the link up. -/
def State.linkState (s : State) (n : Nat) : Nat := (s.port (2 * n)).state

/-- Some port of the link is in a state that satisfies a test. -/
def State.linkAny (s : State) (n : Nat) (f : Nat → Bool) : Bool := (s.portsOf n).any fun p => f (s.port p).state

/-- The end-point that a link leads to, where it is no switch; 0x3FFF for none. -/
def State.ownerAt (s : State) (n : Nat) : Nat := if (s.link n).peerSwitch then 0x3FFF else (s.link n).peerEp

/-- Instances that the loss of a port ends: context, status and subject (Table 5.9). -/
def State.portCauses (s : State) (p : Nat) : List (Nat × Nat × Nat) :=
  (s.board.ctxs.filter fun e => e.2.held).filterMap fun e =>
    let c := e.2
    let here (ep : Nat) : Bool := (s.portToward ep).map linkOf == some (linkOf p)
    match (c.roster.membersAt c.me).find? (fun i => here (c.roster.member i).ep) with
    | some i => some (e.1, St.targetLost, i)
    | none => if (c.roster.neighbours c.me).any here then some (e.1, St.abortedPeer, 0x3FFF) else none

/-- A port's tests end early, and the state of this device's test reads 4 (R323). -/
def State.endTests (s : State) (n : Nat) (which : LinkTest → Bool) : State :=
  let l := s.link n
  let s := if l.tests.any (fun t => which t && t.mine) then s.setReg (linkObj n) 0x0D 4 else s
  s.setLink n { l with tests := l.tests.filter fun t => !which t }

/-- The span since which an end-point has had no usable link here, kept while a link changes (R507). -/
def State.watchOwner (s : State) (ep : Nat) : State :=
  if ep = 0x3FFF then s
  else if (List.range 24).any fun n => s.ownerAt n == ep && s.linkAny n keeps then
    { s with pair := { s.pair with lostSince := tdel s.pair.lostSince ep } }
  else if thas s.pair.lostSince ep then s
  else { s with pair := { s.pair with lostSince := tset s.pair.lostSince ep s.clock.span } }

/-- The keys of a link are destroyed, and its arrival offset ends (R448, R55). -/
def State.dropSession (s : State) (n : Nat) : State :=
  let s := s.modLink n fun l => { l with session := none, agree := none, retry := false, txSwitch := none, rxSwitch := none }
  let c := s.clock
  { s with clock := { c with
      offsets := tdel c.offsets n, departures := tdel c.departures n, unmeasured := c.unmeasured.filter (· != n),
      trimArmed := c.trimArmed.filter (· != n), trim := if tget c.trim n 0 = 0 then c.trim else tset c.trim n 4 } }

/-- What lane C of a link repeats in a state: in DETECT the beacon and the idle set in turn, from TRAIN on the idle set, after
which the disparity stands as before; in DARK and DETECT both directions start again at negative disparity (R297, R304).  In
LOCK each data lane's scramblers are seeded (R293). -/
def State.laneCSets (s : State) (p st : Nat) : State :=
  let n := linkOf p
  if p ≠ 2 * n then s
  else
    let s := if st ≤ 1 then { s with disparity :=
        { s.disparity with tx := withDisparity s.disparity.tx n false, rx := withDisparity s.disparity.rx n false } } else s
    let seeds : Tab Nat := (List.range 8).map fun k => (k, scramblerSeed k)
    let s := if st = 3 then s.modLink n fun l => { l with scramTx := seeds, scramRx := seeds } else s
    if st = 0 then s
    else s.emit (.sets p (encodeSymbols (s.disparity.tx.contains n) ((if st = 1 then beaconSet else []) ++ idleSet)))

/-- A port enters a state; `asked`: a command of the fabric manager or of the peer asked for it. -/
def State.enterState (s : State) (p st : Nat) (asked : Bool) : State :=
  let n := linkOf p
  let old := (s.port p).state
  let causes := if runs old && !runs st then s.portCauses p else []
  let owner := s.ownerAt n
  let held := s.linkAny n holdsKeys
  let s := s.modPort p fun x => if isDown st then { state := st, rx := st } else { x with state := st, rx := if st ≤ 4 then st else x.rx }
  let s := ((s.emit (.lane p (stateName st))).laneCSets p st).portTally p 37 1
  let s := s.trace 8 11 p none 0 (old + st * 2 ^ 8 + s.reg (linkObj n) 6 * 2 ^ 16)
  let s := if runs old && !runs st then s.breakBarriers p else s
  let s := causes.foldl (fun s c => s.raiseFail c.1 c.2.1 c.2.2) s
  let s := if keeps old && !keeps st then s.endTests n (fun _ => true) else s
  let s := if held && !s.linkAny n holdsKeys && isDown st then s.dropSession n else s
  let s := s.watchOwner owner
  let s := if runs st && !runs old && !thas s.clock.offsets n then
      { s with clock := { s.clock with
        unmeasured := if s.clock.unmeasured.contains n then s.clock.unmeasured else s.clock.unmeasured ++ [n],
        trimArmed := if s.clock.trimArmed.contains n then s.clock.trimArmed else s.clock.trimArmed ++ [n] } }
    else s
  if keeps old && isDown st && !asked then s.fault 0x03 1 p St.targetLost st 2 else s

/-- Once no port of a link is past LOCK, nothing of its bring-up remains (R312). -/
def State.settleLink (s : State) (n : Nat) : State :=
  if s.linkAny n (fun st => !isDown st) then s
  else
    let owner := s.ownerAt n
    let l := s.link n
    let s := if l.split = some true then s.setPort (2 * n + 1) {} else s
    (s.setLink n { l.atStart with laneC := l.laneC }).watchOwner owner

/-- Every port of a link enters DARK or DETECT. -/
def State.downLink (s : State) (n st : Nat) (asked : Bool) : State :=
  let l := (s.portsOf n).filter fun p => (s.port p).state != st && (p == 2 * n || (s.port p).state != 0)
  let s := l.foldl (fun s p => s.enterState p st asked) s
  s.settleLink n

/-- One port is FENCED with a reason of Table 9.9. -/
def State.fencePort (s : State) (p reason : Nat) (asked : Bool) : State :=
  if (s.port p).state = 8 then s
  else
    let s := (s.setReg (linkObj (linkOf p)) 6 reason).enterState p 8 asked
    (s.fault 0x04 1 p St.ok reason 2).settleLink (linkOf p)

/-- Every port of a link that is not DARK is FENCED. -/
def State.fenceLink (s : State) (n reason : Nat) (asked : Bool) : State :=
  (s.portsOf n).foldl (fun s p => if (s.port p).state = 0 then s else s.fencePort p reason asked) s

/-- A failed attempt: back to DETECT, or FENCED at the third in a row (R304). -/
def State.failAttempt (s : State) (n reason : Nat) : State :=
  let a := min 255 (s.reg (linkObj n) 0x0B + 1)
  let s := (s.setReg (linkObj n) 0x0B a).portTally (2 * n) 38 1
  if 3 ≤ a then s.fenceLink n reason false else s.downLink n 1 false

/-! ### Exchange messages (R307) -/

/-- The fragments of a message arrive on a link in a state in which lane C carries them (Table 9.6): its body, if it is not
discarded; the tallies of the link (R298, R307). -/
def State.readEx (s : State) (n : Nat) (x : Exch) (type : Nat) : State × Option Bytes :=
  if !s.linkAny n (fun st => !isDown st) then (s, none) else
  let plus := s.disparity.rx.contains n
  let bad := (fragsOf plus x.frags).isNone
  let s := { s with disparity := { s.disparity with rx := withDisparity s.disparity.rx n (disparityFrags plus x) } }
  (if bad then (s.portTally (2 * n) 28 1).light n 7 1 else s.portTally (2 * n) 30 x.frags.length, exBody plus x type)

/-- Send a message, kept until its answer comes where it has one. -/
def State.sayEx (s : State) (n type : Nat) (body : Bytes) (waits : Bool) : State :=
  let s := s.modLink n fun l => { l with
    said := (type, body) :: l.said.filter (fun x => x.1 != type),
    waiting := if waits then l.waiting.filter (fun m => m.type != type) ++ [{ type, body }] else l.waiting }
  s.sendEx (2 * n) type body

/-- A message has been said in this bring-up. -/
def LinkState.hasSaid (l : LinkState) (type : Nat) : Bool := l.said.any fun x => x.1 == type

/-- The peer's message of a TYPE whose answer is of the same TYPE: the answer to this end's, or, where this end's has been
answered, a repeat that is answered again. -/
def State.hearEx (s : State) (n type : Nat) : State :=
  let l := s.link n
  let again := l.heard.contains type && l.hasSaid type && !l.waiting.any (fun m => m.type == type)
  let s := s.setLink n { l with
    heard := if l.heard.contains type then l.heard else l.heard ++ [type], waiting := l.waiting.filter fun m => m.type != type }
  if again then
    match l.said.find? (fun x => x.1 == type) with
    | some x => s.sendEx (2 * n) type x.2
    | none => s
  else s

/-! ### Detection and beacons (R304, R457, R472, R557, R558) -/

/-- A port may leave DARK. -/
def State.mayDetect (s : State) (n : Nat) : Bool :=
  s.isReady && !s.boot.thermtrip && bit (s.reg 0x1020 7) n && bit (s.reg (linkObj n) 1) 0 && !(s.link n).hot &&
  ((s.link n).laser0 || (s.link n).laser1) && (s.link n).light

/-- The link engine's port has left DARK: events of the time before are delivered now (R540). -/
def State.wakeLink (s : State) (n : Nat) : State :=
  let l := s.faults.asleep.filter fun e => e.1 == n
  let s := { s with faults := { s.faults with asleep := s.faults.asleep.filter fun e => e.1 != n } }
  l.foldl (fun s (e : Nat × FaultRep) => s.foldEvent (s.resumeEvent e.2)) s

/-- PORT_DETECT (R304 step 1): light at the laser inputs, and lane C power above the detect threshold. -/
def execPortDetect (l : Link) (laser0 laser1 power : Bool) (s : State) : Out :=
  .next (
    let s := s.modLink l.val fun x => { x with laser0, laser1, light := power, laneC := power }
    if s.linkState l.val = 0 ∧ s.mayDetect l.val then ((s.setReg (linkObj l.val) 6 0).enterState (2 * l.val) 1 true).wakeLink l.val
    else s)

/-- BEACON (R304 step 2): one beacon received in DETECT, valid or not; TRAIN after 64 consecutive valid ones. -/
def execBeacon (l : Link) (valid : Bool) (s : State) : Out :=
  .next (
    if s.linkState l.val ≠ 1 then s
    else
      let n := if valid then (s.link l.val).beacons + 1 else 0
      let s := s.modLink l.val fun x => { x with beacons := n }
      if n < 64 then s else s.enterState (2 * l.val) 2 true)

/-- TRAIN_LOCK_TIMEOUT (R304 step 3). -/
def execTrainLockTimeout (l : Link) (s : State) : Out :=
  .next (if s.linkState l.val = 2 ∨ s.linkState l.val = 3 then s.failAttempt l.val 2 else s)

/-- EXCHANGE_TIMEOUT (R304 step 4). -/
def execExchangeTimeout (l : Link) (s : State) : Out :=
  .next (if s.linkState l.val = 4 then s.failAttempt l.val 3 else s)

/-! ### Light, lane C and slips (R311, R296, R472) -/

/-- A link goes DARK from any state. -/
def State.darkLink (s : State) (n : Nat) (asked : Bool) : State := s.downLink n 0 asked

/-- The sides that are up change: the parent is side 0 while it is up, a new parent's next marker is checked (R232, R233), and
grains and tokens are formed under the lower of their minor versions (R231). -/
def EndPoint.withSides (e : EndPoint) (up : List Nat) : EndPoint :=
  let parent := if up.contains 0 then 0 else 1
  let minors := e.minors.filter fun x => up.contains x.1
  { e with
    sideUp := up, parent, newParent := e.newParent || (e.align == 2 && parent != e.parent), minors,
    minor := match minors with
      | [] => 0
      | m :: r => r.foldl (fun n x => min n x.2) m.2 }

/-- A link of an accelerator's end-point is down: nothing of it remains. -/
def EndPoint.downLink (e : EndPoint) (k : Nat) : EndPoint :=
  let side := e.sideOf k
  let keep (t : Tab Nat) : Tab Nat := t.filter fun x => x.1 / 8 != side
  { (e.withSides (e.sideUp.filter (· != side))) with
    caps := tdel e.caps k, credSent := keep e.credSent, credFreed := keep e.credFreed, credInitial := keep e.credInitial,
    freedHere := keep e.freedHere, laneTx := tdel e.laneTx side, lostTx := tdel e.lostTx side, laneNamed := tdel e.laneNamed side,
    outbox := e.outbox.filter fun x => x.1 != side }

/-- The same of the state, whose record of the link's lane C begins anew (R297). -/
def State.downFaette (s : State) (k : Nat) : State :=
  { s with faette := s.faette.downLink k, disparity :=
      { s.disparity with tx := withDisparity s.disparity.tx (64 + s.faette.sideOf k) false, rx := withDisparity s.disparity.rx (64 + k) false } }

/-- PORT_LIGHT_LOST (R311): the receive fibre, or both laser inputs. -/
def execPortLightLost (l : LinkEnd) (rx : Bool) (s : State) : Out :=
  .next (match l with
    | .link l =>
      (s.modLink l.val fun x =>
        if rx then { x with light := false, laneC := false } else { x with laser0 := false, laser1 := false }).darkLink l.val false
    | .side k =>
      -- DARK: a fence of the link is over with it
      let s := s.downFaette k.val
      { s with faette := { s.faette with fencedLinks := s.faette.fencedLinks.filter (· != k.val) } })

/-- LANE_C_LOCK_LOST (R311): more than 1 µs without lock on lane C. -/
def execLaneCLockLost (l : Link) (s : State) : Out :=
  .next (
    let s := s.modLink l.val fun x => { x with laneC := false }
    if isDown (s.linkState l.val) && !s.linkAny l.val (fun st => !isDown st) then s else s.failAttempt l.val 2)

/-- RX_FIFO_SLIP (R296, R476): wander beyond the receive FIFO. -/
def execRxFifoSlip (l : Link) (s : State) : Out :=
  .next (if s.linkAny l.val (fun st => decide (3 ≤ st) && st != 8) then s.failAttempt l.val 2 else s)

/-- LASER_INPUT_LOST (R32): one laser input of an engine loses its light; engine 24 is the host engine. -/
def execLaserInputLost (engine : Fin 25) (input : Fin 2) (s : State) : Out :=
  .next (
    let f := s.event 0x02 9 engine.val St.ok input.val 1
    let s := if engine.val < 24 ∧ !s.linkAny engine.val (· != 0) then
        { s with faults := { s.faults with asleep := s.faults.asleep ++ [(engine.val, f)] } }
      else s.foldEvent f
    if engine.val = 24 then
      let s := { s with host :=
        if input.val = 0 then { s.host with laser0 := false } else { s.host with laser1 := false } }
      if s.host.laser0 || s.host.laser1 then s else s.hostDark
    else
      let s := s.modLink engine.val fun x => if input.val = 0 then { x with laser0 := false } else { x with laser1 := false }
      if (s.link engine.val).laser0 || (s.link engine.val).laser1 then s else s.darkLink engine.val false)

end Sys2Proof.Machine
end

