-- ==== Sys2Proof/Machine/Sessions.lean ====
section
/-! DEFINITION. Link sessions: key agreement, rekeying, key switches and limits (14 R427 to R436). -/

namespace Sys2Proof.Machine

open Sys2Proof

/-! ### The offer (Table 14.3) -/

/-- Random health fails: no new key (R427). -/
def State.randomFailed (s : State) : Bool := s.reg 0x9000 6 == 1

/-- The first 8,887 octets of this device's offer, named by a draw: its nonce and its ephemeral encapsulation key. -/
def State.offerBody (s : State) (rekey : Bool) (draw : Nat) : Bytes :=
  natLe 2 s.ownEp ++ natLe 2 (b2n s.confidential + 2 * b2n rekey) ++ natLe 32 (Config.random draw 256) ++
  natLe 64 (s.reg 0xA030 2) ++ natLe 1568 (Config.mlkemPublic draw) ++ natLe 2592 Config.identityPublic.toNat ++
  natLe 4627 Config.certificate.toNat

/-- The whole offer, signed. -/
def State.offer (s : State) (rekey : Bool) (draw : Nat) : Bytes :=
  let b := s.offerBody rekey draw
  b ++ natLe 4627 (Config.mldsaSign "OBXUS-KA" b)

def offerEp (o : Bytes) : Nat := leAt o 0 2
def offerRekey (o : Bytes) : Bool := bit (leAt o 2 2) 1
def offerMeasurement (o : Bytes) : Nat := leAt o 36 64
def offerKem (o : Bytes) : Nat := leAt o 100 1568
def offerIdentity (o : Bytes) : Bytes := sliceB o 1668 2592
def offerCert (o : Bytes) : Bytes := sliceB o 4260 4627
def offerSig (o : Bytes) : Bytes := sliceB o 8887 4627

/-- What a KA_RESPONSE signs: the digest of the answered offer, then the ciphertext. -/
def responseCover (offer ct : Bytes) : Bytes := sha3 offer ++ ct

/-! ### Failures (R432) -/

/-- A check has failed: a failed attempt in bring-up; in a rekey a report and a count, and the old keys stay. -/
def State.kaFail (s : State) (n step : Nat) : State :=
  match (s.link n).agree with
  | some a =>
    if a.rekey then
      let s := (s.addReg (0x9040 + n) 6 32 1).fault 0x12 1 (2 * n) St.ok step 2
      s.modLink n fun l => { l with
        agree := none, retry := true, waiting := l.waiting.filter fun m => m.type != 0x10 && m.type != 0x12 }
    else s.failAttempt n 3
  | none => if s.linkState n = 4 then s.failAttempt n 3 else s

/-! ### Sending -/

/-- KA_OFFER: the agreement begins, once core S runs (Table 13.9). -/
def State.startAgreement (s : State) (n : Nat) (rekey : Bool) : State :=
  if (s.coreStop 0).isSome then s.modLink n fun l => { l with retry := true }
  else if s.randomFailed then (if rekey then s.modLink n fun l => { l with retry := true } else s.failAttempt n 3)
  else
    let d := s.fresh
    let o := s.offer rekey d
    let s := s.draw.modLink n fun l => { l with
      retry := false, agree := some { (l.agree.getD {}) with rekey, draw := d, ownOffer := o } }
    s.sayEx n 0x10 o true

/-- A rekey runs in ACTIVE, DEGRADED, SPARE and MARGIN, one at a time, and waits for core S (R434, R449). -/
def State.startRekey (s : State) (n : Nat) : State :=
  if !s.linkAny n holdsKeys || (s.link n).agree.isSome || (s.link n).session.isNone then s
  else s.startAgreement n true

/-- The keys of R433 from both offers, both responses and both secrets: transcript, confirm key, session of this side. -/
def State.deriveSession (s : State) (a : Agreement) : Bytes × Bytes × Session :=
  let low := decide (s.ownEp < offerEp a.peerOffer)
  let pick (x y : Bytes) : Bytes := if low then x ++ y else y ++ x
  let t := sha3 (pick a.ownOffer a.peerOffer ++ pick a.ownResponse a.peerResponse)
  let m := kmac256 (pick (natLe 32 a.ownSecret) (natLe 32 a.peerSecret)) t 112 (ascii "OBXUS-LINK")
  let f (lo n : Nat) : Nat := leAt m lo n
  let lh (x y : Nat) : Nat := if low then x else y
  (t, sliceB m 80 32,
    { identity := sha3n (offerIdentity a.peerOffer), measurement := offerMeasurement a.peerOffer,
      keyTx := lh (f 0 32) (f 32 32), keyRx := lh (f 32 32) (f 0 32),
      saltTx := lh (f 64 4) (f 68 4), saltRx := lh (f 68 4) (f 64 4),
      saltTxB := lh (f 72 4) (f 76 4), saltRxB := lh (f 76 4) (f 72 4) })

/-- CONFIRM_TAG of a sender. -/
def confirmTag (key t : Bytes) (ep : Nat) : Bytes := kmac256 key (t ++ natLe 2 ep) 32 (ascii "OBXUS-CONFIRM")

/-- The first span boundary of the own frame at least two spans from now. -/
def State.twoSpansOn (s : State) : Nat := if s.offsetNow = 0 then s.clock.span + 2 else s.clock.span + 3

/-- READY follows the exchange of KA_CONFIRM (R431); its body is the negotiated version. -/
def State.sayReady (s : State) (n : Nat) : State := s.sayEx n 0x20 (natLe 2 (s.reg (linkObj n) 9)) true

/-- Both confirms have been exchanged: the agreement is complete. -/
def State.confirmed (s : State) (n : Nat) : State :=
  match (s.link n).agree with
  | none => s
  | some a =>
    if !a.confirmSent || !a.confirmGot then s
    else
      let k := a.keys.getD {}
      let s := ((s.addReg (0x9040 + n) 1 32 1).setReg (0x9040 + n) 2 k.identity).setReg (0x9040 + n) 3 k.measurement
      if a.rekey then s
      else (s.modLink n fun l => { l with session := some k, agree := none }).sayReady n

/-- Once both responses are there, the keys are derived, the secrets destroyed and KA_CONFIRM sent (R431, R433, R435). -/
def State.tryConfirm (s : State) (n : Nat) : State :=
  match (s.link n).agree with
  | none => s
  | some a =>
    if a.ownResponse.isEmpty || a.peerResponse.isEmpty || a.confirmSent then s
    else
      let x := s.deriveSession a
      let span := if a.rekey then s.twoSpansOn else 0
      let s := s.modLink n fun l => { l with agree := some { a with
        ownSecret := 0, peerSecret := 0, draw := 0, transcript := x.1, confirmKey := x.2.1, keys := some x.2.2,
        confirmSent := true, txSpan := if a.rekey then some span else none } }
      (s.sayEx n 0x12 (confirmTag x.2.1 x.1 s.ownEp ++ natLe 8 span) true).confirmed n

/-! ### Receiving -/

/-- Step of R432 that an offer fails. -/
def State.offerFault (s : State) (n : Nat) (o : Bytes) (rekey : Bool) : Option Nat :=
  if o.length ≠ 13514 ∨ !Config.certified (offerIdentity o) (offerCert o) then some 1
  else if offerEp o ≠ (s.link n).peerOwn then some 2
  else if !Config.mldsaVerify (offerIdentity o) "OBXUS-KA" (o.take 8887) (offerSig o) then some 3
  else
    match (s.link n).session with
    | some k =>
      if rekey ∧ (sha3n (offerIdentity o) ≠ k.identity ∨ offerMeasurement o ≠ k.measurement) then some 4 else none
    | none => none

/-- Answer an offer: encapsulate to its key and sign. -/
def State.answerOffer (s : State) (n : Nat) (o : Bytes) : State :=
  let d := s.fresh
  let ct := natLe 1568 (Config.mlkemEncaps (offerKem o) d)
  let r := ct ++ natLe 4627 (Config.mldsaSign "OBXUS-KA" (responseCover o ct))
  let s := s.draw.modLink n fun l => { l with
    agree := some { (l.agree.getD {}) with peerOffer := o, ownResponse := r, ownSecret := Config.mlkemSecret (offerKem o) d } }
  s.sayEx n 0x11 r false

/-- KA_OFFER (R431, R432, R434).  While core S restarts, the messages of an agreement go unanswered (Table 13.9). -/
def execKaOffer (l : Link) (x : Exch) (s : State) : Out :=
  .next (
    let n := l.val
    let rekey := s.linkAny n holdsKeys
    let r := s.readEx n x 0x10
    let s := r.1
    let b := r.2.getD []
    if r.2.isNone ∨ (s.coreStop 0).isSome ∨ !(s.linkState n == 4 || rekey) then s
    else
      match (s.link n).agree with
      | some a =>
        if a.peerOffer = b then (if a.ownResponse.isEmpty then s else s.sendEx (2 * n) 0x11 a.ownResponse)
        else
          match s.offerFault n b rekey with
          | some k => s.kaFail n k
          | none => if s.randomFailed then s.kaFail n 0 else (s.answerOffer n b).tryConfirm n
      | none =>
        let s := s.modLink n fun l => { l with agree := some { rekey } }
        (match s.offerFault n b rekey with
         | some k => s.kaFail n k
         | none =>
           if s.randomFailed then s.kaFail n 0
           else
             let s := s.answerOffer n b
             if rekey then s.startAgreement n true else s))

/-- KA_RESPONSE (R432, R433). -/
def execKaResponse (l : Link) (x : Exch) (s : State) : Out :=
  .next (
    let n := l.val
    let r := s.readEx n x 0x11
    let s := r.1
    let b := r.2.getD []
    match (s.link n).agree with
    | none => s
    | some a =>
      if r.2.isNone ∨ (s.coreStop 0).isSome ∨ a.ownOffer.isEmpty ∨ !a.peerResponse.isEmpty then s
      else
        let ct := b.take 1568
        let s := s.modLink n fun l => { l with waiting := l.waiting.filter fun m => m.type != 0x10 }
        if b.length ≠ 6195 ∨ a.peerOffer.isEmpty ∨
            !Config.mldsaVerify (offerIdentity a.peerOffer) "OBXUS-KA" (responseCover a.ownOffer ct) (b.drop 1568) then
          s.kaFail n 5
        else
          (s.modLink n fun l => { l with
            agree := some { a with peerResponse := b, peerSecret := Config.mlkemDecaps a.draw (leNat ct) } }).tryConfirm n)

/-- KA_CONFIRM (R431, R432, R433, R435): the tag, and at a rekey the peer's SWITCH_SPAN. -/
def execKaConfirm (l : Link) (x : Exch) (s : State) : Out :=
  .next (
    let n := l.val
    let r := s.readEx n x 0x12
    let s := r.1
    let b := r.2.getD []
    if r.2.isNone ∨ (s.coreStop 0).isSome then s
    else
      match (s.link n).agree with
      | none => if s.linkState n = 4 then s.hearEx n 0x12 else s
      | some a =>
        if !a.confirmSent then s
        else if a.confirmGot then s.hearEx n 0x12
        else if b.length ≠ 40 ∨ b.take 32 ≠ confirmTag a.confirmKey a.transcript (offerEp a.peerOffer) then s.kaFail n 6
        else
          let s := s.hearEx n 0x12
          (s.modLink n fun l => { l with agree := some { a with
            confirmGot := true, rxSpan := if a.rekey then some (leAt b 32 8) else none } }).confirmed n)

/-! ### Rekeying (R434 to R436) -/

/-- A write of 1 to REKEY 9040+n:05. -/
def rekeyEffect (n : Nat) : Effect := fun _ _ s =>
  if s.linkAny n holdsKeys then done (s.startRekey n) else refuse s St.valueRefused

/-- REKEY (R434). -/
def execRekey (r : Route) (l : Link) (v : Bytes) (s : State) : Out :=
  .next (s.rowWrite r (0x9040 + l.val) 5 v (rekeyEffect l.val))

/-- REKEY_DUE (R434): a grain counter has reached 2^39, or 23 hours have passed. -/
def execRekeyDue (l : Link) (s : State) : Out := .next (s.startRekey l.val)

/-- REKEY_RETRY (R432, R449): 1 s after a failure, or once core S is back; in bring-up the offer that had to wait for it. -/
def execRekeyRetry (l : Link) (s : State) : Out :=
  .next (
    if !(s.link l.val).retry then s
    else if s.linkState l.val = 4 ∧ !s.linkAny l.val holdsKeys then s.startAgreement l.val false
    else s.startRekey l.val)

/-- The agreement is over once both directions have switched and both confirms are there. -/
def Agreement.complete (a : Agreement) : Bool := a.rekey && a.confirmSent && a.confirmGot && a.txSpan.isNone && a.rxSpan.isNone

/-- KEY_SWITCH (R435): a direction of a link changes to the new key and salt, its grain counters from 0; `tx`: the transmit
direction, at the span that this end named, else the receive direction at the span that the peer named. -/
def execKeySwitch (l : Link) (tx : Bool) (s : State) : Out :=
  .next (
    let n := l.val
    match (s.link n).agree, (s.link n).session with
    | some a, some k =>
      (match a.keys, (if tx then a.txSpan else a.rxSpan) with
       | some new, some span =>
         if tx ∧ s.clock.span < span then s
         else
           let k := if tx then { k with keyTx := new.keyTx, saltTx := new.saltTx, saltTxB := new.saltTxB }
             else { k with keyRx := new.keyRx, saltRx := new.saltRx, saltRxB := new.saltRxB }
           let a := if tx then { a with txSpan := none } else { a with rxSpan := none }
           let s := s.modLink n fun l => { l with session := some k, agree := if a.complete then none else some a }
           (s.portsOf n).foldl (fun s p => s.modPort p fun x => if tx then { x with txCount := 0 } else { x with rxCount := 0 }) s
       | _, _ => s)
    | _, _ => s)

/-- KEY_LIMIT (R436): a key has reached 2^40 − 2^24 positions or 24 hours before its switch. -/
def execKeyLimit (l : Link) (s : State) : Out :=
  .next (if s.linkAny l.val holdsKeys then s.failAttempt l.val 3 else s)

end Sys2Proof.Machine
end

