-- ==== Sys2Proof/Machine/Bringup.lean ====
section
/-! DEFINITION. Bringing a link up: training, lock, capabilities, readiness, activation (09 R305 to R310, R312,
07 R230, 16 R476, R477, 17 R500). -/

namespace Sys2Proof.Machine

open Sys2Proof

/-! ### TRAIN and LOCK (R305, R306) -/

/-- LOCK follows once TRAINED has been sent and received, with at least seven lanes in each direction. -/
def State.tryLock (s : State) (n : Nat) : State :=
  if s.linkState n = 2 ∧ (s.link n).myLanes.isSome ∧ (s.link n).peerLanes.isSome then s.enterState (2 * n) 3 true else s

/-- LANE_TRAIN_PASS (R305): the receive lanes that pass. -/
def execLaneTrainPass (l : Link) (mask : BitVec 8) (s : State) : Out :=
  .next (
    let n := l.val
    if s.linkState n ≠ 2 ∨ popcount mask.toNat 8 < 7 ∨ (s.link n).myLanes.isSome then s
    else ((s.modLink n fun x => { x with myLanes := some mask.toNat }).sayEx n 1 [mask] true).tryLock n)

/-- TRAINED (R305). -/
def execTrained (l : Link) (x : Exch) (s : State) : Out :=
  .next (
    let n := l.val
    let r := s.readEx n x 1
    let s := r.1
    match r.2 with
    | none => s
    | some b =>
      let mask := leAt b 0 1
      if b.length ≠ 1 ∨ popcount mask 8 < 7 ∨ !(s.linkState n == 2 || s.linkState n == 3) then s
      else
        let s := s.hearEx n 1
        (if s.linkState n = 2 then s.modLink n fun y => { y with peerLanes := some mask } else s).tryLock n)

/-! ### Capabilities (Table 9.8) -/

/-- Channels of the credit fields, in order. -/
def creditVcs : List Nat := [0, 1, 2, 3, 6]

/-- The CAPS body of this device. -/
def State.ownCaps (s : State) (n : Nat) : Bytes :=
  let split := bit (s.reg (linkObj n) 1) 2
  let credit := if split then 128 else 256
  natLe 48 (put 0x0101 383 368 + put 0x0100 367 352 + put s.ownEp 349 336 + put (s.reg (linkObj n) 0x0A) 335 322
    + put s.pair.partner 321 308 + put (b2n split) 307 307 + put s.sched.slotLog 306 304 + put s.sched.spanLog 303 300
    + put ((s.link n).myLanes.getD 0) 299 292
    + (List.range 5).foldl (fun v i => v + put credit (291 - 16 * i) (276 - 16 * i)) 0)

/-- EXCHANGE is entered once LOCKED has been sent and received; CAPS goes at once (R306, R307). -/
def State.tryExchange (s : State) (n : Nat) : State :=
  if s.linkState n = 3 ∧ (s.link n).hasSaid 2 ∧ (s.link n).heard.contains 2 then
    let s := s.enterState (2 * n) 4 true
    s.sayEx n 3 (s.ownCaps n) true
  else s

/-- Every active lane has found its unit boundary; `units` holds what each has received, in ascending lane number (R293). -/
def State.lanesLocked (s : State) (n : Nat) (units : List (List (BitVec 300))) : Bool :=
  units.length == popcount ((s.link n).myLanes.getD 0xFF) 8 && units.all findsBoundary

/-- LOCK_ACHIEVED (R306, R296, R293, R476): the lanes' unit boundaries are found, and 4,096 frames have come without an
uncorrectable codeword; the peer's frequency lies within 2 ppm, the lane skew within the allowance. -/
def execLockAchieved (l : Link) (found : LockFound) (skewOk : Bool) (s : State) : Out :=
  .next (
    let n := l.val
    if s.linkState n ≠ 3 ∨ !s.lanesLocked n found.units then s
    else if !found.freqOk then s.fenceLink n 7 false
    else if !skewOk then s.failAttempt n 2
    else if (s.link n).hasSaid 2 then s
    else (({ s with clock := { s.clock with depth := tdel s.clock.depth n } }).sayEx n 2 [] true).tryExchange n)

/-- LOCKED (R306). -/
def execLocked (l : Link) (x : Exch) (s : State) : Out :=
  .next (
    let n := l.val
    let r := s.readEx n x 2
    let s := r.1
    if r.2.isNone ∨ !(s.linkState n == 3 || s.linkState n == 4) then s else (s.hearEx n 2).tryExchange n)

def capsKind (c : Nat) : Nat := fld c 351 350
def capsOwn (c : Nat) : Nat := fld c 349 336
def capsAssigned (c : Nat) : Nat := fld c 335 322
def capsPartner (c : Nat) : Nat := fld c 321 308
def capsSplit (c : Nat) : Bool := bit c 307
def capsCredits (c : Nat) : List Nat := (List.range 5).map fun i => fld c (291 - 16 * i) (276 - 16 * i)

/-- The version that both ends take; this device's range is 1.0 to 1.1 (R308). -/
def capsVersion (c : Nat) : Option Nat :=
  let hi := fld c 383 368
  let lo := fld c 367 352
  if lo / 256 ≤ 1 ∧ 1 ≤ hi / 256 then some (0x100 + (if hi / 256 = 1 then min 1 (hi % 256) else 1)) else none

/-- The identity cases in which the port fences with reason 4 (R309). -/
def State.capsIdentity (s : State) (n c : Nat) : Bool :=
  let assigned := s.reg (linkObj n) 0x0A
  capsOwn c == s.ownEp || decide (2 ≤ capsKind c) ||
  (capsKind c == 1 && (assigned == 0x3FFF || (capsOwn c != 0x3FFF && capsOwn c != assigned)))

/-- SPLIT_REQUEST as this end's CAPS of the bring-up has it (R312). -/
def State.askedSplit (s : State) (n : Nat) : Bool :=
  match (s.link n).said.find? (fun x => x.1 == 3) with
  | some x => capsSplit (leNat x.2)
  | none => bit (s.reg (linkObj n) 1) 2

/-- What a CAPS message that passes every check fixes (R301, R308, R312, R500); under a split the second half is in EXCHANGE with
the first. -/
def State.takeCaps (s : State) (n c version : Nat) : State :=
  let sw := capsKind c == 0
  let split := s.askedSplit n && capsSplit c
  let s := (s.setReg (linkObj n) 9 version).modLink n fun l => { l with
    split := some split, peerCredit := capsCredits c, peerSwitch := sw, peerOwn := capsOwn c,
    peerEp := if sw then capsOwn c else s.reg (linkObj n) 0x0A, minor := version % 256 }
  let s := if split then s.enterState (2 * n + 1) 4 true else s
  let s := if s.reg 0xB010 2 = n ∧ sw then { s with pair := { s.pair with partner := capsOwn c } } else s
  if fld c 306 304 ≠ s.sched.slotLog ∨ fld c 303 300 ≠ s.sched.spanLog then s.fault 0x06 1 (2 * n) St.ok 3 1 else s

/-- CAPS at a link of the device. -/
def State.capsHere (s : State) (n : Nat) (x : Exch) : State :=
  let r := s.readEx n x 3
  let s := r.1
  let b := r.2.getD []
  let c := leNat b
  if s.linkState n ≠ 4 ∨ b.length ≠ 48 then s
  else if (s.link n).heard.contains 3 then s.hearEx n 3
  else
    match capsVersion c with
    | none => s.failAttempt n 3
    | some v =>
      if s.capsIdentity n c then s.fenceLink n 4 false
      else ((s.hearEx n 3).takeCaps n c v).startAgreement n false

/-! ### The accelerator's end-point (R230, R231, R258) -/

/-- A link of an accelerator's end-point is FENCED for a reason, and the end-point reports it on the other link (R230). -/
def State.fenceFaette (s : State) (k reason : Nat) : State :=
  let t := s.downFaette k
  let t := { t with faette := { t.faette with fencedLinks := t.faette.fencedLinks.filter (· != k) ++ [k] } }
  let side := s.faette.sideOf k
  let f : FaultRep := { kind := 0x04, subjType := 1, subjId := side, status := St.ok, detail := reason, severity := 2, count := 1,
                        ep := t.faette.id, firstSpan := t.faette.span, lastSpan := t.faette.span }
  t.faetteSend (1 - side) (mkMgmt 2 0 t.faette.id s.ownEp 2 0x70 0 true (natLe 64 f.bits))

/-- The CAPS body of an accelerator's end-point: KIND 1, its ID once it has one, no split, and 64 grains of credit for each open
channel (R229, R230, R258). -/
def State.faetteCaps (s : State) : Bytes :=
  natLe 48 (put 0x0101 383 368 + put 0x0100 367 352 + put 1 351 350 + put s.faette.id 349 336 + put 0x3FFF 335 322
    + put 0x3FFF 321 308 + put s.sched.slotLog 306 304 + put s.sched.spanLog 303 300 + put 0xFF 299 292
    + (List.range 5).foldl (fun v i => v + put 64 (291 - 16 * i) (276 - 16 * i)) 0)

/-- A link's CAPS agree with the identity and the pair already taken: the ID, and on this side the switch that leads there
(R229, R230). -/
def EndPoint.capsAgree (e : EndPoint) (k : Nat) (c : List Nat) : Bool :=
  e.switches.isEmpty || (c.getD 0 0 == e.id && e.switches.getD (e.sideOf k) 0x3FFF == c.getD 1 0 && e.switches.contains (c.getD 2 0) &&
    c.getD 1 0 != c.getD 2 0)

/-- CAPS at a link of an accelerator's end-point: it answers with its own, and what it hears is kept; a version that it does not
share, an identity that disagrees, an RSVD KIND or its own ID fence the link (R230, R308, R309). -/
def State.capsThere (s : State) (k : Nat) (x : Exch) : State :=
  if s.faette.fencedLinks.contains k then s
  else
    let b := (exBody (s.disparity.rx.contains (64 + k)) x 3).getD []
    let s := { s with disparity := { s.disparity with
      rx := withDisparity s.disparity.rx (64 + k) (disparityFrags (s.disparity.rx.contains (64 + k)) x) } }
    let c := leNat b
    if b.length ≠ 48 then s
    else
      let l := [capsAssigned c, capsOwn c, capsPartner c] ++ capsCredits c
      let s := s.sendEx (64 + s.faette.sideOf k) 3 s.faetteCaps
      match capsVersion c with
      | none => s.fenceFaette k 3
      | some v =>
        if !s.faette.capsAgree k l ∨ 2 ≤ capsKind c ∨ (s.faette.id ≠ 0x3FFF ∧ capsOwn c = s.faette.id) then s.fenceFaette k 4
        else { s with faette := { s.faette with caps := tset s.faette.caps k (l ++ [v % 256]) } }

/-- CAPS (R308, R309, R312, R230). -/
def execCaps (f : LinkEnd) (x : Exch) (s : State) : Out :=
  .next (match f with
    | .link l => s.capsHere l.val x
    | .side k => s.capsThere k.val x)

/-! ### READY and activation (R310, R312, R301) -/

/-- READY (R310): both have been exchanged. -/
def execReady (l : Link) (x : Exch) (s : State) : Out :=
  .next (
    let r := s.readEx l.val x 0x20
    let s := r.1
    if !s.linkAny l.val (fun st => !isDown st && decide (4 ≤ st)) ∨ (r.2.getD []).length ≠ 2 then s else s.hearEx l.val 0x20)

/-- Lanes of a port: all eight of a full link, four of a half. -/
def State.portLanes (s : State) (p : Nat) : List Nat :=
  if s.isHalf p then (List.range 4).map (· + 4 * (p % 2)) else List.range 8

/-- The one lane of a full link that did not pass in a mask. -/
def lostLane (mask : Nat) : Option Nat := (List.range 8).find? fun k => !bit mask k

/-- A half that did not pass on all four of its lanes in both directions (R312). -/
def State.badHalf (s : State) (n p : Nat) : Bool :=
  let l := s.link n
  s.isHalf p && (s.portLanes p).any fun k => !bit (l.myLanes.getD 0xFF) k || !bit (l.peerLanes.getD 0xFF) k

/-- A port starts its transmit direction, at the own span boundary. -/
def State.activateTx (s : State) (n p : Nat) : State :=
  let l := s.link n
  let mine := l.myLanes.getD 0xFF
  let peer := l.peerLanes.getD 0xFF
  let admitted := bit (s.reg (linkObj n) 1) 1
  if s.badHalf n p then s.fencePort p 9 false
  else
    let tx := if s.isHalf p then none else lostLane peer
    let rx := if s.isHalf p then none else lostLane mine
    let s := s.modPort p fun x => { x with
      lostTx := tx, lostRx := rx, sent := [], freed := [], txCount := 0, txSpan := 0,
      initial := (creditVcs.zip l.peerCredit).foldl (fun t x => tset t x.1 x.2) [] }
    s.enterState p (if !admitted then 9 else if tx.isSome || rx.isSome then 7 else 5) true

/-- A port starts its receive direction, at the peer's span boundary. -/
def State.activateRx (s : State) (n p : Nat) : State :=
  if (s.port p).state = 8 ∨ holdsKeys (s.port p).rx then s
  else s.modPort p fun x => { x with
    rx := if bit (s.reg (linkObj n) 1) 1 then 5 else 9, rxCount := 0, rxSpan := 0, freedHere := [] }

/-- Both READYs have been exchanged. -/
def State.bothReady (s : State) (n : Nat) : Bool := (s.link n).hasSaid 0x20 && (s.link n).heard.contains 0x20

/-- ARRIVAL_TARGET in force changes at a bring-up (R477). -/
def State.aimTrim (s : State) (n : Nat) : State :=
  let t := s.reg 0xB150 (n + 1)
  { s with clock := { s.clock with targets := tset s.clock.targets n t, trim := tset s.clock.trim n (if t = 0x8000 then 0 else 4) } }

/-- The end-point takes its ID and its sides from the CAPS of a link: side 0 leads to the switch with the lower ID (R229,
R230). -/
def EndPoint.takeIdentity (e : EndPoint) (k : Nat) (c : List Nat) : EndPoint :=
  let a := c.getD 1 0
  let b := c.getD 2 0
  { e with id := c.getD 0 0, switches := [min a b, max a b], cross := decide (a < b) != decide (k = 0) }

/-- Activation of a link of an accelerator's end-point: the first fixes the identity and the sides (R230); the side's credit is
the peer's (R301), and what waited for it goes. -/
def State.activateFaette (s : State) (k : Nat) : State :=
  match s.faette.caps.find? (fun e => e.1 == k) with
  | none => s
  | some c =>
    if s.faette.fencedLinks.contains k then s
    else if !s.faette.capsAgree k c.2 then s.fenceFaette k 4
    else
      let e := if s.faette.switches.isEmpty then s.faette.takeIdentity k c.2 else s.faette
      let side := e.sideOf k
      if e.sideUp.contains side then s
      else
        let e := { e with
          minors := tset e.minors side (c.2.getD 8 0),
          credInitial := (creditVcs.zip ((c.2.drop 3).take 5)).foldl (fun t (x : Nat × Nat) => tset t (8 * side + x.1) x.2) e.credInitial }
        creditVcs.foldl (fun s vc => s.onCredit side vc) { s with faette := e.withSides (e.sideUp ++ [side]) }

/-- PORT_ACTIVATE (R310, R312, R301): the span boundary after both READYs, of the own frame for the transmit direction and of
the peer's for the receive direction. -/
def execPortActivate (f : LinkEnd) (tx : Bool) (s : State) : Out :=
  .next (match f with
    | .side k => s.activateFaette k.val
    | .link l =>
      let n := l.val
      if !s.bothReady n then s
      else if !tx then (s.portsOf n).foldl (fun s p => s.activateRx n p) s
      else if s.linkState n ≠ 4 then s
      else
        let s := (s.setReg (linkObj n) 0x0B 0).aimTrim n
        let l := s.portsOf n
        (l.filter (fun p => !s.badHalf n p) ++ l.filter (s.badHalf n)).foldl (fun s p => s.activateTx n p) s)

end Sys2Proof.Machine
end

