-- ==== Sys2Proof/Machine/Lanes.lean ====
section
/-! DEFINITION. Running links: NACK and credit tokens, lost lanes, MODE, LINK_CONTROL, RETRAIN and FENCE
(09 R301, R302, R313 to R319, R324, 03 R105, R109, R112, 17 R521). -/

namespace Sys2Proof.Machine

open Sys2Proof

/-! ### NACK (R105, R109, R112) -/

/-- A NACK at the device: forwarded, or acted on by the device's own end-point and board. -/
def State.nackHere (s : State) (p fields : Nat) (lost : Bool) : State :=
  let vc := fld fields 65 63
  let s := if p = 48 then s else (s.portTally p 27 1).trace 3 6 p none 0 (put fields 79 0)
  let s := if vc = 5 then s.tagTally (fld fields 54 50) (some p) 8 1 else s
  if fld fields 79 66 ≠ s.ownEp then
    let t := s.sendNack fields
    if (s.route (fld fields 79 66) (fld fields 79 66) vc).isSome then t.nackException p vc 0x7F else t
  else if vc ≠ 5 then (s.onNack .internal fields).afterEnds
  else if p = 48 then (s.memberResend .internal 0 fields).boardResend fields lost
  else s.boardResend fields lost

/-- NACK: a token is forwarded toward its SRC_EP; at the source it makes the grain and those after it go again.  `lost`: a
held RESULT grain that it names reads uncorrectable (R337). -/
def execNack (f : TokenFrom) (t : RawToken) (lost : Bool) (s : State) : Out :=
  .next (
    let x := s.takeUrgent f t "NACK"
    match x.2, f with
    | none, _ => x.1
    | some m, .port p => x.1.nackHere p.val m lost
    | some m, .faette k =>
      if fld m 65 63 = 5 then x.1.memberResend .faette (x.1.faette.sideOf k.val) m else (x.1.onNack .faette m).afterEnds)

/-! ### Credits (R301, R258) -/

/-- CREDIT: FREED of a channel of a port. -/
def execCredit (f : TokenFrom) (t : RawToken) (s : State) : Out :=
  .next (
    let x := s.takeToken f t "Credit"
    match x.2 with
    | none => x.1
    | some m =>
      let vc := fld m 30 28
      if !openVc vc then x.1
      else
        match f with
        | .port p =>
          let q := halfPort p.val (fld m 31 31)
          if p.val = 48 ∨ !keeps (x.1.port q).state then x.1
          else x.1.modPort q fun y => { y with freed := tset y.freed vc (fld m 15 0) }
        | .faette k =>
          let side := x.1.faette.sideOf k.val
          ({ x.1 with faette := { x.1.faette with credFreed := tset x.1.faette.credFreed (8 * side + vc) (fld m 15 0) } }).onCredit side vc)

/-! ### Lost lanes (R313 to R316) -/

/-- A lane token: KIND, HALF, LANE, SWITCH_SPAN. -/
def laneFields (kind half lane span : Nat) : Nat := put kind 31 29 + put half 28 28 + put lane 27 24 + put span 15 0

def State.sendDown (s : State) (p lane : Nat) : State :=
  s.token p "Lane" (laneFields 0 (if s.isHalf p then p % 2 else 0) lane 0)

/-- LANE_FAILURE (R313, R316): a receiver declares a data lane failed. -/
def execLaneFailure (p : Port) (lane : Fin 8) (s : State) : Out :=
  .next (
    let x := s.port p.val
    if p.val = 48 ∨ !keeps x.state ∨ !(s.portLanes p.val).contains lane.val ∨ x.lostRx = some lane.val ∨
        x.downWait = some lane.val ∨ x.laneRx.map (·.what) = some lane.val then s
    else
      let s := (s.fault 0x05 1 p.val St.ok lane.val 1).exception 5 p.val 0x7F s.clock.slot
      if s.isHalf p.val then s.fencePort p.val 9 false
      else if x.lostRx.isSome ∨ x.downWait.isSome ∨ x.laneRx.isSome then s.fencePort p.val 5 false
      else (s.modPort p.val fun y => { y with downWait := some lane.val }).sendDown p.val lane.val)

/-- LANE_DOWN_REPEAT (R313): every 1 µs until DOWN_ACK. -/
def execLaneDownRepeat (p : Port) (s : State) : Out :=
  .next (match (s.port p.val).downWait with
    | some lane => s.sendDown p.val lane
    | none => s)

/-- The switch span that the first DOWN_ACK names in a span of the sender's frame: at least two spans on, and at least 2 µs
(2,667 grain times). -/
def State.downSpan (s : State) (span : Nat) : Nat :=
  max (span + 2) (ceilDiv (span * s.spanLen + s.offsetNow + 2667) s.spanLen)

/-- DOWN at an accelerator's end-point, whose links are full ones; a second lane fences the link (R229, R313, R316). -/
def State.downThere (s : State) (k half lane : Nat) : State :=
  let e := s.faette
  let side := e.sideOf k
  let answer (s : State) (span : Nat) : State := s.putToken (64 + side) "Lane" (laneFields 1 0 lane span)
  if half = 1 ∨ 8 ≤ lane ∨ !e.sideUp.contains side then s
  else
    match e.lostTx.find? (·.1 == side), e.laneTx.find? (·.1 == side) with
    | none, none =>
      let span := s.downSpan e.span
      answer { s with faette := { e with laneTx := tset e.laneTx side ⟨span, lane⟩, laneNamed := tset e.laneNamed side span } } span
    | _, some w => if w.2.what = lane then answer s w.2.span else s.fenceFaette k 5
    | some x, none => if x.2 = lane then answer s (tget e.laneNamed side 0) else s.fenceFaette k 5

/-- DOWN (R313): the sender answers with DOWN_ACK. -/
def execDown (f : TokenFrom) (t : RawToken) (s : State) : Out :=
  .next (
    let x := s.takeUrgent f t "Lane"
    match x.2, f with
    | some m, .port q =>
      let s := x.1
      let half := fld m 28 28
      let lane := fld m 27 24
      let p := halfPort q.val half
      let y := s.port p
      if p = 48 ∨ fld m 31 29 ≠ 0 ∨ !keeps y.state ∨ !(s.portLanes p).contains lane then s
      else if s.isHalf p then s.fencePort p 9 false
      else
        (match y.lostTx, y.laneTx with
         | none, none =>
           let span := s.downSpan s.clock.span
           (s.modPort p fun z => { z with laneTx := some ⟨span, lane⟩, laneNamed := some span }).token p "Lane"
             (laneFields 1 half lane span)
         | _, some w => if w.what = lane then s.token p "Lane" (laneFields 1 half lane w.span) else s.fencePort p 5 false
         | some k, none =>
           -- each DOWN is answered, for a lane already switched with the span that was named
           if k = lane then s.token p "Lane" (laneFields 1 half lane (y.laneNamed.getD (s.downSpan s.clock.span))) else s.fencePort p 5 false)
    | some m, .faette k => if fld m 31 29 = 0 then x.1.downThere k.val (fld m 28 28) (fld m 27 24) else x.1
    | none, _ => x.1)

/-- DOWN_ACK (R313): the receiver holds the switch span. -/
def execDownAck (f : TokenFrom) (t : RawToken) (s : State) : Out :=
  .next (
    let x := s.takeUrgent f t "Lane"
    match x.2, f with
    | some m, .port q =>
      let s := x.1
      let p := halfPort q.val (fld m 28 28)
      let lane := fld m 27 24
      if fld m 31 29 ≠ 1 ∨ (s.port p).downWait ≠ some lane then s
      else s.modPort p fun y => { y with downWait := none, laneRx := some ⟨fld m 15 0, lane⟩ }
    | _, _ => x.1)

/-- A direction degrades: its tests end early (R323), and the port is DEGRADED unless it is in SPARE. -/
def State.degrade (s : State) (p : Nat) (tx : Bool) : State :=
  let s := s.endTests (linkOf p) (fun t => t.onTx == tx)
  if (s.port p).state = 5 then s.enterState p 7 true else s

/-- SEVEN_LANE_SWITCH (R313): the named boundary of the transmit direction, or of the receive direction as the arrival offset
places it; there a receiver without DOWN_ACK returns to DETECT. -/
def execSevenLaneSwitch (p : Port) (tx : Bool) (s : State) : Out :=
  .next (
    let x := s.port p.val
    if tx then
      match x.laneTx with
      | some w =>
        if s.clock.span < w.span then s
        else (s.modPort p.val fun y => { y with laneTx := none, lostTx := some w.what }).degrade p.val true
      | none => s
    else
      match x.laneRx, x.downWait with
      | some w, _ =>
        let t := s.modPort p.val fun y =>
          { y with laneRx := none, lostRx := some w.what, rx := if y.rx = 5 then 7 else y.rx }
        t.degrade p.val false
      | none, some _ => s.failAttempt (linkOf p.val) 2
      | none, none => s)

/-! ### MODE (R317, R318) -/

def modeBody (st span : Nat) : Bytes := natLe 1 st ++ natLe 8 span

/-- The span that a MODE sent now names: more than two spans ahead. -/
def State.modeSpan (s : State) : Nat := s.clock.span + 3

/-- Ask for a state by MODE. -/
def State.askMode (s : State) (n st : Nat) : State :=
  let span := s.modeSpan
  (s.modLink n fun l => { l with txSwitch := some ⟨span, st⟩ }).sayEx n 0x50 (modeBody st span) true

/-- MODE (R317): the answer to a MODE of this end, or a request, which is answered. -/
def execMode (l : Link) (x : Exch) (s : State) : Out :=
  .next (
    let n := l.val
    let r := s.readEx n x 0x50
    let s := r.1
    let b := r.2.getD []
    let st := leAt b 0 1
    let span := leAt b 1 8
    if b.length ≠ 9 ∨ !holdsKeys st ∨ !s.linkAny n holdsKeys then s
    else
      let mine := (s.link n).waiting.any fun m => m.type == 0x50 && leAt m.body 0 1 == st
      let s := s.modLink n fun y => { y with rxSwitch := some ⟨span, st⟩, waiting := y.waiting.filter fun m => m.type != 0x50 }
      if mine then s
      else
        let own := match (s.link n).txSwitch with
          | some w => if w.what = st then w.span else s.modeSpan
          | none => s.modeSpan
        (s.modLink n fun y => { y with txSwitch := some ⟨own, st⟩ }).sayEx n 0x50 (modeBody st own) false)

/-- ACTIVE becomes DEGRADED where a lane is lost. -/
def PortState.runState (x : PortState) : Nat := if x.lostTx.isSome || x.lostRx.isSome then 7 else 5

/-- Counts of the last test begin anew (R522). -/
def State.clearCounts (s : State) (n : Nat) : State :=
  (List.range 11).foldl (fun s k => s.setReg (linkObj n) (0x0E + k) 0) s

/-- MODE_SWITCH (R317, R318, R522): the named boundary of a direction. -/
def execModeSwitch (l : Link) (tx : Bool) (s : State) : Out :=
  .next (
    let n := l.val
    if tx then
      match (s.link n).txSwitch with
      | some w =>
        if s.clock.span < w.span then s
        else
          let s := s.modLink n fun y => { y with txSwitch := none }
          let s := if w.what = 6 then s.clearCounts n else s
          ((s.portsOf n).filter fun p => holdsKeys (s.port p).state).foldl (fun s p =>
            let st := if runs w.what then (s.port p).runState else w.what
            -- FREED and the count of grains sent are zero at entry to ACTIVE (R301)
            let s := if runs st && !runs (s.port p).state then s.modPort p fun y => { y with sent := [], freed := [] } else s
            if (s.port p).state = st then s else s.enterState p st true) s
      | none => s
    else
      match (s.link n).rxSwitch with
      | some w =>
        let s := s.modLink n fun y => { y with rxSwitch := none }
        ((s.portsOf n).filter fun p => holdsKeys (s.port p).state).foldl (fun s p =>
          s.modPort p fun y => { y with
            rx := if runs w.what then (if y.lostRx.isSome then 7 else 5) else w.what,
            freedHere := if runs w.what && !runs y.rx then [] else y.freedHere }) s
      | none => s)

/-! ### Resends (R307) -/

/-- EXCHANGE_RESEND (R307): 100 µs without an answer.  After three sends an attempt in EXCHANGE fails; later a report is raised
and the state stays. -/
def execExchangeResend (l : Link) (type : BitVec 8) (s : State) : Out :=
  .next (
    let n := l.val
    let t := type.toNat
    match (s.link n).waiting.find? (fun m => m.type == t) with
    | none => s
    | some m =>
      let st := s.linkState n
      if m.sends < 3 ∨ st = 2 ∨ st = 3 then
        (s.modLink n fun y => { y with waiting := lmodFirst y.waiting (fun m => m.type == t) fun m => { m with sends := m.sends + 1 } }).sendEx
          (2 * n) t m.body
      else if st = 4 then s.failAttempt n 3
      else
        let s := s.modLink n fun y => { y with
          waiting := y.waiting.filter (fun m => m.type != t), txSwitch := if t = 0x50 then none else y.txSwitch,
          tests := if t = 0x40 then y.tests.filter (fun x => !x.mine || x.agreed) else y.tests,
          agree := if t = 0x10 ∨ t = 0x12 then none else y.agree, retry := y.retry || t == 0x10 || t == 0x12 }
        s.fault 0x06 1 (2 * n) St.ok t 1)

/-! ### LINK_CONTROL, RETRAIN, FENCE (R324, R317 to R319, R521) -/

/-- A write to LINK_CONTROL: ENABLE, ADMIT, SPLIT_REQUEST and MARGIN, each as the value has it in the state of the port; a change
of state that is already asked for is not asked again.  No ENABLE while the engine is looped back (R556). -/
def linkControlEffect (n : Nat) : Effect := fun _ v s =>
  let old := s.reg (linkObj n) 1
  let new := leNat v
  let ask (st : Nat) (s : State) : State := if (s.link n).txSwitch.map (·.what) = some st then s else s.askMode n st
  if (bit new 0 && bit (s.reg 0xF000 2) n) || (bit new 3 && !bit old 3 && !s.linkAny n holdsKeys) then refuse s St.valueRefused
  else
    let s := s.setReg (linkObj n) 1 (new % 16)
    if bit old 0 && !bit new 0 then done (s.darkLink n true)
    else if bit new 3 && s.linkAny n keeps then done (ask 6 s)
    else if !bit new 3 && s.linkAny n (· == 6) then done (ask 9 s)
    else if !bit new 1 && s.linkAny n runs then done (ask 9 s)
    else if bit new 1 && s.linkAny n (· == 9) then done (ask 5 s)
    else done s

/-- LINK_ENABLE (R304, R457). -/
def execLinkEnable (r : Route) (l : Link) (v : Bytes) (s : State) : Out :=
  .next (s.rowWrite r (linkObj l.val) 1 v (linkControlEffect l.val))

/-- LINK_DISABLE: the port goes DARK at once (R457). -/
def execLinkDisable (r : Route) (l : Link) (v : Bytes) (s : State) : Out :=
  .next (s.rowWrite r (linkObj l.val) 1 v (linkControlEffect l.val))

/-- ADMIT_CLEAR (R317). -/
def execAdmitClear (r : Route) (l : Link) (v : Bytes) (s : State) : Out :=
  .next (s.rowWrite r (linkObj l.val) 1 v (linkControlEffect l.val))

/-- ADMIT_SET (R317). -/
def execAdmitSet (r : Route) (l : Link) (v : Bytes) (s : State) : Out :=
  .next (s.rowWrite r (linkObj l.val) 1 v (linkControlEffect l.val))

/-- SPLIT_REQUEST (R312): for the next bring-up. -/
def execSplitRequest (r : Route) (l : Link) (v : Bytes) (s : State) : Out :=
  .next (s.rowWrite r (linkObj l.val) 1 v (linkControlEffect l.val))

/-- MARGIN_SET (R318). -/
def execMarginSet (r : Route) (l : Link) (v : Bytes) (s : State) : Out :=
  .next (s.rowWrite r (linkObj l.val) 1 v (linkControlEffect l.val))

/-- MARGIN_CLEAR (R318). -/
def execMarginClear (r : Route) (l : Link) (v : Bytes) (s : State) : Out :=
  .next (s.rowWrite r (linkObj l.val) 1 v (linkControlEffect l.val))

/-- A write of 1 to RETRAIN: a health fence frees its place and its scoring restarts (R319, R521). -/
def retrainEffect (n : Nat) : Effect := fun _ _ s =>
  let health := s.reg (linkObj n) 6 == 8
  let s := (s.setReg (linkObj n) 0x0B 0).setReg (linkObj n) 6 0
  let s := if health then { s with health := { s.health with links := tset s.health.links n {} } } else s
  done (if s.linkState n = 0 then s else s.downLink n 1 true)

/-- RETRAIN (R319). -/
def execRetrain (r : Route) (l : Link) (v : Bytes) (s : State) : Out :=
  .next (s.rowWrite r (linkObj l.val) 2 v (retrainEffect l.val))

/-- A write of 1 to FENCE: from any state but DARK. -/
def fenceEffect (n : Nat) : Effect := fun _ _ s =>
  if s.linkState n = 0 ∧ !s.linkAny n (· != 0) then refuse s St.valueRefused else done (s.fenceLink n 1 true)

/-- FENCE (R319). -/
def execFence (r : Route) (l : Link) (v : Bytes) (s : State) : Out :=
  .next (s.rowWrite r (linkObj l.val) 3 v (fenceEffect l.val))

end Sys2Proof.Machine
end

