-- ==== Sys2Proof/Machine/LinkTests.lean ====
section
/-! DEFINITION. Tests in maintenance slots and in MARGIN (09 R320 to R323, 03 R93, 17 R522, R523). -/

namespace Sys2Proof.Machine

open Sys2Proof

/-- A port of the link has a maintenance slot in its map of the tested direction (R320). -/
def State.hasMaint (s : State) (n : Nat) (egress : Bool) : Bool :=
  (s.portsOf n).any fun p => match s.mapAt s.clock.span p egress with
    | some m => m.slots.any (fun x => x.1 == 2)
    | none => false

/-- The body of TEST_START (Table 9.7). -/
def testBody (t : LinkTest) : Bytes := natLe 1 t.kind ++ natLe 1 t.mask ++ natLe 8 t.start ++ natLe 4 t.spans

/-- A test may be asked for on a link. -/
def State.mayTest (s : State) (n kind : Nat) : Bool :=
  decide (1 ≤ kind) && decide (kind ≤ 3) && s.linkAny n keeps && s.hasMaint n (decide (kind ≤ 2)) &&
  !(s.link n).tests.any (fun t => t.mine)

/-- Ask the peer for a test from the second span on. -/
def State.askTest (s : State) (n kind mask spans : Nat) (periodic : Bool) : State :=
  let t : LinkTest := { kind, mask, spans, start := s.clock.span + 2, periodic }
  ((s.modLink n fun l => { l with tests := l.tests ++ [t] }).setReg (linkObj n) 0x0D 1).sayEx n 0x40 (testBody t) true

/-- A write to TEST_START 3000+n:0C. -/
def testStartEffect (n : Nat) : Effect := fun _ v s =>
  let x := leNat v
  if !s.mayTest n (fld x 31 28) then refuse s St.valueRefused
  else done (s.askTest n (fld x 31 28) (fld x 27 20) (fld x 19 0) false)

/-- TEST_START_REQUEST (R320). -/
def execTestStartRequest (r : Route) (l : Link) (v : Bytes) (s : State) : Out :=
  .next (s.rowWrite r (linkObj l.val) 0x0C v (testStartEffect l.val))

/-- TEST_START (R320): the peer asks; the answer is OK, or LOAD_BUSY while a test holds the direction. -/
def execTestStart (l : Link) (x : Exch) (s : State) : Out :=
  .next (
    let n := l.val
    let r := s.readEx n x 0x40
    let s := r.1
    let b := r.2.getD []
    let t : LinkTest := { kind := leAt b 0 1, mask := leAt b 1 1, start := leAt b 2 8, spans := leAt b 10 4, mine := false, agreed := true }
    if b.length ≠ 14 ∨ t.kind < 1 ∨ 3 < t.kind ∨ !s.linkAny n keeps then s
    else if (s.link n).tests.contains t then s.sayEx n 0x41 (natLe 2 St.ok) false
    else if (s.link n).tests.any (fun y => y.onTx == t.onTx) then s.sayEx n 0x41 (natLe 2 St.loadBusy) false
    else
      let s := if t.onTx then s else s.clearCounts n
      (s.modLink n fun y => { y with tests := y.tests ++ [t] }).sayEx n 0x41 (natLe 2 St.ok) false)

/-- TEST_ACK (R320): TEST_STATE records the answer. -/
def execTestAck (l : Link) (x : Exch) (s : State) : Out :=
  .next (
    let n := l.val
    let asked (t : LinkTest) : Bool := t.mine && !t.agreed
    let r := s.readEx n x 0x41
    let s := r.1
    let b := r.2.getD []
    if b.length ≠ 2 then s
    else
      match (s.link n).tests.find? asked with
      | none => s
      | some t =>
        let s := s.modLink n fun y => { y with waiting := y.waiting.filter fun m => m.type != 0x40 }
        if leNat b = St.ok then
          ((s.modLink n fun y => { y with tests := lmodFirst y.tests asked fun t => { t with agreed := true } }).clearCounts n).setReg
            (linkObj n) 0x0D 2
        else
          let s := (s.modLink n fun y => { y with tests := ldrop y.tests asked }).setReg (linkObj n) 0x0D 3
          if t.periodic then
            { s.addReg 0xB040 5 32 1 with health := { s.health with nextLink := (n + 1) % 24, second := false } }
          else s)

/-- Lanes whose errors per compared bit exceed 10^-5 (R523). -/
def State.badLanes (s : State) (n mask : Nat) : Nat :=
  maskOf ((maskBits mask 8).filter fun k => decide (s.reg (linkObj n) 0x16 < 100000 * s.reg (linkObj n) (0x0E + k)))

/-- BER_TEST_FAIL of a PRBS31 test whose counts this device holds. -/
def State.berCheck (s : State) (n : Nat) (t : LinkTest) : State :=
  let m := s.badLanes n t.mask
  if t.kind = 1 ∧ m ≠ 0 then (s.addReg 0xB040 6 32 1).fault 0x22 1 (2 * n) St.ok m 2 else s

/-- The results of a test as LANE_REPORT carries them. -/
def State.laneReport (s : State) (n : Nat) : Bytes := (List.range 11).flatMap fun k => natLe 8 (s.reg (linkObj n) (0x0E + k))

/-- LANE_REPORT (R322): the far end's results. -/
def execLaneReport (l : Link) (x : Exch) (s : State) : Out :=
  .next (
    let n := l.val
    let r := s.readEx n x 0x43
    let s := r.1
    let b := r.2.getD []
    if b.length ≠ 88 ∨ (s.link n).minor < 1 ∨ !s.linkAny n (fun st => !isDown st) then s
    else
      let s := (List.range 11).foldl (fun s k => s.setReg (linkObj n) (0x0E + k) (leAt b (8 * k) 8)) s
      match (s.link n).ended with
      | some t => if t.kind ≤ 2 then s.berCheck n t else s
      | none => s)

/-- Data lanes on which a port receives, in ascending order (Table 9.2). -/
def State.activeLanes (s : State) (p : Nat) : List Nat := (s.portLanes p).filter fun k => (s.port p).lostRx != some k

/-- Raw bit decisions of an active lane that were wrong among those that carried a grain's payload symbols (R321). -/
def rawErrors (lanes : Nat) (l : IngressLine) (place : Nat) : Nat :=
  let symbols := symbolsOf (2304 * l.pos.val + 192) 2048
  (l.noise.filter fun u => u.lane.val == place).foldl (fun n u =>
    n + ((maskBits u.wrong.toNat 296).filter fun (i : Nat) => (symbolAt lanes place (u.start + (i : Int))).any symbols.contains).length) 0

/-- What the checker counts of a maintenance grain: for each lane of LANE_MASK the raw bit decisions that differ from what was
sent, and the payload bits that a lane carries. -/
def State.checkGrain (s : State) (p : Nat) (l : IngressLine) : LaneCounts :=
  let active := s.activeLanes p
  { errors := (List.range 8).map fun k =>
      match active.idxOf? k with
      | some place => if bit l.grain.laneMask k then rawErrors active.length l place else 0
      | none => 0,
    bits := 2048 / active.length }

/-- Counts of the lanes of a mask are added. -/
def State.countLanes (s : State) (n mask : Nat) (c : LaneCounts) : State :=
  let s := (maskBits mask 8).foldl (fun s k => s.addReg (linkObj n) (0x0E + k) 64 (c.errors.getD k 0)) s
  s.addReg (linkObj n) 0x16 64 c.bits

/-- MAINTENANCE_GRAIN (R321, R322, R522): the checker has one maintenance grain, with what the lanes did to it, whether or not its
hop tag passes; in MARGIN, where the lanes carry no grains, `counts` gives what it counts of their pattern. -/
def execMaintenanceGrain (p : Port) (x : CheckerIn) (s : State) : Out :=
  .next (
    let n := linkOf p.val
    let l := x.line
    let c := x.counts
    if p.val = 48 then s
    else if (s.port p.val).rx = 6 then
      let s := s.countLanes n 0xFF c
      (s.setReg (linkObj n) 0x17 c.left.toNat).setReg (linkObj n) 0x18 c.right.toNat
    else if (s.link n).tests.any (fun t => s.holdsNow t false) ∧ l.grain.vc = 7 ∧ l.grain.legal then
      s.countLanes n l.grain.laneMask (s.checkGrain p.val l)
    else s)

/-- Least octet among those of a mask. -/
def leastMargin (mask left right : Nat) : Nat :=
  (maskBits mask 8).foldl (fun m k => min m (min (fld left (8 * k + 7) (8 * k)) (fld right (8 * k + 7) (8 * k)))) 255

/-- TEST_END (R320, R322, R323): the SPANS of a test of one direction have passed; `c` gives the margins of a probe. -/
def execTestEnd (l : Link) (tx : Bool) (c : LaneCounts) (s : State) : Out :=
  .next (
    let n := l.val
    let is (t : LinkTest) : Bool := t.agreed && t.onTx == tx && decide (t.start + t.spans ≤ s.clock.span)
    match (s.link n).tests.find? is with
    | none => s
    | some t =>
      let s := s.modLink n fun y => { y with tests := ldrop y.tests is, ended := if t.mine then some t else y.ended }
      let s := if t.mine then s.setReg (linkObj n) 0x0D 5 else s
      if tx then s
      else
        let s := if t.kind = 3 then
            let h := { tget s.health.links n {} with probeAge := 0, probe := leastMargin t.mask c.left.toNat c.right.toNat }
            { ((s.setReg (linkObj n) 0x17 c.left.toNat).setReg (linkObj n) 0x18 c.right.toNat) with
              health := { s.health with links := tset s.health.links n h } }
          else s.berCheck n t
        if (s.link n).minor < 1 then s else s.sayEx n 0x43 (s.laneReport n) false)

end Sys2Proof.Machine
end

