-- ==== Sys2Proof/Machine/Pair.lean ====
section
/-! DEFINITION. The switch pair: the partner's streams, its heartbeat, failover, resynchronisation, lost owners
(17 R500 to R511). -/

namespace Sys2Proof.Machine

open Sys2Proof

/-! ### Receiving pair-state grains (R501, R108) -/

/-- A pair-state grain of a stream arrives: the result says whether it is to be applied. -/
def State.takePair (s : State) (stream : Nat) (g : Grain) : State × Bool :=
  if g.vc ≠ 3 ∨ g.op ≠ 2 ∨ g.handle ≠ stream ∨ g.key ≠ 0 ∨ g.ctxLocal ≠ 0 ∨ g.src.toNat ≠ s.pair.partner ∨ s.pair.partner = 0x3FFF then
    (s, false)
  else if !g.checkOk then (s.checkFail .internal g, false)
  else
    let src := g.src.toNat
    match s.tagTest .internal src 3 g.tag.toNat with
    | .fresh => ((s.advance .internal src 3).epEmit .internal (completion s.ownEp g), true)
    | .duplicate => (s.epEmit .internal (completion s.ownEp g), false)
    | .later => (s.gapNack .internal g, false)
    | .unknown => (s, false)

/-- Its payload. -/
def pairData (g : Grain) : Bytes := natLe 256 g.payload.toNat

/-- Apply a grain of a stream. -/
def State.onPair (s : State) (stream : Nat) (g : Grain) (f : State → Bytes → State) : State :=
  let x := s.takePair stream g
  if x.2 then f x.1 (pairData g) else x.1

/-! ### What a member sends (Table 17.1) -/

/-- Journal entries go out two at a time, as they are appended. -/
def State.mirrorJournalN : Nat → State → State
  | 0, s => s
  | n + 1, s =>
    let k := s.pair.journalSent
    if s.joined && decide (k + 2 ≤ s.journal.next) then
      let e := s.journal.entries.filter fun (x : JEntry) => decide (k ≤ x.seq) && decide (x.seq < k + 2)
      State.mirrorJournalN n (({ s with pair := { s.pair with journalSent := k + 2 } }).pairSend 4 (k / 2) (e.flatMap JEntry.bytes))
    else s

def State.mirrorJournal (s : State) : State := s.mirrorJournalN ((s.journal.next - s.pair.journalSent) / 2)

/-- The HEARTBEAT payload. -/
def State.beatData (s : State) : Bytes :=
  natLe 8 s.clock.span ++ natLe 8 (match s.sched.active with | some t => t.serial | none => 0) ++ natLe 8 s.journal.next
    ++ natLe 1 s.pair.state

/-- Once per span: HEARTBEAT in the first mirror slot of the pair link, and KIND 0x60 by VC6 (R503). -/
def State.sendBeat (s : State) : State :=
  if s.reg 0xB010 2 = 0xFF ∨ s.pair.partner = 0x3FFF then s
  else
    let s := s.modEp .internal fun e => { e with nextReq := e.nextReq + 1 }
    let s := if s.linkUsable (s.reg 0xB010 2) then
        (s.enqueue .internal (mkMem 3 2 0 s.ownEp s.pair.partner 0 0 0 (s.clock.span % 2 ^ 31) 0 (leNat s.beatData))
          s.ep.nextReq).pump .internal
      else s
    s.tell s.pair.partner 0 1 0x60 s.beatData

/-! ### Resynchronisation (R506) -/

/-- KEY records of every VALID entry, eight to a grain. -/
def State.bulkKeys (s : State) : State :=
  let l := (s.keys.table.filter fun e => entValid e.2).map fun e => natLe 32 (keyRecord e.1 e.2 (s.ep.home.partner e.1))
  (List.range ((l.length + 7) / 8)).foldl (fun s i => s.pairNext 1 (((l.drop (8 * i)).take 8).flatMap id)) s

/-- The bulk of the resyncing member, in order. -/
def State.sendBulk (s : State) : State :=
  let s := s.bulkKeys
  let s := s.board.rosters.foldl (fun s e => s.mirrorImage 2 (rosterStream e.1 e.2.image)) s
  let s := match s.sched.active with
    | some t => s.mirrorImage 3 t.image
    | none => s
  (List.range 64).foldl (fun s p => s.pairNext 6 [BitVec.ofNat 8 p, BitVec.ofNat 8 (s.partState p)]) s

/-- The journal is to go out from the oldest entry above ACKNOWLEDGED. -/
def State.rewindJournal (s : State) : State :=
  let first := max (s.reg 0xB100 3 + 1) (s.journal.next - s.journalCap)
  { s with pair := { s.pair with journalSent := first / 2 * 2 } }

/-- This member enters RESYNCING: as the one that holds the state, or as the returning one, which clears its table. -/
def State.enterResync (s : State) (returning : Bool) : State :=
  let s := { s with pair := { s.pair with state := 4, resumedFrom := if returning then 0 else s.pair.state } }
  if returning then
    ({ s with keys := { s.keys with table := [] }, pair := { s.pair with tableBytes := [], rosterBytes := [] } }).rewindJournal.mirrorJournal
  else s.sendBulk.rewindJournal.mirrorJournal

/-- The partner's grains of a lost channel are let go: mirroring stops, and no command waits for it (R273, R503). -/
def State.dropPartner (s : State) : State :=
  let s := s.modEp .internal fun e => { (e.setChan s.pair.partner 3 {}) with
    queue := e.queue.filter fun q => !(q.grain.vc == 3 && q.grain.dst == s.pair.partner) }
  match s.keys.now with
  | some j => if j.phase = 1 ∨ j.phase = 4 ∨ j.phase = 5 then s.keyStep j St.ok else s
  | none => s

/-- A heartbeat on the pair link: a first one joins two fresh members; one after a loss starts the resynchronisation. -/
def State.beatOnLink (s : State) (theirs : Nat) : State :=
  let s := { s with pair := { s.pair with beatLink := s.clock.span } }
  let low := s.ownEp < s.pair.partner
  match s.pair.state with
  | 0 =>
    if theirs ≤ 1 then { s with pair := { s.pair with state := 1, beatVc6 := s.clock.span, journalSent := s.journal.next / 2 * 2 } }
    else s.enterResync true
  | 1 =>
    if theirs = 3 then s.enterResync true
    else if theirs = 4 then s.enterResync (!low)
    else s
  | 2 => s.enterResync (theirs = 3 || (theirs == 2 && !low))
  | 3 => s.enterResync (theirs = 3 && !low)
  | _ => s

/-- HEARTBEAT (R503, R506). -/
def execHeartbeat (b : Beat) (s : State) : Out :=
  .next (match b with
    | .grain g =>
      s.onPair 0 g fun s d =>
        if s.reg 0xB010 2 = 0xFF then s else s.beatOnLink (leAt d 24 1)
    | .message m =>
      if m.kind ≠ 0x60 ∨ m.src.toNat ≠ s.pair.partner then s
      else
        let x := s.takeMsg .internal m .none
        if x.2 then { x.1 with pair := { x.1.pair with beatVc6 := x.1.clock.span } } else x.1)

/-- Everything that this member has sent has been acknowledged. -/
def State.pairQuiet (s : State) : Bool :=
  (s.ep.chan s.pair.partner 3).copies.isEmpty && !s.ep.queue.any (fun q => q.grain.vc == 3 && q.grain.dst == s.pair.partner)

/-- RESYNC_COMPLETE (R506): both members hold acknowledgements for everything sent. -/
def execResyncComplete (s : State) : Out :=
  .next (if s.pair.state = 4 ∧ s.pairQuiet then { s with pair := { s.pair with state := 1 } } else s)

/-! ### The partner's streams (R502) -/

/-- KEY: up to eight records; a zero record pads the payload (log 48). -/
def execKey (g : Grain) (s : State) : Out :=
  .next (s.onPair 1 g fun s d =>
    (((Machine.pieces 32 8 d).map leNat).filter (· != 0)).foldl State.applyKeyRecord s)

/-- A whole mirrored roster: loaded into its handle, or a conflict. -/
def State.takeRoster (s : State) (h : Nat) (img : Bytes) : State :=
  let r := parseRoster img
  let held := tget s.board.rosters h {}
  if !rosterOk img then s
  else if s.rosterInUse h && held.digest != r.digest then (s.addReg 0xB010 0x0D 32 1).fault 0x1F 13 h St.rosterInvalid 0 1
  else { s with board := { s.board with rosters := tset s.board.rosters h r } }

/-- ROSTER: the image comes in pieces of 256 octets, in order. -/
def execRoster (g : Grain) (s : State) : Out :=
  .next (s.onPair 2 g fun s d =>
    let got := if g.chunk = 0 then [] else s.pair.rosterBytes
    if got.length ≠ 256 * g.chunk then s
    else
      let got := got ++ d
      let len := leAt got 2 4
      if got.length < 64 + len then { s with pair := { s.pair with rosterBytes := got } }
      else ({ s with pair := { s.pair with rosterBytes := [] } }).takeRoster (leAt got 0 2) ((got.drop 64).take len))

/-- SPAN_TABLE: held unused in the top 4 MiB of the table area. -/
def execSpanTable (g : Grain) (s : State) : Out :=
  .next (s.onPair 3 g fun s d =>
    let got := if g.chunk = 0 then [] else s.pair.tableBytes
    if got.length ≠ 256 * g.chunk ∨ 0x400000 < got.length + 256 then s
    else
      let s := s.modHome .internal fun h => h.write (0x3FC00000 + 256 * g.chunk) d
      let got := got ++ d
      let len := leAt got 12 4
      if got.length < len then { s with pair := { s.pair with tableBytes := got } }
      else { s with pair := { s.pair with tableBytes := [], partnerTable := some (parseTable (got.take len)).1 } })

/-- JOURNAL: two entries, held in a ring of 7,340,032. -/
def execJournal (g : Grain) (s : State) : Out :=
  .next (s.onPair 4 g fun s d =>
    let k := 2 * g.chunk
    let l := s.journal.partner.filter fun e => decide (k + 2 ≤ e.1 + 7340032) && e.1 != k && e.1 != k + 1
    { s with journal := { s.journal with partner := l ++ [(k, d.take 128), (k + 1, d.drop 128)] } })

/-- OWNER_DEAD (R508): every entry of the owner at one grain time. -/
def execOwnerDead (g : Grain) (s : State) : Out :=
  .next (s.onPair 5 g fun s d => (s.markOwner (leAt d 0 2)).1)

/-- PARTITION (R285, R502): the partner's change of state; a close that this member has handed on ends with it. -/
def execPartition (g : Grain) (s : State) : Out :=
  .next (s.onPair 6 g fun s d =>
    let p := leAt d 0 1 % 64
    match leAt d 1 1 with
    | 0 => if s.partState p = 0 then s else (s.closed p).endStep (0x6100 + p) 2 St.ok
    | 1 => if s.partState p = 1 then s else (s.drawMemKey p).setReg (0x6100 + p) 1 1
    | 2 => if s.partState p = 2 then s else (s.setReg (0x6100 + p) 1 2).cancelPart p
    | _ => s)

/-! ### Losing the partner (R503 to R505) -/

/-- The pair link, and the VC6 path, have been silent for FAILOVER_SPANS. -/
def State.linkSilent (s : State) : Bool := decide (s.pair.beatLink + s.reg 0xB010 4 ≤ s.clock.span)
def State.vc6Silent (s : State) : Bool := decide (s.pair.beatVc6 + s.reg 0xB010 4 ≤ s.clock.span)

/-- PAIR_LINK_LOST (R503): only the pair link is silent. -/
def execPairLinkLost (s : State) : Out :=
  .next (
    if s.joined && s.linkSilent && !s.vc6Silent then
      ({ s with pair := { s.pair with state := 2 } }).dropPartner.fault 0x1D 3 s.pair.partner St.ok 0 2
    else s)

/-- Instances that a failover ends: those whose roster lists the partner, and mirrored ones. -/
def State.pairInstances (s : State) : List Nat :=
  (s.board.ctxs.filter fun e => (e.2.state == 1 || e.2.state == 2) &&
    (e.2.roster.devices.any (fun d => d.1 == s.pair.partner) || s.mirrored e.1)).map (·.1)

/-- PAIR_FAILOVER (R505): no heartbeat on either path. -/
def execPairFailover (s : State) : Out :=
  .next (
    if (s.joined || s.pair.state == 2) && s.linkSilent && s.vc6Silent then
      let l := s.pairInstances
      let s := { s with pair := { s.pair with state := 3 } }
      let s := (s.addReg 0xB010 5 32 1).setReg 0xB010 6 s.clock.span
      let s := l.foldl (fun s k => s.raiseFail k St.abortedPeer 0x3FFF) s
      let s := s.dropPartner
      let s := { s with pair := { s.pair with lostOwners := s.pair.lostOwners ++ [s.pair.partner] } }
      s.fault 0x1E 3 s.pair.partner St.abortedPeer l.length 3
    else s)

/-- A downlink leads to an end-point of the tray. -/
def State.isDownlink (s : State) (n : Nat) : Bool := s.ownerAt n != 0x3FFF

/-- Clear ADMIT of a link (R317). -/
def State.clearAdmit (s : State) (n : Nat) : State :=
  let s := s.setReg (linkObj n) 1 (setBit (s.reg (linkObj n) 1) 1 false)
  if s.linkAny n runs then s.askMode n 9 else s

/-- PAIR_ISOLATION (R504): the pair link and every port of PAIR_PATH_GROUP have been lost for FAILOVER_SPANS. -/
def execPairIsolation (s : State) : Out :=
  .next (
    if s.pair.state = 0 ∨ s.linkUsable (s.reg 0xB010 2) ∨ !(s.activeOf (s.group (s.reg 0xB010 3))).isEmpty ∨ !s.linkSilent then s
    else ((List.range 24).filter s.isDownlink).foldl State.clearAdmit s)

/-! ### Lost owners (R507, R508) -/

/-- OWNER_LOSS_HOLD (R507): neither member has had a usable link to an owner for LOSS_HOLD spans. -/
def execOwnerLossHold (ep : EpId) (s : State) : Out :=
  .next (match s.pair.lostSince.find? (fun e => e.1 == ep.toNat) with
    | some e =>
      if e.2 + s.reg 0xB050 1 ≤ s.clock.span ∧ !s.pair.lostOwners.contains ep.toNat then
        { s with pair := { s.pair with lostOwners := s.pair.lostOwners ++ [ep.toNat], lostSince := tdel s.pair.lostSince ep.toNat } }
      else s
    | none => s)

/-- The key primary marks one lost owner. -/
def State.loseOwner (s : State) (ep : Nat) : State :=
  let x := s.markOwner ep
  let s := ((x.1.pairNext 5 (natLe 2 ep)).addReg 0xB050 2 32 1).setReg 0xB050 3 ep
  s.fault 0x1C 3 ep St.regionDead x.2 2

/-- OWNER_LOST (R508): the next span boundary. -/
def execOwnerLost (s : State) : Out :=
  .next (
    let l := s.pair.lostOwners
    let s := { s with pair := { s.pair with lostOwners := [] } }
    if s.isPrimary then l.foldl State.loseOwner s else s)

end Sys2Proof.Machine
end

