-- ==== Sys2Proof/Machine/Refresh.lean ====
section
/-! DEFINITION. HBM3E refresh, patrol, and the scrub of closed partitions (10 R339 to R345). -/

namespace Sys2Proof.Machine

open Sys2Proof

/-- Chunks of a stack of 36 GiB and of an LPDDR5X half of 128 GiB. -/
def stackChunks : Nat := 36 * 2 ^ 24
def halfChunks : Nat := 128 * 2 ^ 24

/-- Home address of chunk c of a stack, or of a half, interleaved in 4 KiB steps (R326). -/
def State.stackAddr (s : State) (k c : Nat) : Nat := (c / 64 * s.stacks.length + s.stacks.idxOf k) * 4096 + c % 64 * 64
def State.halfAddr (s : State) (k c : Nat) : Nat := lpddrBase + (c / 64 * s.halves.length + k) * 4096 + c % 64 * 64

/-- Patrol of n chunks of a memory unit (0 to 3 a stack, 4 and 5 a half) from its patrol address on (R343). -/
def State.patrolUnit (s : State) (unit n : Nat) (ev : MemEv) : State :=
  let size := if unit < 4 then stackChunks else halfChunks
  let c := tget s.refresh.patrol unit 0
  let addr (i : Nat) : Nat :=
    if unit < 4 then s.stackAddr unit ((c + i) % size) else s.halfAddr (unit - 4) ((c + i) % size)
  let s := ev.corrected.foldl (fun (s : State) i => if i < n then s.correctChunk .internal (addr i) else s) s
  let s := ev.bad.foldl (fun (s : State) i => if i < n then s.loseChunk .internal (addr i) else s) s
  let s := s.memTally unit 6 n
  let r := s.refresh
  let passed := if unit < 4 ∧ size ≤ c + n ∧ !r.passed.contains unit then r.passed ++ [unit] else r.passed
  let whole := s.stacks.all passed.contains
  let s := { s with refresh := { r with
    patrol := tset r.patrol unit ((c + n) % size), passed := if whole then [] else passed } }
  if whole then s.addReg 0x6320 9 64 1 else s

/-- One all-bank refresh of every fitted stack begins. -/
def State.refreshAll (s : State) (window : Bool) : State :=
  let s := s.stacks.foldl (fun s k => s.memTally k 4 1) s
  { s with refresh := { s.refresh with running := true, window } }

/-- The device refreshes on its own timer (R340). -/
def State.onTimer (s : State) : Bool := s.clock.timedRefresh || s.clock.align != 2

/-- REFRESH_WINDOW (R339): the first grain time of a window of the active table. -/
def execRefreshWindow (s : State) : Out := .next (if s.onTimer then s else s.refreshAll true)

/-- REFRESH_TIMER (R340): one refresh per stack every 3.9 µs without an active table or without alignment. -/
def execRefreshTimer (s : State) : Out := .next (if s.onTimer then s.refreshAll false else s)

/-- The requests that a refresh held take effect in the order in which they came. -/
def State.releaseHeld (s : State) : State :=
  let l := s.ep.home.held
  l.foldl (fun s x => s.present .internal x.1 x.2) (s.modHome .internal fun h => { h with held := [] })

/-- REFRESH_END (R339, R343): the held requests take effect, then 16 chunks of every fitted stack are patrolled.  `evs`
says for each stack what its patrol finds. -/
def execRefreshEnd (evs : List MemEv) (s : State) : Out :=
  .next (
    if !s.refresh.running then s
    else
      let s := { s with refresh := { s.refresh with running := false, window := false } }.releaseHeld
      s.stacks.foldl (fun (s : State) k => s.patrolUnit k 16 (evs.getD k {})) s)

/-- PATROL (R343): LPDDR5X chunks, 64 of one half. -/
def execPatrol (half : Fin 2) (ev : MemEv) (s : State) : Out :=
  .next (if s.halves.contains half.val then s.patrolUnit (4 + half.val) 64 ev else s)

def hotMask (l : List Nat) : Nat := maskOf l

/-- HOT_STACK_ENTRY (R341): a stack reads above 85 °C. -/
def execHotStackEntry (k : Fin 4) (reading : Nat) (s : State) : Out :=
  .next (
    if s.refresh.hot.contains k.val ∨ !s.stacks.contains k.val ∨ reading ≤ 85 then s
    else
      let hot := s.refresh.hot ++ [k.val]
      (({ s with refresh := { s.refresh with hot } }).setReg 0x6320 0xB (hotMask hot)).fault 0x0D 7 k.val St.ok reading 1)

/-- HOT_STACK_EXIT (R341): it has read 83 °C or below for 1 ms. -/
def execHotStackExit (k : Fin 4) (reading : Nat) (s : State) : Out :=
  .next (
    if !s.refresh.hot.contains k.val ∨ 83 < reading then s
    else
      let hot := s.refresh.hot.filter (· != k.val)
      (({ s with refresh := { s.refresh with hot } }).setReg 0x6320 0xB (hotMask hot)).fault 0x0D 7 k.val St.ok reading 1
        none true)

/-- EXTRA_REFRESH (R341): half a window interval into the interval, of one hot stack; a declared exception of kind 3. -/
def execExtraRefresh (k : Fin 4) (s : State) : Out :=
  .next (
    if !s.refresh.hot.contains k.val then s
    else (((s.memTally k.val 5 1).addReg 0x6320 0xA 64 1).exception 3 0x3F 0x7F s.clock.slot))

/-! ### Scrub (R344, R345) -/

/-- A write of 1 to START 6310:02. -/
def scrubEffect : Effect := fun r v s =>
  let p := s.reg 0x6310 1 % 64
  if s.stepRuns 0x6310 2 then refuse s St.loadBusy
  else if s.reg (0x6100 + p) 1 ≠ 0 then refuse (s.setReg 0x6310 3 3) St.contextDenied
  else
    let x := s.startStep r 0x6310 2 (leNat v)
    if x.2.1 = St.stepPending then
      (((x.1.modStep 0x6310 2 fun o => { o with place := p }).setReg 0x6310 3 1).setReg 0x6310 5 0, x.2)
    else x

/-- PARTITION_SCRUB (R344). -/
def execPartitionScrub (r : Route) (v : Bytes) (s : State) : Out := .next (s.rowWrite r 0x6310 2 v scrubEffect)

/-- Units tagged for a partition. -/
def State.taggedUnits (s : State) (p : Nat) : List Nat := (s.ep.home.tags.filter fun e => e.2 == p).map (·.1)

/-- A trace record attributed to p turns into EMPTY. -/
def scrubRecord (p : Nat) (r : TraceRec) : TraceRec :=
  if bit r.bits.toNat 165 ∧ fld r.bits.toNat 171 166 = p then { r with bits := 0 } else r

/-- One step of a scrub: the next tagged unit is filled and loses its tag; the last step ends the scrub. -/
def State.runScrub (s : State) (last : Bool) : State :=
  let p := (s.stepOp 0x6310 2).place
  let units := if last then s.taggedUnits p else (s.taggedUnits p).take 1
  let s := s.modHome .internal fun h => units.foldl Home.scrub h
  let s := s.addReg 0x6310 5 64 (2 ^ 21 * units.length)
  if !(s.taggedUnits p).isEmpty then s
  else
    let s := { s with tallies := { s.tallies with trace := s.tallies.trace.map (scrubRecord p) } }
    ((s.setReg 0x6310 3 2).setReg 0x6310 6 (setBit (s.reg 0x6310 6) p false)).endStep 0x6310 2 St.ok

end Sys2Proof.Machine
end

