-- ==== Sys2Proof/Machine/Tallies.lean ====
section
/-! DEFINITION. Reading the tallies: device tallies and their catalogue, thresholds, bandwidth windows, tagged sets, partition
sets, the light set and the trace ring (18 R524 to R544). -/

namespace Sys2Proof.Machine

open Sys2Proof

/-- The grain offset of an edge of the running slot, and its stamp (R538, log 20). -/
def State.edge (s : State) (off : Nat) : Nat := if s.clock.running then s.offsetNow + off % s.slotLen else 0x3FFF

/-! ### Device tallies (R525 to R528) -/

/-- Scope code, number of the instance and event of a tally (Table 18.1). -/
def tallyPlace (k : Nat) : Nat × Nat × Nat :=
  if k < 2352 then (0, k / 48, k % 48)
  else if k < 2744 then (1, (k - 2352) / 8, (k - 2352) % 8)
  else if k < 3000 then (2, (k - 2744) / 64, (k - 2744) % 64)
  else if k < 3192 then (3, (k - 3000) / 32, (k - 3000) % 32)
  else (4, 0, k - 3192)

/-- A port is absent under the running split: half B of a link that is not split (R43). -/
def State.portAbsent (s : State) (p : Nat) : Bool := p != 48 && p % 2 == 1 && !s.isHalf p

/-- UNIT of a listed event (Tables 18.2 and 18.3); none where the event is RSVD. -/
def eventUnit (scope e : Nat) : Option Nat :=
  match scope with
  | 0 => if 39 ≤ e then none
    else some (if e = 20 then 3 else if e = 21 then 4 else if e = 22 then 7 else if e = 31 ∨ e = 32 then 2
      else if 26 ≤ e ∧ e ≤ 30 ∨ 35 ≤ e then 0 else 1)
  | 1 => if e < 8 then some 2 else none
  | 2 => if 13 ≤ e then none
    else some (if e = 12 then 2 else if e = 9 ∨ e = 10 then 7 else if e = 1 ∨ e = 7 ∨ e = 8 then 0 else 1)
  | 3 => if 8 ≤ e then none else some (if e = 7 then 2 else if e = 4 ∨ e = 5 then 0 else 5)
  | _ => if 15 ≤ e then none else some (if e = 5 then 6 else 0)

/-- The unit that a tally belongs to is present (R7, R526). -/
def State.tallyPresent (s : State) (scope i e : Nat) : Bool :=
  match scope with
  | 0 => !s.portAbsent i
  | 1 => !s.portAbsent i
  | 2 => s.hasBoard || !(8 ≤ e && e ≤ 11)
  | 3 => if i < 4 then s.stacks.contains i else s.halves.contains (i - 4)
  | _ => true

/-- A tally as it is read: zero where its unit is absent, and in confidential mode (R526, R537). -/
def State.tallyRead (s : State) (k : Nat) : Nat :=
  let p := tallyPlace k
  if s.confidential || !s.tallyPresent p.1 p.2.1 p.2.2 then 0 else s.tallyOf k

/-- The 512 values from FIRST on. -/
def State.tallyValues (s : State) : Bytes :=
  (List.range 512).flatMap fun i => natLe 8 (s.tallyRead (s.reg 0x8010 1 + i))

/-- A read of VALUES latches its edge. -/
def readValues (off : Nat) (s : State) : State × Nat × Bytes :=
  ((s.setReg 0x8010 3 s.stampSpan).setReg 0x8010 4 (s.edge off), St.ok, s.tallyValues)

/-- TALLY_READ (R527): a read of 8010:02 at a grain of the slot. -/
def execTallyRead (r : Route) (off : BitVec 14) (s : State) : Out := .next (s.rowRead r 0x8010 2 (readValues off.toNat))

/-- One entry of the catalogue (Table 18.3). -/
def State.catalogueEntry (s : State) (k : Nat) : Nat :=
  let p := tallyPlace k
  match eventUnit p.1 p.2.2 with
  | none => put k 63 48 + put p.1 47 44 + put p.2.1 43 36 + put p.2.2 35 27
  | some u => put k 63 48 + put p.1 47 44 + put p.2.1 43 36 + put p.2.2 35 27 + put u 26 24
      + b2n (s.tallyPresent p.1 p.2.1 p.2.2)

/-- The 512 entries of CATALOGUE, zero beyond the last tally (R528). -/
def State.catalogue (s : State) : Bytes :=
  (List.range 512).flatMap fun i =>
    let k := s.reg 0x8010 1 + i
    natLe 8 (if k < 3584 then s.catalogueEntry k else 0)

/-! ### Thresholds and bandwidth (R529, R530) -/

/-- A write of THRESHOLD_i, in force from the next span boundary. -/
def thresholdEffect (sub : Nat) : Effect := fun _ v s =>
  if 5 < fld (leNat v) 31 24 then refuse s St.valueRefused
  else
    let s := s.setReg 0x8020 sub (leNat v)
    done { s with tallies := { s.tallies with pendingLevels := tset s.tallies.pendingLevels (sub - 1) (leNat v) } }

/-- Thresholds written during a span come into force at its end. -/
def State.applyThresholds (s : State) : State :=
  if s.tallies.pendingLevels.isEmpty then s
  else ({ s with tallies := { s.tallies with
    levels := s.tallies.pendingLevels.foldl (fun t (e : Nat × Nat) => tset t e.1 e.2) s.tallies.levels, pendingLevels := [] } }).setReg
      0x8020 9 s.stampSpan

/-- The occupancy that a SOURCE names at a port (Table 18.4). -/
def State.occupancy (s : State) (p source : Nat) : Nat :=
  let x := s.port p
  let outputs := (s.xbar.reseq.filter fun e => e.1 == p).flatMap (·.2)
  match source with
  | 1 => ((outputs.filter (·.grain.isSome)).length) + (s.xbar.ready.filter fun g => g.outPort == p).length
  | 2 => outputs.length
  | 3 => s.xbar.pushes.foldl (fun n (e : Nat × Push) => if e.1 / 64 = p then n + e.2.backlog else n) 0
  | 4 => [0, 1, 2, 3, 6].foldl (fun n vc => n + (tget x.sent vc 0 + 65536 - tget x.freed vc 0) % 65536) 0
  | 5 => s.board.ctxs.foldl (fun n e => n + (tget e.2.queues p []).length) 0
  | _ => 0

/-- The threshold tallies of all ports count n grain times (R529). -/
def State.countThresholds (s : State) (n : Nat) : State :=
  ((List.range 49).flatMap fun p => (List.range 8).map fun i => (p, i)).foldl (fun s (p, i) =>
    let t := tget s.tallies.levels i 0
    if fld t 31 24 ≠ 0 ∧ !s.portAbsent p ∧ fld t 23 0 < s.occupancy p (fld t 31 24) then s.tally (2352 + 8 * p + i) n
    else s) s

/-- A write of WINDOW: windows of the new length from the next span boundary on. -/
def windowEffect : Effect := fun _ v s =>
  let s := s.setReg 0x8030 1 (leNat v)
  done { s with tallies := { s.tallies with winPending := some (leNat v) } }

def State.applyWindow (s : State) : State :=
  match s.tallies.winPending with
  | some w => { s with tallies := { s.tallies with winLen := w, winPending := none, winTx := [], winRx := [] } }
  | none => s

/-- Rate in MB/s of n grains in a window of w grain times, rounded down (R530). -/
def rateOf (n w : Nat) : Nat := n * 256 * 4000 / (3 * w)

/-- 49 rates as a value of the dictionary. -/
def ratesOf (t : Tab Nat) (w : Nat) : Nat := leNat ((List.range 49).flatMap fun p => natLe 4 (rateOf (tget t p 0) w))

/-- BANDWIDTH_WINDOW_END (R530). -/
def execBandwidthWindowEnd (s : State) : Out :=
  .next (
    let t := s.tallies
    let s := (s.setReg 0x8030 2 (ratesOf t.winTx t.winLen)).setReg 0x8030 3 (ratesOf t.winRx t.winLen)
    let s := (s.setReg 0x8030 4 s.stampSpan).setReg 0x8030 5 s.stampOffset
    { s with tallies := { s.tallies with winTx := [], winRx := [] } })

/-! ### Tagged sets (R531 to R534) -/

/-- A write of BIND: the set begins empty at the next span boundary. -/
def bindEffect (k : Nat) : Effect := fun _ v s =>
  let x := leNat v
  let c := fld x 7 0
  let f := fld x 15 8
  if (31 < c ∧ c ≠ 0xFF) ∨ (48 < f ∧ f ≠ 0xFF) then refuse s St.valueRefused
  else
    let s := s.setReg (0x8040 + k) 1 x
    done { s with tallies := { s.tallies with sets := tset s.tallies.sets k { s.tagSet k with pendingBind := some x } } }

/-- Bindings written during a span come into force at its end, with zero counts and no closed record. -/
def State.applyBinds (s : State) : State :=
  { s with tallies := { s.tallies with sets := s.tallies.sets.map fun e =>
    match e.2.pendingBind with
    | some x => (e.1, { ctx := fld x 7 0, filter := fld x 15 8 })
    | none => e } }

/-- A set's record as it stands on an edge (Table 18.6). -/
def TagSet.record (t : TagSet) (span off : Nat) : Nat :=
  put (b2n t.valid) 37 37 + put (if t.ctx < 32 then t.ctx else 0) 43 39 + put t.part 49 44 + put t.instNo 65 50
  + put t.layerTag 81 66 + put t.opTag 113 82 + put off 127 114 + put span 191 128 + put t.startSpan 255 192
  + ((List.range 16).foldl (fun n i => n + put (tget t.counts i 0) (319 + 64 * i) (256 + 64 * i)) 0)

/-- The set closes its interval on the edge that begins the running span, if an instance of its context that is RESIDENT
begins there, and takes the new tags. -/
def State.switchSet (s : State) (k : Nat) : State :=
  let t := s.tagSet k
  let c := s.ctx t.ctx
  let d := c.desc
  if t.ctx < 32 ∧ s.clock.running ∧ s.clock.slot = 0 ∧ c.state = 2 ∧ dFirst d = s.clock.span ∧ t.switchSpan ≠ some s.clock.span then
    { s with tallies := { s.tallies with sets := tset s.tallies.sets k { t with
      closed := t.record s.clock.span 0, counts := [], startSpan := s.clock.span, opTag := dOperator d, layerTag := dLayer d,
      instNo := dInst d, part := dPart d, valid := true, switchSpan := some s.clock.span } } }
  else s

/-- TAGGED_INTERVAL_SWITCH (R533). -/
def execTaggedIntervalSwitch (k : Fin 64) (s : State) : Out := .next (s.switchSet k.val)

/-- CURRENT as latched at a grain of the slot: on the switch edge the record just closed, with SNAPSHOT. -/
def State.currentRecord (s : State) (k off : Nat) : Nat :=
  let t := s.tagSet k
  if t.switchSpan = some s.clock.span ∧ s.edge off = 0 then t.closed + 2 ^ 38 else t.record s.stampSpan (s.edge off)

def readCurrent (k off : Nat) (s : State) : State × Nat × Bytes := (s, St.ok, natLe 160 (s.currentRecord k off))

/-- TAGGED_SET_READ (R534): a read of CURRENT at a grain of the slot. -/
def execTaggedSetRead (r : Route) (k : Fin 64) (off : BitVec 14) (s : State) : Out :=
  .next (s.rowRead r (0x8040 + k.val) 2 (readCurrent k.val off.toNat))

/-! ### Partition sets and the light set (R535, R536) -/

def readPartCounts (p : Nat) (s : State) : State × Nat × Bytes :=
  (s.setReg (0x8100 + p) 2 s.stampSpan, St.ok, (List.range 16).flatMap fun c => natLe 8 (tget s.tallies.parts (16 * p + c) 0))

/-- PARTITION_COUNTS_READ (R535). -/
def execPartitionCountsRead (r : Route) (p : Part) (s : State) : Out :=
  .next (s.rowRead r (0x8100 + p.val) 1 (readPartCounts p.val))

/-- The eight values of a link's light set. -/
def State.lightValues (s : State) (n : Nat) : Bytes := (List.range 8).flatMap fun i => natLe 8 (tget s.tallies.light (8 * n + i) 0)

/-! ### The trace ring (R541 to R544) -/

/-- A write of CLASS_MASK: with no trace area only 0 is taken. -/
def classMaskEffect : Effect := fun _ v s =>
  let mask := leNat v % 1024
  if mask ≠ 0 ∧ s.traceCap = 0 then refuse s St.valueRefused else done (s.setReg 0x8300 1 mask)

/-- A write of 1 to RESTART empties the ring; the numbers go on. -/
def traceRestartEffect : Effect := fun _ _ s =>
  done { s with tallies := { s.tallies with trace := [], oldest := s.tallies.written } }

/-- TRACE_RESTART (R543). -/
def execTraceRestart (r : Route) (v : Bytes) (s : State) : Out := .next (s.rowWrite r 0x8300 8 v traceRestartEffect)

/-- A write of 1 to EXPORT: the range must be held (R544). -/
def traceExportEffect : Effect := fun r v s =>
  let a := s.reg 0x8300 0x0A
  let n := s.reg 0x8300 0x0B
  if s.stepRuns 0x8300 0x0C then refuse s St.loadBusy
  else if a < s.tallies.oldest ∨ s.tallies.written < a + n ∨ n = 0 then refuse s St.valueRefused
  else
    let x := s.startStep r 0x8300 0x0C (leNat v)
    if x.2.1 = St.stepPending then
      ((x.1.modStep 0x8300 0x0C fun o => { o with value := n, place := a, addr := s.reg 0x8300 9 }).setReg 0x8300 0x0F
        0xFFFFFFFFFFFFFFFF, x.2)
    else x

/-- TRACE_EXPORT (R544). -/
def execTraceExport (r : Route) (v : Bytes) (s : State) : Out := .next (s.rowWrite r 0x8300 0x0C v traceExportEffect)

/-- Home address at which record r of the trace ring lies. -/
def State.traceAddr (s : State) (r : Nat) : Nat := s.reg 0x6300 5 + 32 * (r % s.traceCap)

/-- Copy one record: EMPTY where it has been overwritten or its chunk is uncorrectable. -/
def State.exportRecord (s : State) (r : Nat) : State × Bytes :=
  match s.tallies.trace.find? (fun x => x.num == r) with
  | none => (s.addReg 0x8300 0x0E 64 1, natLe 32 0)
  | some x =>
    if s.ep.home.anyBad (s.traceAddr r) 32 then
      ((s.modStep 0x8300 0x0C fun y => { y with status := St.dataLost }).setReg 0x8300 0x0F (min (s.reg 0x8300 0x0F) r),
        natLe 32 0)
    else (s, natLe 32 x.bits.toNat)

/-- One step of a trace export. -/
def State.runTraceExport (s : State) (e : StepEv) (last : Bool) : State :=
  let o := s.stepOp 0x8300 0x0C
  let n := if last then o.value - o.pos else min e.count (o.value - o.pos)
  let from_ := o.place + o.pos
  let s := s.memEvents .internal (chunkOf (s.traceAddr from_)) e.ev
  let x := (List.range n).foldl (fun (x : State × Bytes) i =>
    let y := x.1.exportRecord (from_ + i)
    (y.1, x.2 ++ y.2)) (s, [])
  let s := if n = 0 then x.1 else x.1.emit (.hostWrite 0 (o.addr + 32 * o.pos) x.2)
  let s := s.modStep 0x8300 0x0C fun y => { y with pos := y.pos + n }
  if o.value ≤ o.pos + n then s.endStep 0x8300 0x0C (s.stepOp 0x8300 0x0C).status else s

end Sys2Proof.Machine
end

