-- ==== Sys2Proof/Machine/Exports.lean ====
section
/-! DEFINITION. Region digests, the journal's export and acknowledgement, the exception counts, and the partner's journal (16 R478,
R479, R486 to R493, 17 R502). -/

namespace Sys2Proof.Machine

open Sys2Proof

/-! ### Region digests (R486, R487) -/

/-- A write of 1 to START. -/
def regionEffect : Effect := fun r v s =>
  let h := s.reg 0xB130 1 % 2 ^ 21
  let off := s.reg 0xB130 2
  let len := s.reg 0xB130 3
  let e := s.homeEntry .internal h
  if s.stepRuns 0xB130 4 then refuse s St.loadBusy
  else if !entValid e || entOwner e != s.ownEp then refuse s St.keyMismatch
  else if entDead e then refuse s St.regionDead
  else if off % 256 ≠ 0 ∨ len % 256 ≠ 0 ∨ len = 0 ∨ entLen e < off + len then refuse s St.bounds
  else
    let x := s.startStep r 0xB130 4 (leNat v)
    if x.2.1 = St.stepPending then
      (x.1.modStep 0xB130 4 fun o => { o with value := len / 256, place := h, addr := off }, x.2)
    else x

/-- REGION_DIGEST (R486). -/
def execRegionDigest (r : Route) (v : Bytes) (s : State) : Out := .next (s.rowWrite r 0xB130 4 v regionEffect)

/-- The end of a region digest: its registers and the REGION entry. -/
def State.endRegion (s : State) (o : StepOp) : State :=
  let e := s.homeEntry .internal o.place
  let wrote := s.ep.home.wrote
  let d := if o.status = St.ok then treeDigest (Machine.pieces 256 o.value o.data) 0x04 (natLe 64 (256 * o.value)) else 0
  let s := s.modHome .internal fun h => { h with watch := none, wrote := false }
  let s := ((s.setReg 0xB130 6 d).setReg 0xB130 7 (b2n wrote)).devTally 5 (256 * o.value)
  (s.append { kind := 6, digest := d, reference := 2 ^ 63 + put o.place 57 37 + o.addr, status := o.status,
              count := 4 * o.value, part := entPart e, flags := b2n wrote }).endStep 0xB130 4 o.status

/-- One step of a region digest: it reads its next blocks, each chunk at its own instant. -/
def State.runRegion (s : State) (e : StepEv) (last : Bool) : State :=
  let o := s.stepOp 0xB130 4
  let ent := s.homeEntry .internal o.place
  let base := entBase ent * 2 ^ 21 + o.addr
  let n := if last then o.value - o.pos else min e.count (o.value - o.pos)
  let a := base + 256 * o.pos
  let s := if o.pos = 0 ∧ n ≠ 0 then s.modHome .internal fun h => { h with watch := some (base, 256 * o.value), wrote := false }
    else s
  let s := (s.memEvents .internal a e.ev).memEvent .internal a 0 (4 * n)
  let bad := s.ep.home.anyBad a (256 * n)
  let s := s.modStep 0xB130 4 fun o => { o with
    pos := o.pos + n, data := o.data ++ s.ep.home.read a (256 * n), status := if bad then St.dataLost else o.status }
  if o.value ≤ o.pos + n then s.endRegion (s.stepOp 0xB130 4) else s

/-! ### The journal's export (R492, R493) -/

/-- The oldest SEQUENCE retained. -/
def State.journalOldest (s : State) : Nat := s.journal.next - s.journalCap

/-- Home address of an entry in the journal area. -/
def State.journalAddr (s : State) (seq : Nat) : Nat := s.reg 0x6300 6 + 128 * (seq % s.journalCap)

/-- An entry lies in an uncorrectable chunk. -/
def State.entryBad (s : State) (seq : Nat) : Bool := s.ep.home.anyBad (s.journalAddr seq) 128

/-- FIRST_UNREADABLE: the lowest SEQUENCE held in an uncorrectable chunk (R493). -/
def State.firstUnreadable (s : State) : Nat :=
  s.journal.entries.foldl (fun m e => if s.entryBad e.seq then min m e.seq else m) 0xFFFFFFFFFFFFFFFF

/-- A write of 1 to EXPORT: the range must be retained. -/
def journalExportEffect : Effect := fun r v s =>
  let a := s.reg 0xB100 7
  let n := s.reg 0xB100 8
  if s.stepRuns 0xB100 9 then refuse s St.loadBusy
  else if a < s.journalOldest ∨ s.journal.next < a + n ∨ n = 0 then refuse s St.valueRefused
  else
    let x := s.startStep r 0xB100 9 (leNat v)
    if x.2.1 = St.stepPending then
      (x.1.modStep 0xB100 9 fun o => { o with value := n, place := a, addr := s.reg 0xB100 6 }, x.2)
    else x

/-- JOURNAL_EXPORT (R492). -/
def execJournalExport (r : Route) (v : Bytes) (s : State) : Out := .next (s.rowWrite r 0xB100 9 v journalExportEffect)

/-- Copy one entry: zeros, with DATA_LOST, where its chunk is uncorrectable. -/
def State.exportEntry (s : State) (seq : Nat) : State × Bytes :=
  if s.entryBad seq then
    (s.modStep 0xB100 9 fun y => { y with status := St.dataLost }, natLe 128 0)
  else
    match s.journal.entries.find? (fun e => e.seq == seq) with
    | some e => (s, e.bytes)
    | none => (s.draw, natLe 128 (Config.unstated s.fresh [16, 492, seq]))

/-- Copy n records of a running export to the host. -/
def State.copyOut (s : State) (idx sub size n : Nat) (f : State → Nat → State × Bytes) : State :=
  let o := s.stepOp idx sub
  let x := (List.range n).foldl (fun (x : State × Bytes) i =>
    let y := f x.1 (o.place + o.pos + i)
    (y.1, x.2 ++ y.2)) (s, [])
  let s := if n = 0 then x.1 else x.1.emit (.hostWrite 0 (o.addr + size * o.pos) x.2)
  s.modStep idx sub fun y => { y with pos := y.pos + n }

/-- One step of a journal export; after the last entry comes its chain value. -/
def State.runJournalExport (s : State) (e : StepEv) (last : Bool) : State :=
  let o := s.stepOp 0xB100 9
  let n := if last then o.value - o.pos else min e.count (o.value - o.pos)
  let s := (s.memEvents .internal (s.journalAddr (o.place + o.pos)) e.ev).copyOut 0xB100 9 128 n State.exportEntry
  if o.value ≤ o.pos + n then
    let d := ((s.journal.entries.find? fun x => x.seq == o.place + o.value - 1).map (·.chain)).getD s.journal.head
    (s.emit (.hostWrite 0 (o.addr + 128 * o.value) (natLe 64 d))).endStep 0xB100 9 (s.stepOp 0xB100 9).status
  else s

/-! ### The partner's entries (17 R502) -/

/-- A write of 1 to EXPORT_PARTNER: the range must be mirrored here. -/
def partnerExportEffect : Effect := fun r v s =>
  let a := s.reg 0xB100 7
  let n := s.reg 0xB100 8
  if s.stepRuns 0xB010 0x0B then refuse s St.loadBusy
  else if n = 0 ∨ (s.journal.partner.filter fun e => decide (a ≤ e.1) && decide (e.1 < a + n)).length ≠ n then
    refuse s St.valueRefused
  else
    let x := s.startStep r 0xB010 0x0B (leNat v)
    if x.2.1 = St.stepPending then
      (x.1.modStep 0xB010 0x0B fun o => { o with value := n, place := a, addr := s.reg 0xB100 6 }, x.2)
    else x

/-- EXPORT_PARTNER (R502). -/
def execExportPartner (r : Route) (v : Bytes) (s : State) : Out := .next (s.rowWrite r 0xB010 0x0B v partnerExportEffect)

/-- Home address of a mirrored entry in the firmware area. -/
def State.partnerAddr (s : State) (seq : Nat) : Nat := s.reg 0x6300 4 + 2 ^ 27 + 128 * (seq % 7340032)

def State.exportPartner (s : State) (seq : Nat) : State × Bytes :=
  if s.ep.home.anyBad (s.partnerAddr seq) 128 then
    (s.modStep 0xB010 0x0B fun y => { y with status := St.dataLost }, natLe 128 0)
  else (s, ((s.journal.partner.find? fun e => e.1 == seq).map (·.2)).getD (natLe 128 0))

/-- The chain over mirrored entries: it begins at entry 0 or at a CHECKPOINT, which holds the value before it (R489). -/
def chainOver : List (Nat × Bytes) → Option (Nat × Nat) → Option (Nat × Nat)
  | [], acc => acc
  | (k, b) :: r, acc =>
    let before : Option Nat :=
      if k = 0 then some 0
      else if leAt b 22 1 = 9 then some (leAt b 64 64)
      else match acc with
        | some (j, d) => if j + 1 = k then some d else none
        | none => none
    chainOver r (before.map fun d => (k, sha3n (natLe 64 d ++ b)))

/-- The partner's chain value after an entry; where the entries held do not give it, the spec states none. -/
def State.partnerChain (s : State) (seq : Nat) : Nat :=
  let l := lsort (fun a b => decide (a.1 < b.1)) (s.journal.partner.filter fun e => decide (e.1 ≤ seq))
  match chainOver l none with
  | some (k, d) => if k = seq then d else Config.unstated s.fresh [17, 502, seq] % 2 ^ 512
  | none => Config.unstated s.fresh [17, 502, seq] % 2 ^ 512

/-- One step of an export of the partner's entries. -/
def State.runPartnerExport (s : State) (e : StepEv) (last : Bool) : State :=
  let o := s.stepOp 0xB010 0x0B
  let n := if last then o.value - o.pos else min e.count (o.value - o.pos)
  let s := (s.memEvents .internal (s.partnerAddr (o.place + o.pos)) e.ev).copyOut 0xB010 0x0B 128 n State.exportPartner
  if o.value ≤ o.pos + n then
    let d := s.partnerChain (o.place + o.value - 1)
    (s.draw.emit (.hostWrite 0 (o.addr + 128 * o.value) (natLe 64 d))).endStep 0xB010 0x0B (s.stepOp 0xB010 0x0B).status
  else s

/-! ### Acknowledgement and single entries (R491 to R493) -/

/-- A write of ACKNOWLEDGED: raised only, up to the newest SEQUENCE. -/
def acknowledgeEffect : Effect := fun _ v s =>
  if s.reg 0xB100 3 < leNat v ∧ leNat v < s.journal.next then done (s.setReg 0xB100 3 (leNat v)).journalFill
  else refuse s St.valueRefused

/-- A read of ENTRY. -/
def readEntry (s : State) : State × Nat × Bytes :=
  let seq := s.reg 0xB100 0x0B
  match s.journal.entries.find? (fun e => e.seq == seq) with
  | none => (s, St.valueRefused, [])
  | some e => if s.entryBad seq then (s, St.dataLost, []) else (s, St.ok, e.bytes)

/-! ### Exception counts (R478, R479) -/

/-- COUNT_k of B140: what has come since the last CLEAR. -/
def State.excShown (s : State) (k : Nat) : Nat := s.excCount k - tget s.exc.cleared k 0

/-- A record of the log (Table 16.4). -/
def State.excBits (s : State) (r : ExcRec) : Nat :=
  put r.count 31 0 + put r.slot 42 32 + put (if s.confidential then 127 else r.part) 49 43 + put r.port 55 50 + put r.kind 63 56
  + put r.span 127 64

/-- The log, newest first, padded with zero records. -/
def State.excLog (s : State) : Bytes := sliceB (s.exc.log.flatMap fun r => natLe 16 (s.excBits r)) 0 4096

/-- A write of 1 to CLEAR. -/
def excClearEffect : Effect := fun _ v s =>
  done (if leNat v % 2 = 1 then { s with exc := { s.exc with cleared := s.exc.counts, log := [], lastSpan := 0 } } else s)

/-- The counts of KIND 1 to 6. -/
def State.excCounts (s : State) : List Nat := (List.range 6).map fun i => s.excCount (i + 1)

/-- What has come since the previous EXCEPTIONS entry, as six U64 values. -/
def State.excSince (s : State) : Bytes :=
  (s.excCounts.zip s.exc.base).flatMap fun (a, b) => natLe 8 (a + 2 ^ 64 - b)

/-- EXCEPTIONS_ENTRY (R488, Table 16.7): at a span boundary 1,024 spans after the previous entry, if a count has changed. -/
def execExceptionsEntry (s : State) : Out :=
  .next (
    if s.clock.slot ≠ 0 ∨ s.exc.wait ≠ 0 ∨ s.excCounts = s.exc.base then s
    else
      let s := s.append { kind := 10, reference := s.exc.firstSpan.getD s.clock.span, digest := leNat s.excSince }
      { s with exc := { s.exc with base := s.excCounts, wait := 1024, firstSpan := none } })

/-! ### Lock-step counts (R494 to R498) -/

/-- A write of 1 to CLEAR of B110. -/
def lockClearEffect : Effect := fun _ v s =>
  done (
    if leNat v % 2 = 1 then
      let t := ((s.setReg 0xB110 4 0).setReg 0xB110 5 0).setReg 0xB110 6 0
      { t with lock := { t.lock with seeking := none } }
    else s)

end Sys2Proof.Machine
end

