-- ==== Sys2Proof/Machine/Reports.lean ====
section
/-! DEFINITION. Fault reports: folding, the send queue, destinations; dictionary message headers (17 R512 to R518,
12 R388). -/

namespace Sys2Proof.Machine

open Sys2Proof

/-! ### Dictionary messages (Table 12.5) -/

/-- A dictionary message, request or answer: header fields and body. -/
structure DictMsg where
  auth : Nat := 0
  seq : Nat := 0
  status : Nat := 0
  total : Nat := 0
  offset : Nat := 0
  len : Nat := 0
  last : Bool := false
  sub : Nat := 0
  idx : Nat := 0
  kind : Nat := 0
  version : Nat := 1
  authOn : Bool := false
  body : Bytes := []
  deriving DecidableEq, Repr, Inhabited

/-- The 32 octets of a header. -/
def DictMsg.header (m : DictMsg) : Bytes :=
  natLe 32 (put m.auth 255 128 + put m.seq 127 96 + put m.status 95 80 + put m.total 79 67 + put m.offset 66 55 + put m.len 54 42
    + put (b2n m.last) 41 41 + put m.sub 39 32 + put m.idx 31 16 + put m.kind 15 8 + put m.version 7 4 + put (b2n m.authOn) 3 3)

def DictMsg.bytes (m : DictMsg) : Bytes := m.header ++ m.body

/-- Read a message from its octets. -/
def parseDict (bs : Bytes) : DictMsg :=
  let h := leAt bs 0 32
  { auth := fld h 255 128, seq := fld h 127 96, status := fld h 95 80, total := fld h 79 67, offset := fld h 66 55,
    len := fld h 54 42, last := bit h 41, sub := fld h 39 32, idx := fld h 31 16, kind := fld h 15 8, version := fld h 7 4,
    authOn := bit h 3, body := bs.drop 32 }

/-! ### Receiving (R515) -/

/-- A report read from its 64 octets (Table 17.2). -/
def parseReport (x : Nat) : FaultRep :=
  let flags := fld x 143 136
  { kind := fld x 187 180, subjType := fld x 191 188, subjId := fld x 223 192, closing := bit flags 1, status := fld x 179 164,
    detail := fld x 255 224, severity := fld x 135 134, part := if bit flags 3 then some (fld x 149 144) else none,
    sustained := bit flags 0, resumed := bit flags 4, count := fld x 367 336 }

/-- FAULT_REPORT (R515): a report of an end-point is folded as events of its COUNT on its ingress port. -/
def execFaultReport (p : Port) (m : Msg) (s : State) : Out :=
  .next (
    if m.kind ≠ 0x70 ∨ m.payload.length ≠ 64 ∨ m.target ≠ 2 then s
    else
      let f := parseReport (leNat m.payload)
      if f.kind < 1 ∨ 0x22 < f.kind ∨ f.count = 0 then s
      else s.foldEvent { f with
        firstSpan := s.stampSpan, lastSpan := s.stampSpan, firstOffset := s.stampOffset, unaligned := s.unaligned,
        reporters := 2 ^ p.val })

/-! ### Folding windows (R516, R517) -/

/-- The span boundary that closes a window has come: FOLD_WINDOW microseconds after its first event. -/
def State.windowDue (s : State) (f : FaultRep) : Bool :=
  decide (s.clock.span < f.firstSpan) ||
  decide (4000 * s.reg 0xB000 1 ≤ 3 * (s.clock.span * s.spanLen - (f.firstSpan * s.spanLen + f.firstOffset)))

/-- A closed window's report takes its place in the queue. -/
def State.queueReport (s : State) (f : FaultRep) : State :=
  if 1024 ≤ s.faults.queue.length then
    ({ s with faults := { s.faults with loss := true } }).addReg 0xB000 0x0A 64 f.count
  else { s with faults := { s.faults with queue := s.faults.queue ++ [f] } }

/-- FOLD_WINDOW_CLOSE (R516): the windows that are due at this span boundary. -/
def execFoldWindowClose (s : State) : Out :=
  .next (
    if (s.coreStop 4).isSome then s
    else
    let l := s.faults.windows.filter s.windowDue
    let s := { s with faults := { s.faults with windows := s.faults.windows.filter fun f => !s.windowDue f } }
    l.foldl State.queueReport s)

/-! ### Sending (R514, R517, R518) -/

/-- Cost of one report in the bucket: 1/256 s, in thirds of a grain time. -/
def reportCost : Nat := 15625000

/-- What confidential mode hides (R518). -/
def State.maskReport (s : State) (f : FaultRep) : FaultRep :=
  if s.confidential then
    if f.subjType = 3 ∨ f.subjType = 4 ∨ f.subjType = 5 then { f with subjId := 0, ep := 0, part := none }
    else { f with part := none }
  else f

/-- A report leaves by every enabled destination. -/
def State.sendReport (s : State) (f : FaultRep) : State :=
  let d := s.reg 0xB000 2
  let bytes := natLe 64 f.bits
  let s := if bit d 0 then
      ({ s with faults := { s.faults with log := (f :: s.faults.log).take 64 } }).signal 0 (s.reg 0xB000 3)
    else s
  let v6 := s.reg 0xB000 5 = 0
  let s := if bit d 1 ∧ s.mgmt.port = 3 ∧ (s.reg 0xB000 5 ≠ 0 ∨ s.reg 0xB000 6 ≠ 0) then
      s.emit (.frame "report" 0 v6 (if v6 then s.reg 0xB000 6 else s.reg 0xB000 5) (s.reg 0xB000 7)
        (DictMsg.bytes { kind := 0x85, seq := f.seq % 2 ^ 32, status := f.status, len := 64, body := bytes }))
    else s
  if bit d 2 then s.epEmit .internal (mkMgmt 2 0 s.ownEp (s.reg 0xB000 4) 0 0x70 0 true bytes) else s

/-- REPORT_SEND (R514, R517): the first queued report, when the bucket allows. -/
def execReportSend (s : State) : Out :=
  .next (match s.faults.queue with
    | [] => s
    | f :: r =>
      if s.faults.bucket < reportCost ∨ (s.coreStop 4).isSome then s
      else
        let f := s.maskReport { f with seq := s.faults.seq, ep := s.ownEp, loss := s.faults.loss }
        let s := { s with faults := { s.faults with
          queue := r, bucket := s.faults.bucket - reportCost, seq := s.faults.seq + 1, loss := false } }
        ((s.sendReport f).addReg 0xB000 8 64 1).devTally 3 1)

end Sys2Proof.Machine
end

