-- ==== Sys2Proof/Machine/Health.lean ====
section
/-! DEFINITION. Health scores, fences by health, periodic tests (17 R519 to R521, R523). -/

namespace Sys2Proof.Machine

open Sys2Proof

/-! ### Scores (R519, Table 17.4) -/

/-- Linear score of a value between BAD and GOOD, BAD below GOOD. -/
def linScore (v bad good : Int) : Nat :=
  if good ≤ v then 100 else if v ≤ bad then 0 else ((v - bad) * 100 / (good - bad)).toNat

/-- Score of flips per bit, linear on log10 from 10^-6 down to 10^-4: the greatest k with (flips/bits)^50 ≤ 10^-(200+k). -/
def berScore (flips bits : Nat) : Nat :=
  ((List.range 101).filter fun k => k == 0 || decide (flips ^ 50 * 10 ^ (200 + k) ≤ bits ^ 50)).foldl max 0

/-- Score of a link. -/
def State.linkScore (s : State) (n : Nat) (x : LinkInputs) : Nat :=
  let h := tget s.health.links n {}
  let power := ((x.power.take 8).foldl min (x.power.headD 0))
  let l := [linScore power (-40) (-24), berScore x.flips x.bits, linScore ((16 : Int) - x.uncorrectable) 0 16]
    ++ (if h.probeAge < 4 then [linScore h.probe 4 12] else [])
  l.foldl min 100

/-- Score of a quarter. -/
def quarterScore (x : QuarterInputs) : Nat := min (linScore x.slack 0 8) (linScore x.margin 0 20)

/-! ### Health states (R520) -/

/-- One scored evaluation: the state after, and the HEALTH_WATCH events it raises (true: CLOSING).  `fence`: the unit can be a
candidate. -/
def LinkHealth.score_ (h : LinkHealth) (score enter exit below count : Nat) (fence : Bool) : LinkHealth × List Bool :=
  let bad := if score < below then h.bad + 1 else 0
  let good := if exit ≤ score then h.good + 1 else 0
  let h' := { h with score, bad, good }
  let isCand := fence && decide (count ≤ bad)
  match h.state with
  | 3 => (h', [])
  | 4 => if below ≤ score then ({ h' with state := 1, good := 0 }, [false]) else ({ h' with state := 4 }, [])
  | 2 => if below ≤ score then ({ h' with state := 1, good := 0 }, [false]) else (h', [])
  | 1 => if isCand then ({ h' with state := 2 }, [true]) else if 2 ≤ good then ({ h' with state := 0 }, [true]) else (h', [])
  | _ =>
    if score < enter then (if isCand then ({ h' with state := 2 }, [false, true]) else ({ h' with state := 1, good := 0 }, [false]))
    else (h', [])

/-- Raise the HEALTH_WATCH events of a unit. -/
def State.watchEvents (s : State) (subjType subjId score : Nat) (l : List Bool) : State :=
  l.foldl (fun s c => s.fault 0x20 subjType subjId St.ok score 1 none c) s

/-- Evaluate one link. -/
def State.evalLink (s : State) (n : Nat) (x : LinkInputs) : State :=
  let h := tget s.health.links n {}
  let s := s.setReg (linkObj n) 0x19 (leNat ((List.range 9).map fun k => BitVec.ofInt 8 (x.power.getD k 0)))
  if !s.linkAny n keeps then
    { s with health := { s.health with links := tset s.health.links n { h with score := 0xFF, probeAge := h.probeAge + 1 } } }
  else
    let sc := s.linkScore n x
    let y := h.score_ sc (s.reg 0xB030 0x1F) (s.reg 0xB030 0x20) (s.reg 0xB030 0x21) (s.reg 0xB030 0x22) true
    ({ s with health := { s.health with
      links := tset s.health.links n { y.1 with probeAge := h.probeAge + 1 } } }).watchEvents 1 (2 * n) sc y.2

/-- Evaluate one quarter. -/
def State.evalQuarter (s : State) (q : Nat) (x : QuarterInputs) : State :=
  let h := tget s.health.quarters q {}
  let sc := quarterScore x
  let y := h.score_ sc (s.reg 0xB030 0x1F) (s.reg 0xB030 0x20) (s.reg 0xB030 0x21) (s.reg 0xB030 0x22) false
  ({ s with health := { s.health with quarters := tset s.health.quarters q y.1 } }).watchEvents 2 q sc y.2

/-! ### Candidates (R521) -/

/-- Links that health has fenced: B020:02. -/
def State.healthFenced (s : State) : Nat := (s.health.links.filter fun e => e.2.state == 3).length

/-- One candidate: fenced while the budget allows, else left in service as DEGRADED-WATCH. -/
def State.fenceCandidate (s : State) (n : Nat) : State :=
  let h := tget s.health.links n {}
  let set (s : State) (st : Nat) : State :=
    { s with health := { s.health with links := tset s.health.links n { h with state := st } } }
  if s.healthFenced < s.reg 0xB020 1 then (set s 3).fenceLink n 8 false
  else if h.state = 4 then s
  else (set s 4).fault 0x21 1 (2 * n) St.ok h.score 2

/-- HEALTH_EVALUATION (R519 to R521): core T scores every link and quarter; it skips the evaluation while it restarts. -/
def execHealthEvaluation (links : List LinkInputs) (quarters : List QuarterInputs) (s : State) : Out :=
  .next (
    if (s.coreStop 4).isSome then s
    else
      let s := (List.range 24).foldl (fun s n => s.evalLink n (links.getD n {})) s
      let s := (List.range 4).foldl (fun s q => s.evalQuarter q (quarters.getD q {})) s
      let c := s.health.links.filter fun e => (e.2.state == 2 || e.2.state == 4) && s.linkAny e.1 keeps
      (lsort (fun (a b : Nat × LinkHealth) => decide (a.2.score < b.2.score) || (a.2.score == b.2.score && decide (a.1 < b.1))) c).foldl
        (fun s e => s.fenceCandidate e.1) s)

/-! ### Periodic tests (R523) -/

/-- The next link is next. -/
def State.nextTest (s : State) : State :=
  { s with health := { s.health with nextLink := (s.health.nextLink + 1) % 24, second := false } }

/-- PERIODIC_TEST (R523): the next test that core F makes: a margin probe, then a PRBS31 test, of each link in turn. -/
def execPeriodicTest (s : State) : Out :=
  .next (
    let n := s.health.nextLink
    let kind := if s.health.second then 1 else 3
    if s.reg 0xB040 1 ≠ 1 ∨ (s.coreStop 2).isSome then s
    else if !s.linkAny n keeps then s.nextTest
    else if !s.mayTest n kind then (s.addReg 0xB040 5 32 1).nextTest
    else
      let t := s.askTest n kind 0xFF (s.reg 0xB040 3) true
      if s.health.second then t.nextTest else { t with health := { t.health with second := true } })

end Sys2Proof.Machine
end

