-- ==== Sys2Proof/Machine/Power.lean ====
section
/-! DEFINITION. Power samples, the cap and its descent, the throttle, voltage modes, board quarter domains and the engines'
case temperature (15 R452 to R473). -/

namespace Sys2Proof.Machine

open Sys2Proof

/-! ### Measuring (R452, R458) -/

/-- Mean of a list of samples, rounded down. -/
def mean (l : List Nat) : Nat := if l.isEmpty then 0 else l.foldl (· + ·) 0 / l.length

/-- Window power in 0.1 mW. -/
def State.windowPower (s : State) : Nat := mean s.power.samples

/-- Window power of class k: FIXED, LINK, MEMORY, BOARD, OPEN. -/
def State.classPower (s : State) (k : Nat) : Nat := mean (s.power.classes.map fun c => c.getD k 0)

/-- What a rail draws in a sample: its reading, its last reading, or from the third sample without one 10 % more. -/
def State.railDraw (s : State) (r : Nat) : Nat :=
  let x := tget s.power.rails r (0, 0)
  if 3 ≤ tget s.power.missing r 0 then x.1 * x.2 * 11 / 10 else x.1 * x.2

/-- Take one rail's reading, or count its absence; the third in a row is reported. -/
def State.takeRail (s : State) (r : Nat) (x : Option (Nat × Nat)) : State :=
  match x with
  | some v => { s with power := { s.power with rails := tset s.power.rails r v, missing := tdel s.power.missing r } }
  | none =>
    let n := tget s.power.missing r 0 + 1
    let s := { s with power := { s.power with missing := tset s.power.missing r n } }
    if n = 3 then s.fault 0x1A 11 r St.ok 0 2 else s

/-- A rail has been without a reading for three samples: the setpoint holds. -/
def State.setpointHeld (s : State) : Bool := s.power.missing.any fun e => decide (3 ≤ e.2)

/-- The sample's power, whole and by class. -/
def State.takeSample (s : State) (x : PowerInputs) : State :=
  let s := ((List.range 7).foldl (fun s r => s.takeRail r (x.rails.getD r none)) s).addReg 0x7020 8 32 x.failed
  let total := (List.range 7).foldl (fun n r => n + s.railDraw r) x.vaon
  let c := (List.range 4).map fun k => x.classes.getD k 0
  let named := c.foldl (· + ·) 0
  { s with power := { s.power with
    samples := (total :: s.power.samples).take 160, classes := (((total - named) :: c) :: s.power.classes).take 160 } }

/-- Peak needs of the classes while each context is RESIDENT (R460). -/
def State.takePeaks (s : State) : State :=
  let now := (s.power.classes.headD []).drop 1
  let held := s.board.ctxs.filter fun e => e.2.state == 2
  { s with power := { s.power with peaks := held.foldl (fun t e =>
    tset t e.1 (let old := tget t e.1 []
      (List.range 4).map fun k => max (old.getD k 0) (now.getD k 0))) s.power.peaks } }

/-! ### Descent and ascent (R463, R464, R470) -/

/-- VBOARD in force, in mV (R454, R464). -/
def State.vboard (s : State) : Nat := min s.power.vcore (min s.power.vb s.power.vbT)

/-- One step of 16/256 up, bounded by the ceiling. -/
def raiseAcc (a ceil : Nat) : Nat := if a < ceil then min (a + 16) ceil else a

/-- A VBOARD can be raised: it lies below VCORE and below its ceiling. -/
def State.vbLow (s : State) (vb : Nat) : Bool := decide (vb < s.power.vcore) && decide (vb < s.power.ceilV)

/-- CLAMP_STATE 7000:04. -/
def State.setClamp (s : State) : State :=
  s.setReg 0x7000 4 (
    if s.power.run then (if s.power.runAt + 2000000 ≤ s.ns then 3 else 1)
    else if s.power.floorClamp then 2 else 0)

/-- A sample above the cap in force: a run begins, or its steps go on (R463). -/
def State.descend (s : State) : State :=
  let cap := s.reg 0x7000 2
  let p := s.power
  let p := if p.mode = 1 then { p with target := p.vset } else p
  if !p.run then
    let p := { p with run := true, runAt := s.ns, calm := 0, dirV := if p.acc = 0 then 1 else 0 }
    (({ s with power := p }.addReg 0x7000 7 32 1).fault 0x17 0 0 St.capClamped cap 1).setReg 0x7000 4 1
  else
    let a := p.acc - 64
    { s with power := { p with acc := a, calm := 0, dirV := if a = 0 then 1 else 0 } }.setClamp

/-- A sample at or below the cap: a run ends; after 16 samples 20 W below it the hardware ascends (R464). -/
def State.ascend (s : State) (total : Nat) : State :=
  let cap := s.reg 0x7000 2
  let p := s.power
  let calm := if total + 200000 ≤ 10000 * cap then p.calm + 1 else 0
  let up := decide (16 ≤ calm)
  let low := s.vbLow p.vb
  let s' := { s with power := { p with
    run := false, calm, dirV := if up && low then 2 else 0, acc := if up && !low then raiseAcc p.acc p.ceilA else p.acc } }.setClamp
  if p.run then s'.fault 0x17 0 0 St.capClamped cap 1 none true else s'

/-- Samples above 900 W, and above 1,050 W (R466). -/
def State.excursions (s : State) (total : Nat) : State :=
  let p := s.power
  let n := if 9000000 < total then p.over900 + 1 else 0
  let now := decide (10500000 < total) || decide (5000000 ≤ 6144 * n)
  let s := { s with power := { p with over900 := n, excursion := now || (p.excursion && decide (9000000 < total)) } }
  if now && !p.excursion then s.addReg 0x7000 8 32 1 else s

/-- Throttle limit of a sensor, in 1/16 °C (Table 15.4); none for the engine cases and the last three. -/
def throttleAt (k : Nat) : Option Int :=
  if k < 72 then some 1600 else if 97 ≤ k ∧ k ≤ 108 then some 1520 else none

/-- Trip limit of a sensor. -/
def tripAt (k : Nat) : Option Int :=
  if k < 72 then some 1760 else if 97 ≤ k ∧ k ≤ 108 then some 1680 else none

/-- The unit of a sensor is fitted. -/
def State.sensed (s : State) (k : Nat) : Bool :=
  if 97 ≤ k ∧ k ≤ 100 then s.stacks.contains (k - 97)
  else if 101 ≤ k ∧ k ≤ 108 then s.halves.contains ((k - 101) / 4) else decide (k < 112)

/-- Every sensor with a throttle limit reads at least d below it. -/
def State.allBelow (s : State) (d : Int) : Bool :=
  s.power.sensors.all fun e =>
    match throttleAt e.1 with
    | some l => decide (e.2 + d ≤ l)
    | none => true

/-- The first sensor at or above its throttle limit. -/
def State.hotSensor (s : State) : Option (Nat × Int) :=
  s.power.sensors.find? fun e =>
    match throttleAt e.1 with
    | some l => decide (l ≤ e.2)
    | none => false

/-- The throttle's part of a sample (R470): it lowers from the limit until 2 °C below, and restores after 16 samples 5 °C
below. -/
def State.throttle (s : State) : State :=
  let p := s.power
  let cool := if s.allBelow 80 then p.cool + 1 else 0
  let s := { s with power := { p with cool } }
  match s.hotSensor, p.throttle with
  | some (k, v), false =>
    (({ s with power := { s.power with throttle := true, low := true, warm := false, hotSensor := k,
                                       dirT := if p.accT = 0 then 1 else 0 } }.setReg 0x7040 3 1).addReg 0x7040 4 32 1).fault
      0x18 10 k St.thermalThrottled (ofSigned 32 v) 2
  | _, true =>
    let low := s.hotSensor.isSome || (p.low && !s.allBelow 32)
    if low then
      let a := p.accT - 64
      { s with power := { s.power with low := true, accT := a, dirT := if a = 0 then 1 else 0 } }
    else
      let s := { s with power := { s.power with low := false, dirT := 0 } }
      if cool < 16 then s
      else
        ({ s with power := { s.power with throttle := false, warm := true } }.setReg 0x7040 3 0).fault 0x18 10 p.hotSensor
          St.thermalThrottled (ofSigned 32 (tget p.sensors p.hotSensor 0)) 2 none true
  | none, false =>
    if p.warm && decide (16 ≤ cool) then
      let lowV := s.vbLow p.vbT
      { s with power := { s.power with
        dirT := if lowV then 2 else 0, accT := if lowV then p.accT else raiseAcc p.accT p.ceilA } }
    else { s with power := { s.power with dirT := 0 } }

/-- The sensors as read; those of absent units have no reading (R469). -/
def State.takeSensors (s : State) (l : List Int) : State :=
  { s with power := { s.power with sensors :=
    ((List.range 112).filter fun k => s.sensed k && l.getD k (-32768) != -32768).map fun k => (k, l.getD k 0) } }

/-- A board quarter runs below VCORE in this span (7000:09). -/
def State.noteLowered (s : State) : State :=
  if s.vboard < s.power.vcore ∧ s.hasBoard then { s with power := { s.power with lowered := true } } else s

/-- POWER_SAMPLE (R452, R458, R463, R464, R466, R470): 6.144 µs have passed. -/
def execPowerSample (x : PowerInputs) (s : State) : Out :=
  .next (
    let s := { s with ns := s.ns + 6144 }
    if s.boot.phase = .off then s
    else
      let s := ((s.takeSample x).takePeaks).takeSensors x.sensors
      let total := s.power.samples.headD 0
      let s := s.excursions total
      let limit := if s.power.excursion then min (s.reg 0x7000 2) 900 else s.reg 0x7000 2
      let s := if 10000 * limit < total then s.descend else s.ascend total
      s.throttle.noteLowered)

/-- VBOARD_STEP (R454, R463, R464, R470): 2 mV down or up, of the cap's VBOARD or of the throttle's. -/
def execVboardStep (thermal : Bool) (s : State) : Out :=
  .next (
    let p := s.power
    let dir := if thermal then p.dirT else p.dirV
    let vb := if thermal then p.vbT else p.vb
    let new :=
      if dir = 1 then max 600 (min vb p.vcore - 2)
      else if dir = 2 ∧ s.vbLow vb then
        (let v := min (vb + 2) (min p.vcore p.ceilV)
         if p.vcore ≤ v then 850 else v)
      else vb
    { s with power := if thermal then { p with vbT := new } else { p with vb := new } }.noteLowered)

/-! ### Ceilings (R459) -/

/-- The records of the current phase set (R459). -/
def State.phaseSet (s : State) : List Phaseset :=
  let tags := (s.board.ctxs.filter fun e => e.2.state == 2).map fun e => dOperator e.2.desc
  (if tags.isEmpty then [0] else tags.eraseDups).filterMap s.phase

/-- Largest need of a class, in 0.1 mW. -/
def needOf (l : List Phaseset) (f : Phaseset → Nat) : Nat := 10000 * l.foldl (fun n p => max n (f p)) 0

/-- The least value of 600 mV and more, in steps of 2 mV, whose cube reaches num/den of v's cube. -/
def cubeCeiling (v num den : Nat) : Nat :=
  (((List.range 126).map fun i => 600 + 2 * i).find? fun x => decide (v * v * v * num ≤ x * x * x * den)).getD 850

/-- Compute the ceilings; each record consulted becomes the most recently used. -/
def State.allocate (s : State) : State :=
  let l := s.phaseSet
  let nl := needOf l (·.link)
  let nm := needOf l (·.memory)
  let nb := needOf l (·.board)
  let no := needOf l (·.open_)
  let rest := 10000 * s.reg 0x7000 2 - s.classPower 0
  let rest := rest - min nl rest
  let rest := rest - min nm rest
  let gb := min nb rest
  let go := min no (rest - gb)
  let s := l.foldl State.usePhase s
  { s with power := { s.power with
    ceilV := if nb = 0 ∨ gb = nb then 850 else cubeCeiling s.power.vcore gb nb,
    ceilA := if no = 0 then 256 else 256 * go / no } }

/-- Core P runs. -/
def State.coreP (s : State) : Bool := s.isReady && (s.coreStop 1).isNone

/-- A write of CAP: the cap in force, and the ceilings at once (R459, R462). -/
def capEffect : Effect := fun _ v s =>
  let c := leNat v
  let s := (s.setReg 0x7000 1 c).setReg 0x7000 2 (max 420 c)
  let s := { s with power := { s.power with floorClamp := decide (c < 420) } }
  let s := (if s.power.run then s else s.setClamp).allocate
  (s, if c < 420 then St.capClamped else St.ok, 0)

/-- CAP (R462). -/
def execCap (r : Route) (v : Bytes) (s : State) : Out := .next (s.rowWrite r 0x7000 1 v capEffect)

/-! ### Voltage modes (R453, R467) -/

/-- Writes of VOLTAGE_MODE, VCORE_SET and ADAPTIVE_MAX. -/
def voltageEffect (sub : Nat) : Effect := fun _ v s =>
  if sub = 3 then (if leNat v < s.reg 0x7020 2 then refuse s St.valueRefused else done (s.setReg 0x7020 3 (leNat v)))
  else done { s.setReg 0x7020 sub (leNat v) with power := { s.power with written := true } }

/-- Writes of 7020:01 and 7020:02 take effect, with their journal entry (Table 16.7). -/
def State.takeVoltage (s : State) : State :=
  if !s.power.written then s
  else
    let m := s.reg 0x7020 1
    let v := s.reg 0x7020 2
    let changed := m ≠ s.power.mode ∨ v ≠ s.power.vset
    let s := { s with power := { s.power with
      mode := m, vset := v, written := false, target := if m = 0 then v else max s.power.target v, goodRun := 0 } }
    let s := s.append { kind := 4, reference := v + put m 16 16 }
    if changed then s.setReg 0x7020 6 s.stampSpan else s

/-- Move the adaptive setpoint by 5 mV. -/
def State.moveTarget (s : State) (t : Nat) (up : Bool) : State :=
  if t = s.power.target then s
  else
    let s := ({ s with power := { s.power with target := t } }).setReg 0x7020 6 s.stampSpan
    if up then s.addReg 0x7020 5 32 1 else s

/-- The adaptive step of an interval. -/
def State.adapt (s : State) : State :=
  let p := s.power
  let w := s.windowPower
  let cap := 10000 * s.reg 0x7000 2
  let tight := decide (0 < p.overruns) || decide (p.slackMin ≤ 4)
  if p.mode ≠ 1 then s
  else if tight && decide (w + 400000 ≤ cap) && !p.run && !p.low then
    s.moveTarget (max p.target (min (p.target + 5) (s.reg 0x7020 3))) true
  else if 10 ≤ p.goodRun ∨ cap < w + 200000 then s.moveTarget (min p.target (max p.vset (p.target - 5))) false
  else s

/-- Fields of a POWER record: cap in force, VCORE, open acceptance and the VBOARDs (Table 18.9). -/
def State.powerData (s : State) : Nat :=
  let vb := if s.hasBoard then s.vboard else 0
  put (s.reg 0x7000 2) 15 0 + put s.power.vcore 31 16 + put (min s.power.acc s.power.accT) 47 32 + put vb 63 48 + put vb 79 64
  + put vb 95 80 + put vb 111 96

/-- CONTROL_INTERVAL (R459, R467): core P computes the ceilings and takes an adaptive step. -/
def execControlInterval (s : State) : Out :=
  .next (
    let s := if s.power.traced = s.powerData then s
      else { s with power := { s.power with traced := s.powerData } }.trace 7 10 0x3F none 0 s.powerData
    if !s.coreP then s
    else
      let s := s.takeVoltage
      let s := { s with power := { s.power with goodRun := if 16 ≤ s.power.slackMin then s.power.goodRun + 1 else 0 } }
      let s := s.adapt.allocate
      { s with power := { s.power with overruns := 0, slackMin := 32 } })

/-- VCORE_STEP (R453): one step of at most 5 mV toward the target, unless the setpoint holds. -/
def execVcoreStep (s : State) : Out :=
  .next (
    let p := s.power
    let t := max 600 (min 850 p.target)
    let v := if p.vcore < t then min t (p.vcore + 5) else max t (p.vcore - 5)
    if v = p.vcore ∨ s.setpointHeld ∨ !s.coreP then s
    else (({ s with power := { p with vcore := v } }).emit (.avs 0 v)).noteLowered)

/-! ### Board quarters (R456) -/

/-- A quarter is named by a board record of the active or the pending table, or a held context has windows in it. -/
def State.quarterUsed (s : State) (q : Nat) : Bool :=
  let named (t : Option SpanTable) : Bool := (t.map fun t => t.boards.any fun b => bit b.quarters q).getD false
  named s.sched.active || named s.sched.pending ||
  s.board.ctxs.any fun e => e.2.state != 0 && !dStaged e.2.desc && (s.recordsOf e.2.desc).any fun b => bit b.quarters q

/-- A write of BOARD_QUARTERS: domains power up or go off. -/
def quartersEffect : Effect := fun _ v s =>
  let new := leNat v % 16
  let old := s.reg 0x7010 2
  if !s.hasBoard then (if new ≠ 0 then refuse s St.featureAbsent else done s)
  else if (List.range 4).any (fun q => bit old q && !bit new q && s.quarterUsed q) then refuse s St.valueRefused
  else
    let s := s.setReg 0x7010 2 new
    done { s with power := { s.power with quarters := (List.range 4).foldl (fun t q =>
      if bit new q && !bit old q then tset t q 2 else if !bit new q && bit old q then tset t q 0 else t) s.power.quarters } }

/-- BOARD_QUARTERS (R456). -/
def execBoardQuarters (r : Route) (v : Bytes) (s : State) : Out := .next (s.rowWrite r 0x7010 2 v quartersEffect)

/-- BOARD_DOMAIN_UP (R456): a domain has powered up, with zero beads. -/
def execBoardDomainUp (q : Quarter) (s : State) : Out :=
  .next (if tget s.power.quarters q.val 0 = 2 then { s with power := { s.power with quarters := tset s.power.quarters q.val 1 } }
    else s)

/-! ### Engines (R472) and the learned table (R460) -/

/-- ENGINE_OVERHEAT (R472): a case above 80 °C; its port goes DARK, or PCIe and the management port go down. -/
def execEngineOverheat (engine : Fin 25) (reading : Int) (s : State) : Out :=
  .next (
    if reading ≤ 1280 ∨ s.power.stopped.contains engine.val then s
    else
      let s := { s with power := { s.power with stopped := s.power.stopped ++ [engine.val] } }
      let s := (s.setReg 0x7040 5 (maskOf s.power.stopped)).fault 0x19 9 engine.val St.ok (ofSigned 32 reading) 2
      if engine.val = 24 then { s with host := { s.host with hot := true } }.hostDark
      else (s.modLink engine.val fun x => { x with hot := true }).darkLink engine.val false)

/-- ENGINE_COOLED (R472): the case has read 75 °C or below for 1 s. -/
def execEngineCooled (engine : Fin 25) (reading : Int) (s : State) : Out :=
  .next (
    if 1200 < reading ∨ !s.power.stopped.contains engine.val then s
    else
      let s := { s with power := { s.power with stopped := s.power.stopped.filter (· != engine.val) } }
      let s := s.setReg 0x7040 5 (maskOf s.power.stopped)
      if engine.val = 24 then { s with host := { s.host with hot := false } }
      else s.modLink engine.val fun x => { x with hot := false })

/-- A write of 1 to FORGET. -/
def forgetEffect : Effect := fun _ _ s => done { s with power := { s.power with learned := [] } }

/-- FORGET (R460). -/
def execForget (r : Route) (v : Bytes) (s : State) : Out := .next (s.rowWrite r 0x7030 4 v forgetEffect)

/-- A write of DEFAULT_PHASES: no VALID record may hold a need above 900 W (R461). -/
def phasesOk (v : Nat) : Bool :=
  (List.range 256).all fun k =>
    let x := fld v (128 * k + 127) (128 * k)
    !bit x 0 || [95, 79, 63, 47].all fun hi => decide (fld x hi (hi - 15) ≤ 900)

/-- Learned record k as it is read (Table 15.3). -/
def State.learnedRecord (s : State) (k : Nat) : Nat :=
  match s.power.learned[k]? with
  | none => 0
  | some p => 5 + put p.open_ 47 32 + put p.board 63 48 + put p.memory 79 64 + put p.link 95 80 + put p.tag 127 96

end Sys2Proof.Machine
end

