-- ==== Sys2Proof/Machine/Security.lean ====
section
/-! DEFINITION. The random source, attestation reports, the release of content keys and the management key (14 R427, R438 to
R447). -/

namespace Sys2Proof.Machine

open Sys2Proof

/-! ### The random source (R427) -/

/-- RANDOM_HEALTH_FAIL: the security core makes no new key from here on. -/
def execRandomHealthFail (s : State) : Out :=
  .next (if s.reg 0x9000 6 = 1 then s else (s.setReg 0x9000 6 1).fault 0x11 0 0 St.unwrapFailed 0 3)

/-- RANDOM_RETEST: the tests are repeated. -/
def execRandomRetest (passed : Bool) (s : State) : Out := .next (if passed then s.setReg 0x9000 6 0 else s)

/-! ### Reports (Table 14.4, R438, R439) -/

/-- STATE A000:06 (Table 13.7). -/
def Phase.code : Phase → Nat
  | .selfTest => 0
  | .waiting => 1
  | .loading => 2
  | .initialising => 3
  | .ready => 4
  | .minimal => 5
  | .off => 0
  | .inReset => 0

/-- The 512 octets of a report of a kind. -/
def State.report (s : State) (kind number nonce data : Nat) : Nat :=
  0x52505441 + put 0x0100 47 32 + put kind 55 48 + put (b2n s.confidential) 56 56 + put Config.serial.toNat 127 64
  + put number 191 128 + put (if s.clock.align = 2 then s.clock.span else 0) 255 192 + put (s.reg 0xA010 1) 319 288
  + put s.boot.phase.code 335 320 + put (s.reg 0x1030 5) 351 336 + put nonce 639 384 + put data 1151 640
  + put (sha3n (natLe 2592 Config.identityPublic.toNat)) 1663 1152 + put (s.reg 0xA030 1) 2175 1664
  + put (s.reg 0xA030 2) 2687 2176 + put (s.reg 0xA030 3) 3199 2688 + put (s.reg 0xA030 4) 3711 3200

/-- Make a report and sign it: the report, its signature and its number. -/
def State.signReport (s : State) (kind nonce data : Nat) : State × Nat × Nat × Nat :=
  let n := s.sec.reports + 1
  let rep := s.report kind n nonce data
  ({ s with sec := { s.sec with reports := n } }, rep, Config.mldsaSign "OBXUS-ATTEST" (natLe 512 rep), n)

/-- Put a report and its signature into three sub-indices. -/
def State.setReport (s : State) (idx sub rep sig : Nat) : State :=
  ((s.setReg idx sub rep).setReg idx (sub + 1) (sig % 2 ^ 32768)).setReg idx (sub + 2) (sig / 2 ^ 32768 % 2 ^ 4248)

/-- ATTESTATION_REQUEST (R438): NONCE and REPORT_DATA. -/
def execAttestationRequest (r : Route) (v : Bytes) (s : State) : Out :=
  .next (s.rowWrite r 0x9020 1 v (startEffect 0x9020 1))

/-- The last step of an attestation request. -/
def State.runAttestation (s : State) : State :=
  let d := (s.stepOp 0x9020 1).data
  let x := s.signReport 1 (leAt d 0 32) (leAt d 32 64)
  ((x.1.setReport 0x9020 3 x.2.1 x.2.2.1).setReg 0x9020 6 x.2.2.2).endStep 0x9020 1 St.ok

/-- DOE_REQUEST (R439): the PF's mailbox answers a request of 96 octets with a report and its signature. -/
def execDoeRequest (d : Bytes) (s : State) : Out :=
  .next (
    if d.length ≠ 96 ∨ (s.coreStop 0).isSome then s
    else
      let x := s.signReport 1 (leAt d 0 32) (leAt d 32 64)
      x.1.emit (.pcie 0 St.ok (natLe 512 x.2.1 ++ natLe 4627 x.2.2.1)))

/-! ### Release of content keys (R446) -/

/-- A step of 9080 runs. -/
def State.releaseRuns (s : State) : Bool := s.stepRuns 0x9080 1 || s.stepRuns 0x9080 7

/-- A write of RELEASE_REQUEST: NONCE, SEAL_ID, HANDLE. -/
def releaseEffect : Effect := fun r v s =>
  let e := (tget s.keys.table (leAt v 40 4 % 2 ^ 21) 0 : BitVec 128).toNat
  if s.releaseRuns then refuse s St.loadBusy
  else if s.reg 0x9000 6 = 1 then refuse s St.unwrapFailed
  else if 2 ^ 21 ≤ leAt v 40 4 ∨ !bit e 0 ∨ !bit e 3 ∨ fld e 95 82 ≠ s.ownEp then refuse s St.contextDenied
  else s.startStep r 0x9080 1 (leNat v) v

/-- RELEASE_REQUEST (R446). -/
def execReleaseRequest (r : Route) (v : Bytes) (s : State) : Out := .next (s.rowWrite r 0x9080 1 v releaseEffect)

/-- The last step of a release request: an ephemeral key pair and the KIND 2 report. -/
def State.runRelease (s : State) : State :=
  if s.reg 0x9000 6 = 1 then s.endStep 0x9080 1 St.unwrapFailed
  else
    let d := (s.stepOp 0x9080 1).data
    let h := leAt d 40 4
    let draw := s.fresh
    let pub := Config.mlkemPublic draw
    let x := s.draw.signReport 2 (leAt d 0 32) (sha3n (natLe 1568 pub ++ sliceB d 32 16))
    let part := fld (tget s.keys.table h 0 : BitVec 128).toNat 81 76
    let rel : Release := { handle := h, sealId := leAt d 32 8, part, draw, pub, report := natLe 512 x.2.1, at_ := s.ns }
    ({ x.1 with sec := { x.1.sec with release := some rel } }.setReport 0x9080 4 x.2.1 x.2.2.1).endStep 0x9080 1 St.ok

/-- A write of RELEASE_INSTALL needs a pending release of the last 60 s. -/
def installReleaseEffect : Effect := fun r v s =>
  if s.releaseRuns then refuse s St.loadBusy
  else
    match s.sec.release with
    | none => refuse s St.attestationRequired
    | some rel =>
      if rel.at_ + 60000000000 < s.ns then
        refuse { s with sec := { s.sec with release := none } } St.attestationRequired
      else s.startStep r 0x9080 7 (leNat v) v

/-- RELEASE_INSTALL (R446). -/
def execReleaseInstall (r : Route) (v : Bytes) (s : State) : Out := .next (s.rowWrite r 0x9080 7 v installReleaseEffect)

/-- The exclusive or of two octet strings. -/
def xorBytes (a b : Bytes) : Bytes := List.zipWith (· ^^^ ·) a b

/-- Unwrap a content key: none where CHECK does not hold. -/
def unwrapContent (rel : Release) (d : Bytes) : Option Nat :=
  let ss := natLe 32 (Config.mlkemDecaps rel.draw (leAt d 0 1568))
  let key := xorBytes (sliceB d 1568 64) (kmac256 ss (sha3 rel.report) 64 (ascii "OBXUS-SEAL-WRAP"))
  if sliceB d 1632 16 = kmac256 ss (key ++ natLe 8 rel.sealId) 16 (ascii "OBXUS-SEAL-CHECK") then some (leNat key) else none

/-- The last step of an install: the key goes into a slot, or the write fails; the ephemeral key is destroyed. -/
def State.runReleaseInstall (s : State) : State :=
  let d := (s.stepOp 0x9080 7).data
  let spent := { s with sec := { s.sec with release := none } }
  match s.sec.release with
  | none => spent.endStep 0x9080 7 St.attestationRequired
  | some rel =>
    match unwrapContent rel d with
    | none => spent.endStep 0x9080 7 St.unwrapFailed
    | some key =>
      let others := spent.ep.home.seals.filter fun x => x.handle != rel.handle
      if 256 ≤ others.length then spent.endStep 0x9080 7 St.valueRefused
      else
        let seals := others ++ [Seal.mk rel.part rel.handle rel.sealId key]
        { spent with ep := { spent.ep with home := { spent.ep.home with seals } } }.endStep 0x9080 7 St.ok

/-- A write of DISCARD destroys a handle's slot. -/
def discardEffect : Effect := fun _ v s =>
  done { s with ep := { s.ep with home := { s.ep.home with
    seals := s.ep.home.seals.filter fun x => x.handle != leNat v } } }

/-- DISCARD (R446). -/
def execDiscard (r : Route) (v : Bytes) (s : State) : Out := .next (s.rowWrite r 0x9080 8 v discardEffect)

/-! ### The management key (R447) -/

/-- A write of INSTALL: unwrap the key, or fail and keep the old one. -/
def installEffect : Effect := fun _ v s =>
  let ss := natLe 32 (Config.installDecaps (leAt v 0 1568))
  let key := xorBytes (sliceB v 1568 32) (kmac256 ss (natLe 1568 Config.installPublic.toNat) 32 (ascii "OBXUS-MGMT-WRAP"))
  if sliceB v 1600 16 = kmac256 ss key 16 (ascii "OBXUS-MGMT-CHECK") then
    done ({ s with sec := { s.sec with mgmtKey := some (leNat key) }, mgmt := { s.mgmt with highSeq := none } }.setReg 0x9070 4 0)
  else refuse s St.unwrapFailed

/-- INSTALL (R447). -/
def execInstall (r : Route) (v : Bytes) (s : State) : Out := .next (s.rowWrite r 0x9070 2 v installEffect)

/-- A write of 1 to CLEAR destroys the management key. -/
def keyClearEffect : Effect := fun _ _ s =>
  done { s with sec := { s.sec with mgmtKey := none }, mgmt := { s.mgmt with highSeq := none } }

/-- MANAGEMENT_KEY_CLEAR (R447). -/
def execManagementKeyClear (r : Route) (v : Bytes) (s : State) : Out := .next (s.rowWrite r 0x9070 3 v keyClearEffect)

end Sys2Proof.Machine
end

