-- ==== Sys2Proof/Machine/Values.lean ====
section
/-! DEFINITION. What a read of a dictionary sub-index gives: the values that the device computes, the cells that it holds, and
the reads that latch something (12 R370 to R376, and the object tables of all chapters). -/

namespace Sys2Proof.Machine

open Sys2Proof

/-! ### Arrays -/

/-- A value made of equal fields of w octets. -/
def fieldsOf (w : Nat) (l : List Nat) : Nat := leNat (l.flatMap (natLe w))

/-! ### 12 The persistent store (Table 12.6) -/

/-- Every RWP sub-index with its object. -/
def rwpCells : List (Nat × Nat) :=
  [(0x2010, 1), (0x2020, 1), (0x2030, 1), (0x2030, 2), (0x2030, 3), (0x2040, 1), (0x2040, 2), (0x2040, 3), (0x2040, 4),
   (0x2040, 5), (0x2040, 6), (0x2050, 1), (0x9060, 1)]

/-- Blocks allocated to objects, and the 16 of A010 (R381, R417). -/
def blocksUsed : Nat := rwpCells.foldl (fun n k => n + blocksOf k.1 k.2) 16

/-- Indices of the objects that have taken wear of at least n writes in a block. -/
def State.wornObjects (s : State) (n : Nat) : Nat :=
  ((s.wear.filter fun e => decide (n ≤ e.2)).map fun e => e.1 / 16384).eraseDups.length

def State.maxWear (s : State) : Nat := s.wear.foldl (fun m e => max m e.2) 0

/-- Values of 1000, 1010 and 2000. -/
def State.identityValue (s : State) (idx sub : Nat) : Option Nat :=
  match idx, sub with
  | 0x1000, 1 => some (text 16 "Jalisk")
  | 0x1000, 2 => some (text 16 "Exavar")
  | 0x1000, 3 => some (text 16 "Obxus")
  | 0x1000, 4 => some (text 16 (match s.boot.variant with
      | .f => "JX-OB24-F"
      | .c => "JX-OB24-C"
      | .n => "JX-OB24-N"))
  | 0x1000, 5 => some Config.serial.toNat
  | 0x1000, 6 => some Config.stepping.toNat
  | 0x1000, 7 => some Config.made.toNat
  | 0x1000, 8 => some Config.mac.toNat
  | 0x1010, 1 => some Config.bootRomVersion.toNat
  | 0x2000, 2 => some blocksUsed
  | 0x2000, 3 => some s.maxWear
  | 0x2000, 6 => some (s.wornObjects 900000)
  | 0x2000, 7 => some (s.wornObjects 1000000)
  | 0x2010, 2 => some (s.wearOf 0x2010)
  | 0x2020, 2 => some (s.wearOf 0x2020)
  | 0x2030, 4 => some (s.wearOf 0x2030)
  | 0x2040, 7 => some (s.wearOf 0x2040)
  | 0x2050, 2 => some (s.wearOf 0x2050)
  | 0x9060, 3 => some (s.wearOf 0x9060)
  | 0xA010, 0x12 => some (s.wearOf 0xA010)
  | _, _ => none

/-! ### 09 Links (Table 9.10) -/

/-- Data lanes that a port uses in one direction: none before LOCK; from LOCK on those that passed in TRAIN, and once it runs
those that have not failed since. -/
def State.lanesOf (s : State) (p : Nat) (tx : Bool) : List Nat :=
  let x := s.port p
  let l := s.link (linkOf p)
  let lost := if tx then x.lostTx else x.lostRx
  let passed := (if tx then l.peerLanes else l.myLanes).getD 0xFF
  if x.state ≤ 2 then []
  else (s.portLanes p).filter fun k => some k != lost && (decide (5 ≤ x.state) || bit passed k)

/-- LANES_TX and LANES_RX. -/
def State.lanesUsed (s : State) (n : Nat) (tx : Bool) : Nat :=
  let laneC := if tx then s.linkState n != 0 else (s.link n).laneC && s.linkState n != 0
  maskOf ((s.portsOf n).flatMap fun p => s.lanesOf p tx) + put (b2n laneC) 8 8

/-- Values of 3000+n. -/
def State.linkValue (s : State) (n sub : Nat) : Option Nat :=
  match sub with
  | 4 => some (s.linkState n)
  | 5 => some (if (s.link n).split = some true then (s.port (2 * n + 1)).state else 0xFF)
  | 7 => some (s.lanesUsed n true)
  | 8 => some (s.lanesUsed n false)
  | 0x1A => some (s.link n).peerEp
  | _ => none

/-! ### 02, 05, 06, 08 -/

/-- Values of 3091, 4000, 4050, 5000 to 5020, 6000 and 6100+p. -/
def State.scheduleValue (s : State) (idx sub : Nat) : Option Nat :=
  if idx = 0x4000 then
    match sub with
    | 1 => some s.clock.span
    | 2 => some s.spanLen
    | 3 => some s.slotLen
    | 4 => some s.clock.align
    | 8 => some s.clock.latched
    | _ => none
  else if idx = 0x4050 then some (if thas s.clock.offsets (sub - 1) then ofSigned 16 (tget s.clock.offsets (sub - 1) 0) else 0x8000)
  else if idx = 0x3091 ∧ 1 ≤ sub ∧ sub ≤ 8 then some (s.group (sub - 1))
  else if idx = 0x5000 ∧ sub = 2 then some s.windowsFree
  else if idx = 0x5010 ∧ sub = 5 then
    some ((s.board.rosters.find? fun e => e.1 == s.reg 0x5010 2).map (·.2.digest) |>.getD 0)
  else if idx = 0x5020 then some (s.ctx (sub - 1)).report
  else if idx = 0x6000 ∧ sub = 1 then some (s.keys.table.filter fun e => entValid e.2).length
  else if idx = 0x6000 ∧ sub = 2 then some (s.keys.table.filter fun e => entDead e.2).length
  else if idx = 0x6000 ∧ sub = 3 then some (b2n s.isPrimary)
  else if 0x6100 ≤ idx ∧ idx < 0x6140 ∧ sub = 6 then some (s.partEntries (idx - 0x6100)).length
  else if idx = 0x6200 then
    match sub with
    | 1 => some s.ownEp
    | 3 => some 0
    | 4 => some 0
    | 0xB => some 0
    | 0xD => some s.ep.copiesHeld
    | _ => none
  else none

/-! ### 15 Power (Table 15.5) -/

/-- State of power domain k: 0 off, 1 on, 2 switching, 3 absent (Table 15.2). -/
def State.domain (s : State) (k : Nat) : Nat :=
  let five := b2n (s.boot.phase == .initialising || s.isReady)
  if k = 0 ∨ k = 25 ∨ k = 46 ∨ k = 47 then b2n s.awake
  else if k ≤ 24 then s.reg (linkObj (k - 1)) 1 % 2
  else if 30 ≤ k ∧ k ≤ 33 then (if s.hasBoard then tget s.power.quarters (k - 30) 0 else 3)
  else if 38 ≤ k ∧ k ≤ 41 then (if s.stacks.contains (k - 38) then five else 3)
  else if k = 42 ∨ k = 43 then (if s.halves.contains (k - 42) then five else 3)
  else five

/-- The hottest of a run of sensors, 0x8000 where none reads. -/
def State.hottest (s : State) (lo hi : Nat) : Nat :=
  match (s.power.sensors.filter fun e => decide (lo ≤ e.1) && decide (e.1 ≤ hi)).map (·.2) with
  | [] => 0x8000
  | a :: r => ofSigned 16 (r.foldl max a)

/-- Values of 7000 to 7040. -/
def State.powerValue (s : State) (idx sub : Nat) : Option Nat :=
  match idx, sub with
  | 0x7000, 3 => some (s.windowPower / 10000)
  | 0x7000, 5 => some (min s.power.acc s.power.accT)
  | 0x7000, 6 => some (fieldsOf 2 (List.replicate 4 (if s.hasBoard then s.vboard else 0)))
  | 0x7000, 0xA => some (fieldsOf 2 ((List.range 5).map fun k => s.classPower k / 10000))
  | 0x7010, 1 => some (fieldsOf 1 ((List.range 50).map s.domain))
  | 0x7020, 4 => some s.power.vcore
  | 0x7020, 7 => some (fieldsOf 4 ((List.range 7).map fun r =>
      let x := tget s.power.rails r (0, 0)
      put x.2 15 0 + put x.1 31 16))
  | 0x7030, 1 => some s.power.learned.length
  | 0x7030, 3 => some (s.learnedRecord (s.reg 0x7030 2))
  | 0x7040, 1 => some (fieldsOf 2 ((List.range 112).map fun k => ofSigned 16 (tget s.power.sensors k (-32768))))
  | 0x7040, 2 => some (s.hottest 0 71)
  | 0x7040, 6 => some (s.hottest 72 96)
  | _, _ => none

/-! ### 18 Tallies and traces -/

def State.tallyValue (s : State) (idx sub : Nat) : Option Nat :=
  if idx = 0x8010 ∧ sub = 5 then some (leNat s.catalogue)
  else if 0x8040 ≤ idx ∧ idx < 0x8080 ∧ sub = 3 then some (s.tagSet (idx - 0x8040)).closed
  else if 0x8200 ≤ idx ∧ idx < 0x8218 ∧ sub = 1 then some (leNat (s.lightValues (idx - 0x8200)))
  else if idx = 0x8300 ∧ sub = 5 then some s.tallies.written
  else if idx = 0x8300 ∧ sub = 6 then some s.tallies.oldest
  else if idx = 0x8300 ∧ sub = 7 then some s.tallies.lost
  else none

/-! ### 14 Security -/

/-- Highest grain counter of a link's directions and halves. -/
def State.counterMax (s : State) (n : Nat) : Nat :=
  (s.portsOf n).foldl (fun m p => max m (max (s.port p).txCount (s.port p).rxCount)) 0

def State.securityValue (s : State) (idx sub : Nat) : Option Nat :=
  if idx = 0x9000 then
    match sub with
    | 1 => some Config.identityPublic.toNat
    | 2 => some (sha3n (natLe 2592 Config.identityPublic.toNat))
    | 3 => some (Config.certificate.toNat % 2 ^ 32768)
    | 4 => some (Config.certificate.toNat / 2 ^ 32768)
    | 5 => some Config.caDigests.toNat
    | _ => none
  else if 0x9040 ≤ idx ∧ idx < 0x9058 ∧ sub = 4 then
    let m := s.reg idx 3
    some (b2n (m != 0 && (List.range 16).any fun k => s.reg 0x9030 (k + 1) == m))
  else if 0x9040 ≤ idx ∧ idx < 0x9058 ∧ sub = 7 then some (s.counterMax (idx - 0x9040))
  else if idx = 0x9070 ∧ sub = 1 then some Config.installPublic.toNat
  else if idx = 0x9080 ∧ sub = 3 then some ((s.sec.release.map (·.pub)).getD 0)
  else if idx = 0x9080 ∧ sub = 9 then some s.ep.home.seals.length
  else none

/-! ### 13, 11, 12 Start, host interface, management port -/

def State.startValue (s : State) (idx sub : Nat) : Option Nat :=
  if idx = 0xA000 then
    match sub with
    | 6 => some s.boot.phase.code
    | 8 => some (fieldsOf 1 ((List.range 6).map fun k => (s.core k).state))
    | 9 => some (fieldsOf 4 ((List.range 6).map fun k => (s.core k).restarts))
    | _ => none
  else if idx = 0xA010 ∧ 2 ≤ sub ∧ sub ≤ 0x11 then some ((s.boot.records[sub - 2]?).map StartRecord.bits |>.getD 0)
  else
    match idx, sub with
    | 0xA020, 1 => some s.lastFailure.1
    | 0xA020, 2 => some s.lastFailure.2
    | 0xA100, 1 => some s.host.rate
    | 0xA100, 2 => some s.host.width
    | 0xA100, 3 => some s.host.numVfs
    | 0xA110, 1 => some s.mgmt.port
    | 0xA110, 7 => some (b2n s.sec.mgmtKey.isSome)
    | _, _ => none

/-! ### 16, 17 Faults, pair, health, journal -/

/-- Pair-state grains sent or waiting and not yet acknowledged (B010:07). -/
def State.mirrorBacklog (s : State) : Nat :=
  let mine (g : Grain) : Bool := g.vc == 3 && g.key == 0 && !g.isSeqReset
  ((s.ep.chan s.pair.partner 3).copies.filter fun c => mine c.grain).length
  + (s.ep.queue.filter fun q => mine q.grain && q.grain.dst == s.pair.partner).length

def State.faultValue (s : State) (idx sub : Nat) : Option Nat :=
  match idx, sub with
  | 0xB000, 0xB => some s.faults.queue.length
  | 0xB000, 0xC => some (leNat (s.faults.log.flatMap fun f => natLe 64 f.bits))
  | 0xB010, 1 => some s.pair.state
  | 0xB010, 7 => some s.mirrorBacklog
  | 0xB010, 8 => some ((s.pair.partnerTable.map (·.serial)).getD 0)
  | 0xB010, 9 => some ((s.pair.partnerTable.map (·.digest)).getD 0)
  | 0xB010, 0xA => some (s.journal.partner.foldl (fun m e => max m (e.1 + 1)) 0)
  | 0xB020, 2 => some ((List.range 24).filter fun n => s.linkAny n (· == 8) && s.reg (linkObj n) 6 == 8).length
  | 0xB020, 3 => some (maskOf ((List.range 24).filter fun n => (tget s.health.links n {}).state == 4))
  | 0xB030, 0x1D => some (fieldsOf 1 ((List.range 24).map fun n => (tget s.health.links n {}).state))
  | 0xB040, 4 => some s.health.nextLink
  | 0xB100, 1 => some s.journal.next
  | 0xB100, 2 => some s.journal.head
  | 0xB100, 5 => some s.journal.lost
  | 0xB100, 0x0D => some s.firstUnreadable
  | 0xB110, 2 => some (if s.pair.state = 0 then 0xFF else if s.isSide0 then 0 else 1)
  | 0xB140, 7 => some (leNat s.excLog)
  | 0xB140, 8 => some s.exc.lastSpan
  | 0xB150, 0x19 => some (fieldsOf 1 ((List.range 24).map fun n => tget s.clock.trim n 0))
  | 0xB150, 0x1A => some (fieldsOf 1 ((List.range 24).map fun n => tget s.clock.depth n 4))
  | 0xF000, 1 => some (1 + put 0x4E3 11 1 + put 0xB0A5 27 12 + put Config.stepping.toNat 31 28)
  | 0xF000, 4 => some (b2n s.clock.refA + 2 * b2n s.clock.refB + 4 * b2n s.clock.onB)
  | _, _ =>
    if idx = 0xB030 ∧ sub ≤ 0x18 then some (tget s.health.links (sub - 1) {}).score
    else if idx = 0xB030 ∧ sub ≤ 0x1C then some (tget s.health.quarters (sub - 0x19) {}).score
    else if idx = 0xB140 ∧ sub ≤ 6 then some (s.excShown sub)
    else none

/-! ### Every sub-index -/

/-- The value that a sub-index shows: 1 while a STEP operation runs, what the device computes, or what the cell holds. -/
def State.value (s : State) (idx sub : Nat) : Nat :=
  let o := (findObj idx sub).getD default
  if o.acc = 5 then b2n (s.stepRuns idx sub)
  else
    let x :=
      if idx < 0x3000 then s.identityValue idx sub
      else if idx < 0x3018 then s.linkValue (idx - 0x3000) sub
      else if idx < 0x7000 then s.scheduleValue idx sub
      else if idx < 0x8000 then s.powerValue idx sub
      else if idx < 0x9000 then s.tallyValue idx sub
      else if idx < 0xA000 then (if sub = 3 ∧ idx = 0x9060 then s.identityValue idx sub else s.securityValue idx sub)
      else if idx < 0xB000 then (if idx = 0xA010 ∧ sub = 0x12 then s.identityValue idx sub else s.startValue idx sub)
      else s.faultValue idx sub
    x.getD (s.reg idx sub)

/-- Values that the hardware measures and the spec does not state: laser input power and the offsets of the reference
inputs. -/
def measured (idx sub : Nat) : Bool := idx == 0xF000 && (sub == 3 || sub == 5)

/-- What a read does once its checks have passed: COUNT, zero for an absent unit, the reads that latch, all others.  `off`:
the grain of the slot on whose edge it falls. -/
def readCell (idx sub off : Nat) : State → State × Nat × Bytes := fun s =>
  let o := (findObj idx sub).getD default
  if sub = 0 then (s, St.ok, natLe 1 (objCount idx))
  else if s.unitAbsent idx then (s, St.ok, natLe o.size 0)
  else if idx = 0x4000 ∧ sub = 1 then
    ({ s with clock := { s.clock with latched := if s.clock.running then s.edge off else s.offsetNow } }, St.ok, natLe 8 s.clock.span)
  else if idx = 0x8010 ∧ sub = 2 then readValues off s
  else if 0x8040 ≤ idx ∧ idx < 0x8080 ∧ sub = 2 then readCurrent (idx - 0x8040) off s
  else if 0x8100 ≤ idx ∧ idx < 0x8140 ∧ sub = 1 then readPartCounts (idx - 0x8100) s
  else if idx = 0xB100 ∧ sub = 0xC then readEntry s
  else if measured idx sub then (s.draw, St.ok, natLe o.size (Config.unstated s.fresh [idx, sub]))
  else (s, St.ok, natLe o.size (s.value idx sub))

/-- A read on a route: its status and its octets. -/
def State.dictRead (s : State) (r : Route) (idx sub off : Nat) : State × Nat × Bytes := s.readWith r idx sub (readCell idx sub off)

/-- SPAN_COUNTER_READ (R36): a read of 4000:01 at a grain of the slot latches GRAIN_OFFSET on the same edge. -/
def execSpanCounterRead (r : Route) (off : BitVec 14) (s : State) : Out := .next (s.rowRead r 0x4000 1 (readCell 0x4000 1 off.toNat))

end Sys2Proof.Machine
end

