-- ==== Sys2Proof/Machine/Dictionary.lean ====
section
/-! DEFINITION. Writes of the dictionary: the rule of every writable sub-index, what a write does on its route, RESTORE, and
the changes that are deferred to a boundary (12 R373 to R385, R398, and the object tables of all chapters; 01 R31). -/

namespace Sys2Proof.Machine

open Sys2Proof

/-! ### Values (R10, R372) -/

/-- A record of DEFAULT_PHASES without the bits that are RSVD or RO (Table 15.3). -/
def phaseRecord (x : Nat) : Nat := x / 2 ^ 32 % 2 ^ 96 * 2 ^ 32 + x % 4

/-- The bits of a value that are not RSVD; RSVD bits are ignored and read as zero. -/
def writeMask (idx sub v : Nat) : Nat :=
  match idx, sub with
  | 0x1030, 4 => v % 128
  | 0x2020, 1 => fieldsOf 16 ((List.range 256).map fun k => phaseRecord (fld v (128 * k + 127) (128 * k)))
  | 0x2040, 6 => v % 4096 + put (v / 32768) 15 15
  | 0x6010, 1 => v % 2 ^ 21
  | 0x6010, 3 => v / 2 ^ 43 * 2 ^ 43
  | 0xB000, 2 => v % 8
  | 0xB130, 1 => v % 2 ^ 21
  | 0xF000, 2 => v % 2 ^ 25
  | _, _ => v

/-- Set a cell of the register file. -/
def setEffect (idx sub : Nat) : Effect := fun _ v s => done (s.setReg idx sub (writeMask idx sub (leNat v)))

/-- Set a cell if its value and the state allow it. -/
def setIf (idx sub : Nat) (ok : State → Nat → Bool) : Effect := fun r v s =>
  if ok s (leNat v) then setEffect idx sub r v s else refuse s St.valueRefused

/-- Write a cell of the persistent store if its value and the state allow it (R382, R384). -/
def nvIf (idx sub : Nat) (ok : State → Nat → Bool) : Effect := fun _ v s =>
  if ok s (leNat v) then
    let x := s.writeNv idx sub (writeMask idx sub (leNat v))
    (x.1, x.2, 0)
  else refuse s St.valueRefused

/-- A write of 1 clears cells. -/
def clearEffect (cells : List (Nat × Nat)) : Effect := fun _ v s =>
  done (if leNat v % 2 = 1 then cells.foldl (fun s (k : Nat × Nat) => s.setReg k.1 k.2 0) s else s)

/-! ### Rules of single cells -/

/-- Every link is DARK or FENCED (R396). -/
def State.allOff (s : State) : Bool := (List.range 24).all fun n => !s.linkAny n fun st => st != 0 && st != 8

/-- A link is DARK or FENCED. -/
def State.linkOff (s : State) (n : Nat) : Bool := decide (24 ≤ n) || !s.linkAny n fun st => st != 0 && st != 8

/-- MEMORY_LAYOUT leaves an area of at least 1 GiB in each tier (R328, Table 10.4). -/
def State.layoutFits (s : State) (sub v : Nat) : Bool :=
  let staging := if sub = 1 then v else s.reg 0x2030 1
  let trace := if sub = 2 then v else s.reg 0x2030 2
  let journal := if sub = 3 then v else s.reg 0x2030 3
  decide (staging + 2 ≤ s.reg 0x1020 3) && decide (trace + journal + 2 ≤ s.reg 0x1020 4) &&
  (sub != 3 || 2 ^ v.log2 == v)

/-- The shares of all partitions together (R287). -/
def State.shares (s : State) (p v : Nat) : Nat :=
  (List.range 64).foldl (fun n q => n + (if q = p then v else s.reg (0x6100 + q) 5)) 0

/-- The key domains of p stays apart from those of the others and inside the handles (R283). -/
def State.domainFits (s : State) (p base count : Nat) : Bool :=
  decide (base + count ≤ 2 ^ 21) &&
  (count == 0 || (List.range 64).all fun q =>
    let b := s.reg (0x6100 + q) 3
    let c := s.reg (0x6100 + q) 4
    q == p || c == 0 || decide (b + c ≤ base) || decide (base + count ≤ b))

/-- A write of PAIR_LINK: the link named before and the link named now are DARK or FENCED (R500). -/
def pairLinkEffect : Effect := fun _ v s =>
  let n := leNat v
  if (24 ≤ n ∧ n ≠ 0xFF) ∨ !s.linkOff (s.reg 0xB010 2) ∨ !s.linkOff n then refuse s St.valueRefused
  else
    let s := s.setReg 0xB010 2 n
    done (if n = 0xFF then { s with pair := { s.pair with state := 0, partner := 0x3FFF } } else s)

/-- A write of ENGINE_LOOPBACK: a bit may be set only while its port is DARK and its ENABLE is 0; the host engine's never
(Table 19.11). -/
def loopbackEffect : Effect := fun _ v s =>
  let old := s.reg 0xF000 2
  let new := leNat v % 2 ^ 25
  let sets (b : Nat) : Bool := !bit old b && bit new b
  if sets 24 || (List.range 24).any (fun n => sets n && (s.linkAny n (· != 0) || bit (s.reg (linkObj n) 1) 0)) then
    refuse s St.valueRefused
  else done (s.setReg 0xF000 2 new)

/-- An offset or address that its table gives as a multiple. -/
def alignedTo (n : Nat) (_ : State) (v : Nat) : Bool := v % n == 0

/-- STAGE_BANDWIDTH and STAGE_WINDOWS are not set below what resident staged contexts claim, nor above the fitted rate
(R172, Table 5.14). -/
def stageEffect (sub : Nat) : Effect := fun r v s =>
  let x := leNat v
  let held := s.heldCtxs.filter fun e => dStaged e.2.desc && e.2.state == 2
  let demand := held.foldl (fun n e => n + s.demand e.2.desc) 0
  let windows := held.foldl (fun n e => max n e.2.windows) 0
  if sub = 3 ∧ (6144 * s.stacks.length / 10 < x ∨ !s.withinBandwidth demand x) then refuse s St.valueRefused
  else if sub = 4 ∧ x < windows then refuse s St.valueRefused
  else setEffect 0x5000 sub r v s

/-- A threshold of early discard: no MIN above its MAX (Table 3.11). -/
def redEffect (sub : Nat) : Effect :=
  if sub % 3 = 1 then setIf 0x3081 sub fun s v => decide (v ≤ s.reg 0x3081 (sub + 1))
  else if sub % 3 = 2 then setIf 0x3081 sub fun s v => decide (s.reg 0x3081 (sub - 1) ≤ v)
  else setEffect 0x3081 sub

/-! ### RESTORE (R385) -/

/-- Blocks of a sub-index whose 64 octets differ between two values. -/
def changedBlocks (n a b : Nat) : List Nat := (List.range n).filter fun k => fld a (512 * k + 511) (512 * k) != fld b (512 * k + 511) (512 * k)

/-- Restore the default of one sub-index, unless its object has reached its wear limit. -/
def State.restoreCell (s : State) (idx sub : Nat) : State :=
  let d := regDefault s.boot.variant idx sub
  if 1000000 ≤ s.wearOf idx ∨ s.reg idx sub = d then s
  else
    let blocks := changedBlocks (blocksOf idx sub) (s.reg idx sub) d
    (s.setReg idx sub d).wearOut idx sub blocks

/-- The last step of RESTORE: every RWP sub-index of 2000 to 2FFF. -/
def State.runRestore (s : State) : State :=
  ((rwpCells.filter fun k => decide (k.1 < 0x3000)).foldl (fun s k => s.restoreCell k.1 k.2) s).endStep 0x2000 4 St.ok

/-! ### The rule of every writable sub-index -/

/-- Objects from 1000 to 2FFF. -/
def effectA (idx sub : Nat) : Option Effect :=
  match idx, sub with
  | 0x1000, 9 => some (setIf idx sub fun s _ => s.allOff)
  | 0x1030, 3 => some driverInterfaceEffect
  | 0x2000, 4 => some (startEffect 0x2000 4)
  | 0x2010, 1 => some (nvIf idx sub fun _ _ => true)
  | 0x2020, 1 => some (nvIf idx sub fun _ v => phasesOk v)
  | 0x2030, _ => some (nvIf idx sub fun s v => s.layoutFits sub v)
  | 0x2040, 6 => some (nvIf idx sub fun _ v => !bit v 15 || (decide (1 ≤ v % 4096) && decide (v % 4096 ≤ 4094)))
  | 0x2040, _ => some (nvIf idx sub fun _ _ => true)
  | 0x2050, 1 => some (nvIf idx sub fun _ v => decide (v ≤ 63) || v == 0xFF)
  | _, _ => none

/-- Objects from 3000 to 4FFF. -/
def effectB (idx sub : Nat) : Option Effect :=
  if idx < 0x3018 then
    match sub with
    | 1 => some (linkControlEffect (idx - 0x3000))
    | 2 => some (retrainEffect (idx - 0x3000))
    | 3 => some (fenceEffect (idx - 0x3000))
    | 0xC => some (testStartEffect (idx - 0x3000))
    | _ => none
  else if 0x3100 ≤ idx ∧ idx < 0x3140 then
    (if sub = 2 then some (setIf idx sub fun s v => decide (s.reg idx 1 ≤ v))
     else if sub = 1 then some (setIf idx sub fun s v => decide (v ≤ s.reg idx 2)) else none)
  else
    match idx, sub with
    | 0x3081, _ => some (redEffect sub)
    | 0x3090, 1 => some routeLoadEffect
    | 0x3090, 2 => some (setIf idx sub (alignedTo 4096))
    | 0x4000, 6 => some (setIf idx sub fun _ v => decide (v ≤ 23) || v == 0xFF)
    | 0x4000, 7 => some alignEffect
    | 0x4010, 1 => some spanTableEffect
    | 0x4010, 2 => some (setIf idx sub (alignedTo 4096))
    | 0x4010, 7 => some spanCancelEffect
    | 0x4030, _ => some (heldMinEffect sub)
    | 0x4031, 6 => some (clearEffect [(0x4031, 4), (0x4031, 5)])
    | 0x4060, 1 => some (epScheduleEffect .internal)
    | 0x4060, 2 => some (setIf idx sub (alignedTo 4096))
    | 0x4060, 7 => some (epCancelEffect .internal)
    | _, _ => none

/-- Objects from 5000 to 6FFF. -/
def effectC (idx sub : Nat) : Option Effect :=
  if 0x6100 ≤ idx ∧ idx < 0x6140 then
    let p := idx - 0x6100
    match sub with
    | 2 => some (controlEffect p)
    | 3 => some (setIf idx sub fun s v => s.partState p == 0 && s.domainFits p v (s.reg idx 4))
    | 4 => some (setIf idx sub fun s v => s.partState p == 0 && s.domainFits p (s.reg idx 3) v)
    | 5 => some (setIf idx sub fun s v => decide (s.shares p v ≤ 256))
    | _ => none
  else
    match idx, sub with
    | 0x5000, _ => some (stageEffect sub)
    | 0x5010, 1 => some (startEffect 0x5010 1)
    | 0x5010, 3 => some (setIf idx sub (alignedTo 4096))
    | 0x5040, 7 => some (clearEffect [(0x5040, 1), (0x5040, 2), (0x5040, 6)])
    | 0x5060, 1 => some barrierLoadEffect
    | 0x5060, 2 => some (setIf idx sub (alignedTo 4096))
    | 0x6010, 4 => some keyCommandEffect
    | 0x6020, 1 => some keyLoadEffect
    | 0x6020, 2 => some (setIf idx sub (alignedTo 4096))
    | 0x6030, 7 => some (clearEffect ((List.range 4).map fun k => (0x6030, k + 3)))
    | 0x6200, 5 => some (setIf idx sub (alignedTo 4096))
    | 0x6200, 6 => some (setIf idx sub (alignedTo 4096))
    | 0x6200, 7 => some (setIf idx sub fun _ v => 2 ^ v.log2 == v)
    | 0x6200, 9 => some (setEffect idx sub)
    | 0x6200, _ => some fun _ _ s => done s
    | 0x6310, 2 => some scrubEffect
    | 0x6320, 0xC => some (clearEffect ((List.range 6).map fun k => (0x6320, k + 1)))
    | _, _ => none

/-- Objects from 7000 to 8FFF. -/
def effectD (idx sub : Nat) : Option Effect :=
  if 0x8040 ≤ idx ∧ idx < 0x8080 then some (bindEffect (idx - 0x8040))
  else
    match idx, sub with
    | 0x7000, 1 => some capEffect
    | 0x7010, 2 => some quartersEffect
    | 0x7020, _ => some (voltageEffect sub)
    | 0x7030, 4 => some forgetEffect
    | 0x8020, _ => some (thresholdEffect sub)
    | 0x8030, 1 => some windowEffect
    | 0x8300, 1 => some classMaskEffect
    | 0x8300, 8 => some traceRestartEffect
    | 0x8300, 9 => some (setIf idx sub (alignedTo 4096))
    | 0x8300, 0xC => some traceExportEffect
    | _, _ => none

/-- Objects from 9000 to AFFF. -/
def effectE (idx sub : Nat) : Option Effect :=
  if 0x9040 ≤ idx ∧ idx < 0x9058 then some (rekeyEffect (idx - 0x9040))
  else
    match idx, sub with
    | 0x9020, 1 => some (startEffect 0x9020 1)
    | 0x9060, 1 => some (nvIf idx sub fun _ _ => true)
    | 0x9070, 2 => some installEffect
    | 0x9070, 3 => some keyClearEffect
    | 0x9080, 1 => some releaseEffect
    | 0x9080, 7 => some installReleaseEffect
    | 0x9080, 8 => some discardEffect
    | 0xA000, 1 => some loadEffect
    | 0xA000, 2 => some (setIf idx sub (alignedTo 4096))
    | 0xA000, 5 => some restartEffect
    | 0xA020, 3 => some failedCountEffect
    | 0xA020, 4 => some resumeEffect
    | _, _ => none

/-- Objects from B000 on. -/
def effectF (idx sub : Nat) : Option Effect :=
  match idx, sub with
  | 0xB010, 2 => some pairLinkEffect
  | 0xB010, 0xB => some partnerExportEffect
  | 0xB030, 0x1F => some (setIf idx sub fun s v => decide (v ≤ s.reg 0xB030 0x20) && decide (s.reg 0xB030 0x21 ≤ v))
  | 0xB030, 0x20 => some (setIf idx sub fun s v => decide (s.reg 0xB030 0x1F ≤ v))
  | 0xB030, 0x21 => some (setIf idx sub fun s v => decide (v ≤ s.reg 0xB030 0x1F))
  | 0xB040, 2 => some (setIf idx sub fun s v => decide (48 * s.reg 0xB040 3 ≤ v))
  | 0xB040, 3 => some (setIf idx sub fun s v => decide (48 * v ≤ s.reg 0xB040 2))
  | 0xB100, 3 => some acknowledgeEffect
  | 0xB100, 6 => some (setIf idx sub (alignedTo 4096))
  | 0xB100, 9 => some journalExportEffect
  | 0xB110, 1 => some lockstepEffect
  | 0xB110, 7 => some lockClearEffect
  | 0xB130, 2 => some (setIf idx sub (alignedTo 256))
  | 0xB130, 3 => some (setIf idx sub fun _ v => v % 256 == 0 && decide (256 ≤ v))
  | 0xB130, 4 => some regionEffect
  | 0xB140, 9 => some excClearEffect
  | 0xF000, 2 => some loopbackEffect
  | _, _ => none

/-- The rule of a sub-index: its own where a chapter gives one, else the value is set. -/
def effectOf (idx sub : Nat) : Effect :=
  let e :=
    if idx < 0x3000 then effectA idx sub
    else if idx < 0x5000 then effectB idx sub
    else if idx < 0x7000 then effectC idx sub
    else if idx < 0x9000 then effectD idx sub
    else if idx < 0xB000 then effectE idx sub
    else effectF idx sub
  e.getD (setEffect idx sub)

/-! ### Changes deferred to a boundary (R31) -/

/-- What takes effect at a slot boundary (R214). -/
def State.slotSettings (s : State) : State :=
  { s with xbar := { s.xbar with combStore := s.reg 0x6030 1, combAtomic := s.reg 0x6030 2 } }

/-- What takes effect at a span boundary (R103, R188, R529 to R531). -/
def State.spanSettings (s : State) : State :=
  s.applyThresholds.applyWindow.applyBinds.applyRoutes.applyBarriers

/-- While the counter is stopped no boundary comes: deferred changes take effect when they are made (R31). -/
def State.applyNow (s : State) : State := if s.clock.running then s else s.slotSettings.spanSettings

/-! ### Writes on a route -/

/-- A write of a sub-index on a route: its status and its step token. -/
def State.dictWrite (s : State) (r : Route) (idx sub : Nat) (v : Bytes) : State × Nat × Nat :=
  let x := s.writeWith r idx sub v (effectOf idx sub)
  (x.1.applyNow, x.2)

/-- DICTIONARY_WRITE: a write to a sub-index without a row of its own (R373 to R378). -/
def execDictionaryWrite (r : Route) (idx : BitVec 16) (sub : BitVec 8) (v : Bytes) (s : State) : Out :=
  .next (s.rowWrite r idx.toNat sub.toNat v (effectOf idx.toNat sub.toNat)).applyNow.startIfDue

/-- RESTORE (R385). -/
def execRestore (r : Route) (v : Bytes) (s : State) : Out := .next (s.rowWrite r 0x2000 4 v (startEffect 0x2000 4))

end Sys2Proof.Machine
end

