-- ==== Sys2Proof/Machine/Clocks.lean ====
section
/-! DEFINITION. The reference inputs, the span counter and its boundaries, the thermal trip and a core's return
(01 R18, R30, R31, 02 R36, R51 to R56, 05 R177, 07 R252, 09 R299, R301, 13 R419, R422, 15 R471, 16 R496, 18 R538 to R541). -/

namespace Sys2Proof.Machine

open Sys2Proof

/-! ### The reference inputs (R30, R31) -/

/-- The counter stops: unaligned, and what waited for a boundary takes effect (R31). -/
def State.stopCounter (s : State) : State :=
  if s.clock.running then
    { s with clock := { s.clock with
        running := false, align := 0, startPending := none, mark := none, wasLost := false, marking := false, offsets := [], departures := [],
        slackNow := [] } }.applyNow
  else s

/-- Report a lost reference input. -/
def State.refFault (s : State) (b : Bool) : State := if s.awake then s.fault 0x01 0 0 St.ok (b2n b) 2 else s

/-- Both inputs are invalid: every link is fenced and the counter stops. -/
def State.bothLost (s : State) : State :=
  if s.awake then ((List.range 24).foldl (fun s n => s.fenceLink n 6 false) s).stopCounter else s.stopCounter

/-- REFCLK_LOST (R30, R554): REFCLK_A, or with `b` REFCLK_B, becomes invalid. -/
def execRefclkLost (b : Bool) (s : State) : Out :=
  .next (
    if !(if b then s.clock.refB else s.clock.refA) then s
    else
      let s := s.refFault b
      let s := { s with clock :=
        if b then { s.clock with refB := false, onB := false }
        else { s.clock with refA := false, onB := s.clock.refB } }
      if s.clock.refA || s.clock.refB then s else s.bothLost)

/-- REFCLK_BOTH_LOST (R31). -/
def execRefclkBothLost (s : State) : Out :=
  .next (
    let s := if s.clock.refA then s.refFault false else s
    let s := if s.clock.refB then s.refFault true else s
    { s with clock := { s.clock with refA := false, refB := false, onB := false } }.bothLost)

/-- REFCLK_RESTORED (R30, R31, R36): a stopped counter starts again from 0, unaligned; after a thermal trip it stays stopped
until power has been removed (R471). -/
def execRefclkRestored (b : Bool) (s : State) : Out :=
  .next (
    let c := if b then { s.clock with refB := true } else { s.clock with refA := true }
    let s := { s with clock := { c with onB := !c.refA && c.refB } }
    if !s.clock.running ∧ s.awake ∧ !s.boot.thermtrip then
      { s with clock := { s.clock with running := true, span := 0, slot := 0, align := 0 } }
    else s)

/-! ### The thermal trip (R471) -/

/-- THERMAL_TRIP: a sensor reads its trip limit or more, in 1/16 °C. -/
def execThermalTrip (sensor : Fin 112) (reading : Int) (s : State) : Out :=
  .next (
    let trips := match tripAt sensor.val with
      | some l => decide (l ≤ reading)
      | none => false
    if !s.boot.pd00 ∨ s.boot.thermtrip ∨ !trips then s
    else
      let span := s.stampSpan
      let s := { s with boot := { s.boot with thermtrip := true } }.emit (.pin "THERMTRIP_N" false)
      let s := ((List.range 24).foldl (fun s n => s.darkLink n false) s).stopCounter
      (s.writeNv 0x7040 7 (sensor.val + put (ofSigned 16 reading) 31 16 + put span 95 32)).1)

/-! ### Slot boundaries (R116, R214, R529) -/

/-- The colour-marker buckets fill by an equal part of CIR and PIR and stay within CBS and PBS. -/
def State.fillBuckets (s : State) : State :=
  let n := s.slots
  { s with xbar := { s.xbar with buckets := s.xbar.buckets.map fun (e : Nat × Nat × Nat) =>
    let r (k : Nat) : Nat := s.reg (0x3100 + e.1) k
    (e.1, (min (e.2.1 + r 1) (r 3 * n), min (e.2.2 + r 2) (r 4 * n))) } }

/-- What every slot boundary does: occupancies are counted for the slot that ends, buckets fill, settings take effect. -/
def State.slotEdge (s : State) : State := ((s.countThresholds s.slotLen).fillBuckets).slotSettings

/-- SLOT_BOUNDARY (R36, R116, R214): a boundary inside the span. -/
def execSlotBoundary (s : State) : Out :=
  .next (
    if s.clock.running ∧ s.clock.slot + 1 < s.slots then
      let s := s.slotEdge
      { s with clock := { s.clock with slot := s.clock.slot + 1 } }
    else s)

/-! ### What a span that ends has carried (R294, R314, R536, R541) -/

/-- SAMPLE records of n positions from a grain counter on, one where the counter is a multiple of 2^SAMPLE_LOG2. -/
def State.sampleSpan (s : State) (p : Nat) (tx : Bool) (pat : List Nat) (c0 n : Nat) : State :=
  let k := 2 ^ s.reg 0x8300 2
  let first := ceilDiv c0 k * k
  ((List.range (n / k + 1)).map fun i => first + i * k).foldl (fun s (c : Nat) =>
    if c < c0 + n then
      let i := c - c0
      s.traceAt s.clock.span (8 * (i / pat.length) + pat.getD (i % pat.length) 0) 0 (if tx then 1 else 2) p none
        (s.link (linkOf p)).peerEp c
    else s) s

/-- Positions of one direction of a port over the span that ends: the grain counter, the idle tallies and the samples. -/
def State.countDirection (s : State) (p : Nat) (tx : Bool) : State :=
  let x := s.port p
  if !holdsKeys (if tx then x.state else x.rx) then s
  else
    let phase := if tx then 0 else ((tget s.clock.offsets (linkOf p) 0) % 8).toNat
    let pat := framePattern (s.isHalf p) (if tx then x.lostTx.isSome else x.lostRx.isSome) phase
    let n := s.spanLen / 8 * pat.length
    let idle := n - (if tx then x.txSpan else x.rxSpan)
    let s := s.sampleSpan p tx pat (if tx then x.txCount else x.rxCount) n
    let s := s.portTally p (if tx then 16 else 17) idle
    let s := if tx then s.light (linkOf p) 2 idle else s
    s.modPort p fun x => if tx then { x with txCount := x.txCount + n, txSpan := 0 } else { x with rxCount := x.rxCount + n, rxSpan := 0 }

/-- Both directions of every port. -/
def State.countPositions (s : State) : State :=
  (List.range 48).foldl (fun s p => (s.countDirection p true).countDirection p false) s

/-! ### The end and the beginning of a span -/

/-- The scramblers of a link's data lanes run on for a span: each lane carries 296 coded bits in a grain time (R291, R293). -/
def State.runScramblers (s : State) : State :=
  let on (t : Tab Nat) : Tab Nat := t.map fun e => (e.1, scramblerAfter e.2 (296 * s.spanLen))
  { s with links := s.links.map fun e => (e.1, { e.2 with scramTx := on e.2.scramTx, scramRx := on e.2.scramRx }) }

/-- The minimum slack of the span that has just closed (R18).  DESIGN CHOICE (log 169): a quarter whose gates passed no grain
in the span shows 32. -/
def State.closeSlack (s : State) : State :=
  let s' := (List.range 4).foldl (fun (t : State) q => t.setReg 0x4030 (1 + q) (tget s.clock.slackNow q 32)) s
  { s' with clock := { s'.clock with slackNow := [] } }

/-- A leaf's MISMATCH_NOTE of the span that ends, to the anchor (R177). -/
def State.sendNotes (s : State) : State :=
  (List.range 32).foldl (fun s k =>
    let c := s.ctx k
    if c.state = 0 ∨ c.noted.isEmpty then s
    else
      let s := s.modCtx k fun c => { c with noted := [] }
      s.tell (c.roster.devices.getD 0 (0x3FFF, 0)).1 (dPart c.desc) 1 0x27
        (ctxBody c.desc ++ natLe 2 c.noted.length ++ c.noted.flatMap (natLe 2))) s

/-- LOWERED_SPANS 7000:09. -/
def State.countLowered (s : State) : State :=
  let s := if s.power.lowered then s.addReg 0x7000 9 64 1 else s
  ({ s with power := { s.power with lowered := false } }).noteLowered

/-- The end of a span (R18, R177, R496, R517, Table 16.7). -/
def State.endSpan (s : State) : State :=
  let s := (s.countPositions.runScramblers.closeSlack.sendNotes.sendDigests).countLowered
  { s with
    faults := { s.faults with bucket := min 500000000 (s.faults.bucket + 3 * s.spanLen) },
    exc := { s.exc with wait := s.exc.wait - 1 } }

/-- The counter on the edge: the master's ALIGN_START value, or one more (R36, R52). -/
def State.countSpan (s : State) : State :=
  match s.clock.startPending with
  | some v => { s with clock := { s.clock with startPending := none } }.becomeAligned v
  | none => { s with clock := { s.clock with span := s.clock.span + 1, slot := 0 } }

/-- Span markers on every link that runs: with ALIGNED 1 while ALIGN_STATE is 2, with ALIGNED 0 while a device that
has been aligned is not (R52, R53, R56, R299, log 163). -/
def State.sendMarkers (s : State) : State :=
  if s.clock.align = 2 ∨ s.clock.align = 3 ∨ s.clock.marking then
    (List.range 24).foldl (fun s n =>
      if (s.portsOf n).any s.sendsCredit then s.token (2 * n) "SpanMarker" (put (b2n (s.clock.align == 2)) 71 71 + put s.clock.span 63 0) else s) s
  else s

/-- At least once per span a credit token for every open channel (R301). -/
def State.sendCredits (s : State) : State :=
  (List.range 48).foldl (fun s p =>
    if s.sendsCredit p then
      creditVcs.foldl (fun s vc => s.token p "Credit" (creditFields (b2n (s.isHalf p && p % 2 == 1)) vc (tget (s.port p).freedHere vc 0))) s
    else s) s

/-- Trace of the instances that begin with the span (Table 18.9). -/
def State.traceStarts (s : State) : State :=
  (s.board.ctxs.filter fun e => e.2.state == 2 && dFirst e.2.desc == s.clock.span).foldl (fun s (e : Nat × Context) =>
    let d := e.2.desc
    s.trace 1 3 0x3F (some (dPart d)) e.1 (put (dFirst d) 63 0 + put (dOperator d) 95 64 + put (dLayer d) 111 96)) s

/-- The beginning of a span: on lane C the marker, then the urgent NACKs, then credits (R299). -/
def State.beginSpan (s : State) : State :=
  let s := s.countSpan.spanSettings.sendMarkers
  let s := ({ s with ep := s.ep.stopInsts s.clock.span }).repeatLacks .internal
  s.sendCredits.traceStarts.sendBeat.mirrorJournal

/-- The credit tokens that an accelerator's end-point sends in each span, on each side that runs (R258, R301). -/
def State.faetteCredits (s : State) : State :=
  s.faette.sideUp.foldl (fun s k =>
    creditVcs.foldl (fun s vc => s.putToken (64 + k) "Credit" (creditFields 0 vc (tget s.faette.freedHere (8 * k + vc) 0))) s) s

/-- At the named boundaries the sides of an accelerator's end-point go on without their lost lanes (R313). -/
def EndPoint.switchLanes (e : EndPoint) : EndPoint :=
  let now := e.laneTx.filter fun x => decide (x.2.span ≤ e.span)
  { e with laneTx := e.laneTx.filter fun x => decide (e.span < x.2.span),
           lostTx := now.foldl (fun t x => tset t x.1 x.2.what) e.lostTx }

/-- The accelerator's end-point counts its own spans, of the same length (R232). -/
def State.faetteSpan (s : State) : State :=
  (({ s with faette := ({ s.faette with span := s.faette.span + 1 }.stopInsts (s.faette.span + 1)).switchLanes }).repeatLacks
    .faette).faetteCredits

/-- SPAN_BOUNDARY (R36, R52, R103, R188, R299, R301, R529, R531). -/
def execSpanBoundary (s : State) : Out :=
  .next (if s.clock.running then (s.endSpan.slotEdge.beginSpan).faetteSpan else s.faetteSpan)

/-- EP_SCHEDULE_ACTIVATION (R252). -/
def execEpScheduleActivation (w : EpSel) (s : State) : Out := .next (s.epActivate w)

/-! ### A core comes back (R419, R422, R449, R540) -/

/-- Events that waited for core T are folded. -/
def State.foldWaiting (s : State) : State :=
  let l := s.faults.waiting
  let s := { s with faults := { s.faults with waiting := [] } }
  l.foldl (fun s f => s.foldNow (s.resumeEvent f)) s

/-- Completion records that core A owes are sent and written to 5050. -/
def State.giveOwed (s : State) : State :=
  let l := s.board.owed
  let s := { s with board := { s.board with owed := [] } }
  l.foldl (fun s (o : Owed) => s.giveNow o.desc o.record o.status o.endSpan o.ring) s

/-- CORE_READY. -/
def execCoreReady (k : Fin 6) (s : State) : Out :=
  .next (
    if (s.core k.val).state ≠ 2 then s
    else
      let s := { s with boot := { s.boot with cores := tset s.boot.cores k.val { s.core k.val with state := 1 } } }
      if k.val = 2 then s.resumeKeys else if k.val = 3 then s.giveOwed else if k.val = 4 then s.foldWaiting else s)

end Sys2Proof.Machine
end

