-- ==== Sys2Proof/Machine/Gates.lean ====
section
/-! DEFINITION. What leaves the egresses: open grains, gate releases of scheduled grains, ageing (02 R14, R71, R72, 08 R286,
03 R119), and the OK of a reduction whose last RESULT grain is out (05 R184). -/

namespace Sys2Proof.Machine

open Sys2Proof

/-- A RESULT grain of the device is out: its instance may end (R184). -/
def State.afterResult (s : State) (g : Grain) : State :=
  if s.isOwnResult g.context g then s.finishReduction g.context else s

/-- The next maintenance grain of a test (R93, R320, Table 3.8), and the test after it: its pattern goes on from grain to grain. -/
def State.testGrain (s : State) (t : LinkTest) : Grain × LinkTest :=
  let x := testPattern t.kind (t.lfsr.getD (Config.patternStart t.kind))
  let g : Grain := {
    vc := 7
    op := BitVec.ofNat 4 (t.kind - 1)
    src := BitVec.ofNat 14 s.ownEp
    body := BitVec.ofNat 112 (put t.mask 111 104 + put t.count 103 72)
    payload := BitVec.ofNat 2048 x.1 }
  (g.seal s.clock.span, { t with
    count := t.count + 1
    lfsr := some x.2 })

/-- A grain position of a link that carries nothing else: a maintenance grain where a test holds its slot, else an idle grain
(R93, R294, R320). -/
def State.fillPosition (s : State) (p offset : Nat) : State :=
  let tests := (s.link (linkOf p)).tests
  let held := (s.slotClass s.clock.span p true s.clock.slot).1 == 2
  match tests.find? (fun t => held && s.holdsNow t true) with
  | some t =>
    let x := s.testGrain t
    (s.modLink (linkOf p) fun l => { l with tests := lmodFirst l.tests (· == t) fun _ => x.2 }).sendOut p x.1 s.clock.span offset
  | none =>
    if p < 48 then s.emit (.grain p idleGrain s.clock.span offset (s.wire p idleGrain s.clock.span offset)) else s

/-- OPEN_EGRESS_DEPARTURE (R286, R294): egress p at one grain offset of the running slot. -/
def execOpenEgressDeparture (p : Port) (offset : Nat) (s : State) : Out :=
  .next (
    if !s.portUp p.val then
      -- R114: what waits for a dark, fenced or spare port is answered with TARGET_LOST; SPARE carries idle and maintenance grains
      let s := match s.xbar.ready.find? (fun g => g.outPort == p.val) with
        | some g => (s.takeReady g).refuseGrain g.grain St.targetLost
        | none => s
      if (s.port p.val).state = 9 ∧ s.canCarry p.val offset then s.fillPosition p.val offset else s
    else if !s.canCarry p.val offset ∨ s.timeTaken p.val offset then s
    else
      match s.chooseGrain p.val s.clock.slot offset with
      | none => s.fillPosition p.val offset
      | some (g, v) =>
        let pushed := s.xbar.pushOpen.find? (isPushed g)
        let s := (s.leaveTile (s.grainTime offset) g).takeReady g
        let s := { s with xbar := { s.xbar with serve := tset s.xbar.serve p.val { v with sent := v.sent + 1 } } }
        if s.aged g.grain then (s.discardAged p.val g.grain).afterResult g.grain
        else
          (match pushed with
          | some c => s.sendPushed c offset
          | none => (s.useCredit p.val g.grain.vc.toNat).sendOut p.val g.grain s.clock.span offset).afterResult g.grain)

/-- GATE_RELEASE (R14): the gate of quarter q, at a stage of Table 2.13, releases the earliest claimed grain of a port,
`late` grain times after its claim, or with a slack in 1/32 grain time. -/
def execGateRelease (q : Quarter) (stage : Fin 6) (p : Port) (late : Nat) (slack : Fin 33) (s : State) : Out :=
  .next (match s.xbar.claims.find? (fun c => c.port == p.val) with
    | none => s
    | some c =>
      (({ s with xbar := { s.xbar with claims := s.xbar.claims.erase c } }).release5 q.val stage.val c late slack.val).afterResult
        c.grain)

/-! ### Ageing (R119, R120) -/

/-- AGEING_SWEEP (R119): every buffered grain is checked. -/
def execAgeingSweep (s : State) : Out :=
  .next (
    let old := s.xbar.waiting.filter fun g => s.aged g.grain
    let ready := s.xbar.ready.filter fun g => s.aged g.grain
    let pushed := s.xbar.pushOpen.filter fun c => s.aged c.grain
    let claims := s.xbar.claims.filter fun c => s.aged c.grain
    let tiles := s.xbar.reseq.flatMap fun e => e.2.filter fun x => match x.grain with | some g => s.aged g | none => false
    let keep (g : OpenGrain) : Bool := !s.aged g.grain
    let mark (x : ReseqEntry) : ReseqEntry :=
      match x.grain with
      | some g => if s.aged g then { x with grain := none } else x
      | none => x
    let t := { s with xbar := { s.xbar with
      waiting := s.xbar.waiting.filter keep, ready := s.xbar.ready.filter keep, pushOpen := s.xbar.pushOpen.filter (fun c => !s.aged c.grain),
      claims := s.xbar.claims.filter (fun c => !s.aged c.grain), reseq := s.xbar.reseq.map (fun e => (e.1, e.2.map mark)) } }
    let t := old.foldl (fun t g => (t.discardAged g.inPort g.grain).freeInput g.inPort g.grain.vc.toNat) t
    let t := tiles.foldl (fun t x => t.discardAged x.inPort (x.grain.getD {})) t
    let t := ready.foldl (fun t g => t.discardAged g.inPort g.grain) t
    (pushed ++ claims).foldl (fun t c => (t.discardAged c.port c.grain).afterResult c.grain) t)

end Sys2Proof.Machine
end

