-- ==== Sys2Proof/Machine/Messages.lean ====
section
/-! DEFINITION. The management port, and dictionary messages on it, on VC6 and at an end-point's agent (12 R386 to R395). -/

namespace Sys2Proof.Machine

open Sys2Proof

/-! ### The management port (R386) -/

/-- Octet k of the MAC address. -/
def macOctet (k : Nat) : Byte := BitVec.ofNat 8 (Config.mac.toNat / 2 ^ (8 * k))

/-- The IPv6 link-local address, formed by EUI-64. -/
def linkLocal : Nat :=
  leNat ([0xFE, 0x80, 0, 0, 0, 0, 0, 0, macOctet 0 ^^^ 2, macOctet 1, macOctet 2, 0xFF, 0xFE] ++ [macOctet 3, macOctet 4, macOctet 5])

/-- An IP address of the port, as its settings in force give it. -/
def State.ownIp (s : State) (v6 : Bool) (a : Nat) : Bool :=
  if v6 then a == linkLocal || (a == s.inForce 0x2040 3 && a != 0) else a == s.inForce 0x2040 1 && a != 0

/-- The tag of a frame is the one that VLAN 2040:06 asks for. -/
def State.tagged (s : State) (f : Frame) : Bool :=
  let v := s.inForce 0x2040 6
  f.vlan == (if bit v 15 then some (BitVec.ofNat 12 v) else none)

/-- A frame comes in; the result says whether it is one that the port serves.  One for another station is no frame of this
port. -/
def State.takeFrame (s : State) (f : Frame) : State × Bool :=
  if !s.awake ∨ s.mgmt.port ≠ 3 ∨ (f.toMac ≠ Config.mac ∧ f.toMac.toNat % 2 = 0) then (s, false)
  else
    let s := s.addReg 0xA110 2 64 1
    if f.odd ∨ !s.tagged f ∨ (if f.vlan.isSome then 1522 else 1518) < f.size then (s.addReg 0xA110 4 64 1, false)
    else (s, s.ownIp f.v6 f.dst.toNat)

/-- Answer a frame: to the addresses and the port that it came from. -/
def State.sendFrame (s : State) (kind : String) (f : Frame) (data : Bytes) : State :=
  s.emit (.frame kind f.fromMac.toNat f.v6 f.src.toNat f.srcPort.toNat data)

/-- ARP_REQUEST (R386): the MAC address is the answer. -/
def execArpRequest (f : Frame) (s : State) : Out :=
  .next (
    let x := s.takeFrame { f with v6 := false }
    if x.2 then x.1.sendFrame "ARP" { f with v6 := false } (natLe 6 Config.mac.toNat) else x.1)

/-- NEIGHBOR_SOLICITATION (R386). -/
def execNeighborSolicitation (f : Frame) (s : State) : Out :=
  .next (
    let x := s.takeFrame { f with v6 := true }
    if x.2 then x.1.sendFrame "NEIGHBOR" { f with v6 := true } (natLe 6 Config.mac.toNat) else x.1)

/-- ECHO_REQUEST (R386): ICMP or ICMPv6; the data goes back. -/
def execEchoRequest (f : Frame) (s : State) : Out :=
  .next (
    let x := s.takeFrame f
    if x.2 then x.1.sendFrame "ECHO" f f.data else x.1)

/-- MANAGEMENT_PORT_LINK (R386, A110:01): 0 no light, 1 no sync, 2 auto-negotiating, 3 up.  The port is down while its optical
engine is without laser light or stopped (R32, R472). -/
def execManagementPortLink (state : Fin 4) (s : State) : Out :=
  .next (
    if !s.awake ∨ (!s.host.laser0 ∧ !s.host.laser1) ∨ s.host.hot then s
    else { s with mgmt := { s.mgmt with port := state.val } })

/-! ### Staging and kept answers (R389, R390) -/

/-- STAGING_IDLE_TIMEOUT (R389). -/
def execStagingIdleTimeout (who : Asker) (s : State) : Out :=
  .next { s with mgmt := { s.mgmt with staging := s.mgmt.staging.filter fun x => x.who != who } }

/-- ANSWER_CACHE_EXPIRY (R390): an answer of 2 s ago. -/
def execAnswerCacheExpiry (who : Asker) (seq : BitVec 32) (s : State) : Out :=
  .next { s with mgmt := { s.mgmt with kept := s.mgmt.kept.filter fun x => !(x.who == who && x.seq == seq.toNat) } }

/-- Keep an answer; of more than 64 of one requester the oldest goes. -/
def State.keepAnswer (s : State) (who : Asker) (seq : Nat) (d : Bytes) : State :=
  let mine := s.mgmt.kept.filter fun x => x.who == who
  let drop := if mine.length < 64 then none else mine.head?.map (·.seq)
  let kept := s.mgmt.kept.filter fun x => !(x.who == who && (some x.seq == drop || x.seq == seq))
  { s with mgmt := { s.mgmt with kept := kept ++ [Kept.mk who seq d] } }

/-! ### Objects of an end-point's agent (R262, R395) -/

/-- An engine request of the Faette is outstanding, a fence among them. -/
def State.faetteBusy (s : State) : Bool :=
  s.faette.transfers.any (fun t => !t.answered) || !s.faette.waitTrans.isEmpty || !s.faette.fences.isEmpty

/-- Value of a sub-index of a Faette. -/
def State.faetteValue (s : State) (idx sub : Nat) : Nat :=
  match idx, sub with
  | 0x4000, 1 => s.faette.span
  | 0x4000, 4 => s.faette.align
  | 0x4060, 1 => b2n (s.stepRuns (schedStep .faette) 1)
  | 0x6200, 1 => s.faette.id
  | 0x6200, 2 => s.faette.parent
  | 0x6200, 0xD => s.faette.copiesHeld
  | _, _ => s.epReg .faette idx sub

/-- The home table lies 0x0100_0000 above BINDING_BASE (R277). -/
def State.placeTable (s : State) : State :=
  s.modHome .faette fun h => { h with tableAt := some (s.epReg .faette 0x6200 4 + 0x1000000) }

/-- The partition that the end-point's own host software has named for management; that naming is no command of this table, so
whether and when it happens is a free input (R395, log 83). -/
def State.faetteManager (s : State) : Option Nat := s.faette.mgmtPart.orElse fun _ => Config.mgmtNamed s.faette.span

def setFaette (idx sub : Nat) (ok : State → Nat → Bool) : Effect := fun _ v s =>
  if ok s (leNat v) then done (s.setEpReg .faette idx sub (leNat v)) else refuse s St.valueRefused

/-- The rule of a writable sub-index of a Faette. -/
def faetteEffect (idx sub : Nat) : Effect :=
  match idx, sub with
  | 0x4060, 1 => epScheduleEffect .faette
  | 0x4060, 2 => setFaette idx sub (alignedTo 4096)
  | 0x4060, 7 => epCancelEffect .faette
  | 0x6200, 4 => fun r v s =>
    let x := setFaette idx sub (fun s v => !s.faetteBusy && v % 4096 == 0) r v s
    (x.1.placeTable, x.2)
  | 0x6200, 7 => setFaette idx sub fun s v => !s.faetteBusy && 2 ^ v.log2 == v
  | 0x6200, 9 => setFaette idx sub fun _ _ => true
  | 0x6200, 0xB => flushEffect
  | 0x6200, _ => setFaette idx sub fun s v => !s.faetteBusy && v % 4096 == 0
  | _, _ => setFaette idx sub fun _ _ => true

/-- COUNT of an object that a Faette serves: of 3080 it serves the first three sub-indices. -/
def faetteCount (idx : Nat) : Nat := if idx = 0x3080 then 3 else objCount idx

/-- A read at a Faette's agent, by any requester. -/
def State.faetteRead (s : State) (idx sub : Nat) : State × Nat × Bytes :=
  match faetteCheck idx sub false [] with
  | some st => if st = St.ok then (s, St.ok, natLe 1 (faetteCount idx)) else (s, st, [])
  | none =>
    let s' := if idx = 0x4000 ∧ sub = 1 then s.setEpReg .faette 0x4000 8 s.offsetNow else s
    (s', St.ok, natLe ((findObj idx sub).getD default).size (s.faetteValue idx sub))

/-- A write at a Faette's agent: only from the partition named for management. -/
def State.faetteWrite (s : State) (r : Route) (idx sub : Nat) (v : Bytes) : State × Nat × Nat :=
  if !faetteServes idx sub then (s, St.objectUnknown, 0)
  else if s.faetteManager ≠ some (Route.partNo r) then (s, St.contextDenied, 0)
  else
    match faetteCheck idx sub true v with
    | some st => (s, st, 0)
    | none => faetteEffect idx sub r v s

/-! ### Description records (R391, Table 12.8) -/

/-- The index is in the Partition p set. -/
def inPartSet (idx : Nat) : Bool :=
  openReach idx 1 false || idx == 0x1030 || idx == 0x4000 || (decide (0x6100 ≤ idx) && decide (idx < 0x6140)) ||
  (decide (0x8100 ≤ idx) && decide (idx < 0x8140)) || idx == 0x6010 || idx == 0x6020 || idx == 0x9080

/-- The record of a sub-index, with the COUNT that sub-index 00 holds. -/
def description (v : Variant) (idx sub : Nat) (count : Nat := objCount idx) : Bytes :=
  let flags := put (b2n (inPartSet idx)) 33 33 + put (b2n (decide (0xF000 ≤ idx))) 34 34
  match findObj idx sub with
  | none => natLe 16 (1 + put 1 31 16 + flags + put count 127 64)
  | some o =>
    natLe 16 (put o.typ 7 0 + put o.acc 15 8 + put o.size 31 16 + put (b2n (o.acc == 2)) 32 32 + flags
      + put (if o.size ≤ 8 then regDefault v idx sub else 0) 127 64)

/-- DESCRIBE at a Faette's agent: what it serves, with the COUNT that it reads there. -/
def faetteDescribe (v : Variant) (idx sub : Nat) : Nat × Bytes :=
  if faetteServes idx sub && (sub == 0 || (findObj idx sub).isSome) then
    (St.ok, description v idx sub (faetteCount idx))
  else (St.objectUnknown, [])

/-- DESCRIBE on a route of the device: refused under the first four checks only. -/
def State.describe (s : State) (r : Route) (idx sub : Nat) : Nat × Bytes :=
  match s.receiver r with
  | some st => (st, [])
  | none =>
    match s.checkName r idx sub false 0 with
    | none => (St.ok, description s.boot.variant idx sub)
    | some st =>
      if st = St.contextDenied ∧ ((s.checkName r idx sub true 0).isNone ∨
          ((Route.fnNo r = 0x81 ∨ (0 < Route.fnNo r ∧ Route.fnNo r < 65)) ∧ (idx = 0x6010 ∨ idx = 0x6020 ∨ idx = 0x9080))) then (St.ok, description s.boot.variant idx sub)
      else (st, [])

/-! ### Step queries (R394) -/

/-- A token's state in a table: STEP_PENDING, its final status, or forgotten. -/
def State.queryToken (s : State) (f part tok : Nat) (byPart : Bool) : Nat × Bytes :=
  if fld tok 63 56 ≠ f % 256 then (St.contextDenied, [])
  else
    match (s.tokenTable f).held.find? (fun t => t.serial == fld tok 31 0 && t.idx % 2 ^ 16 == fld tok 55 40 && t.sub == fld tok 39 32) with
    | none => (St.ok, [1])
    | some t => if byPart && t.part != part then (St.contextDenied, []) else (t.done.getD St.stepPending, [0])

/-! ### Serving a message (R388, R389) -/

/-- What a message is served with: its target's objects, its route, its requester and the limit of a body. -/
structure Serving where
  w : EpSel := .internal
  r : Route := .mgmtOpen
  who : Asker := default
  limit : Nat := 1024

/-- A write of a whole value. -/
def State.messageWrite (s : State) (v : Serving) (m : DictMsg) (data : Bytes) : State × DictMsg :=
  let x := match v.w with
    | .internal => s.dictWrite v.r m.idx m.sub data
    | .faette => s.faetteWrite v.r m.idx m.sub data
  (x.1, { m with status := x.2.1, body := if x.2.1 = St.stepPending then natLe 8 x.2.2 else [] })

/-- READ. -/
def State.messageRead (s : State) (v : Serving) (m : DictMsg) : State × DictMsg :=
  let x := match v.w with
    | .internal => s.dictRead v.r m.idx m.sub 0
    | .faette => s.faetteRead m.idx m.sub
  if x.2.1 = St.ok then
    (x.1, { m with status := St.ok, total := x.2.2.length, body := (x.2.2.drop m.offset).take v.limit })
  else (x.1, { m with status := x.2.1 })

/-- WRITE: in one part, or staged in parts. -/
def State.messageStage (s : State) (v : Serving) (m : DictMsg) : State × DictMsg :=
  let staging := s.mgmt.staging
  let old := (staging.find? fun x => x.who == v.who).getD { who := v.who, idx := m.idx, sub := m.sub, total := m.total }
  let others := staging.filter fun x => x.who != v.who
  let bare := { s with mgmt := { s.mgmt with staging := others } }
  let data := old.data ++ m.body
  if old.idx ≠ m.idx ∨ old.sub ≠ m.sub ∨ old.total ≠ m.total ∨ old.data.length ≠ m.offset ∨ m.total < data.length ∨
     (m.last ∧ data.length ≠ m.total) then (bare, { m with status := St.bounds })
  else if m.last then bare.messageWrite v m data
  else ({ s with mgmt := { s.mgmt with staging := others ++ [{ old with data }] } }, { m with status := St.ok })

/-- STEP_QUERY. -/
def State.messageQuery (s : State) (v : Serving) (m : DictMsg) : DictMsg :=
  if m.body.length ≠ 8 then { m with status := St.bounds, body := [] }
  else
    let f := match v.w with
      | .internal => Route.fnNo v.r
      | .faette => 0x181
    let byPart := match v.r with
      | .vc6 _ _ => true
      | _ => false
    let x := s.queryToken f (Route.partNo v.r) (leNat m.body) byPart
    { m with status := x.1, body := x.2 }

/-- DESCRIBE. -/
def State.messageDescribe (s : State) (v : Serving) (m : DictMsg) : DictMsg :=
  let x := match v.w with
    | .internal => s.describe v.r m.idx m.sub
    | .faette => faetteDescribe s.boot.variant m.idx m.sub
  { m with status := x.1, body := x.2 }

/-- A message that is not of a listed version and kind. -/
def DictMsg.unlisted (m : DictMsg) : Bool := m.version != 1 || m.kind == 0 || decide (4 < m.kind)

/-- A message is served; what comes back, with the state after. -/
def State.serve (s : State) (v : Serving) (q : DictMsg) : State × DictMsg :=
  let m : DictMsg := { q with
    auth := 0, total := 0, offset := if q.kind = 1 then q.offset else 0, last := false, authOn := false, version := 1, body := [] }
  let x : State × DictMsg :=
    if q.unlisted then (s, { m with status := St.featureNotNegotiated })
    else if q.kind = 1 then s.messageRead v m
    else if q.kind = 2 then
      (match s.receiver v.r with
       | some st => (s, { m with status := st })
       | none =>
         let y := s.messageStage v q
         (y.1, { m with status := y.2.status, body := if y.2.status = St.stepPending then y.2.body else [] }))
    else if q.kind = 3 then (s, s.messageQuery v { m with body := q.body })
    else (s, s.messageDescribe v m)
  let a := if x.2.status ≠ St.ok ∧ x.2.status ≠ St.stepPending ∧ q.kind ≠ 3 then { x.2 with body := [] } else x.2
  (x.1, { a with kind := (q.kind + 0x80) % 256, len := a.body.length })

/-! ### At the management port (R387, R390 to R393) -/

def frameAsker (f : Frame) : Asker := .port f.v6 f.src f.srcPort

/-- The tag of an authenticated request verifies under the management key. -/
def State.tagOk (s : State) (m : DictMsg) (d : Bytes) : Bool :=
  match s.sec.mgmtKey with
  | none => false
  | some k =>
    let h := m.header
    leNat (kmac256 (natLe 32 k) (sliceB h 0 16 ++ natLe 16 0 ++ d.drop 32) 16 (ascii "OBXUS-MGMT")) == m.auth

/-- An authenticated request is accepted: SEQUENCE, and the floor above it (R447). -/
def State.acceptSeq (s : State) (n : Nat) : State :=
  let s := { s with mgmt := { s.mgmt with highSeq := some n } }
  if s.reg 0x9070 4 ≤ n then s.setReg 0x9070 4 (min (n + 65536) 0xFFFFFFFF) else s

/-- SEQUENCE is above that of every request accepted under the key. -/
def State.seqAbove (s : State) (n : Nat) : Bool :=
  match s.mgmt.highSeq with
  | none => true
  | some h => decide (h < n)

/-- A request is served and its answer kept. -/
def State.servePort (s : State) (f : Frame) (r : Route) (q : DictMsg) : State :=
  let x := s.serve { r, who := (frameAsker f) } q
  let d := x.2.bytes
  ((x.1.addReg 0xA110 3 64 1).keepAnswer (frameAsker f) q.seq d).sendFrame "UDP" f d

/-- A datagram to the dictionary port. -/
def State.portMessage (s : State) (f : Frame) (want : Nat) : State :=
  let q := parseDict f.data
  if !q.unlisted && q.kind != want && decide (32 ≤ f.data.length) then s
  else
    let x := s.takeFrame f
    let s := x.1
    if !x.2 ∨ f.dstPort.toNat ≠ s.inForce 0x2040 5 then s
    else if f.data.length < 32 ∨ q.len ≠ q.body.length ∨ 1024 < q.len then s.addReg 0xA110 4 64 1
    else if 64 ≤ f.ahead then s.addReg 0xA110 5 64 1
    else
      let kept := (s.mgmt.kept.find? fun k => k.who == (frameAsker f) && k.seq == q.seq).map (·.datagram)
      if q.authOn && !(s.tagOk q f.data && (kept.isSome || s.seqAbove q.seq)) then s.addReg 0xA110 6 64 1
      else
        match kept with
        | some d => s.sendFrame "UDP" f d
        | none => if q.authOn then (s.acceptSeq q.seq).servePort f .mgmtAuth q else s.servePort f .mgmtOpen q

/-! ### On VC6 (R388, R395, R399) -/

/-- A message in management grains, to the device at TARGET 1 or 2, or to an end-point's agent at TARGET 0. -/
def State.fabricMessage (s : State) (w : EpSel) (m : Msg) (want : Nat) : State :=
  let q := parseDict m.payload
  let mine := match w with
    | .internal => m.target == 1 || m.target == 2
    | .faette => m.target == 0
  if m.kind ≠ 1 ∨ !mine ∨ (!q.unlisted ∧ q.kind ≠ want) then s
  else
    let x := s.takeMsg w m (if q.kind = 2 ∨ q.unlisted then .kept else .reading)
    let s := x.1
    if !x.2 ∨ m.payload.length < 32 ∨ q.len ≠ q.body.length ∨ 4096 < q.len then s
    else
      let stop := if w = .internal ∧ q.kind ≠ 3 then s.coreStop (if m.target = 1 then 2 else 4) else none
      let v : Serving := { w, r := .vc6 ⟨m.part.toNat, m.part.isLt⟩ m.src, who := .fabric w m.src m.part, limit := 4096 }
      let y := match stop with
        | some st => (s, { q with status := st, auth := 0, total := 0, last := false, authOn := false, version := 1, body := [],
                                  kind := (q.kind + 0x80) % 256, len := 0, offset := 0 })
        | none => s.serve v q
      if q.kind = 2 ∨ q.unlisted then y.1.answerMsg w m 1 y.2.bytes else y.1.sendAnswer w m 1 y.2.bytes

/-- A dictionary message of a kind, however it comes; a start that it asked for begins after its answer. -/
def State.dictMessage (s : State) (from_ : DictFrom) (want : Nat) : State :=
  (match from_ with
   | .port f => s.portMessage f want
   | .fabric a m => (s.tookMsg a m).fabricMessage a.ep m want).startIfDue

/-- READ (R389). -/
def execRead (from_ : DictFrom) (s : State) : Out := .next (s.dictMessage from_ 1)

/-- WRITE (R389). -/
def execWrite (from_ : DictFrom) (s : State) : Out := .next (s.dictMessage from_ 2)

/-- STEP_QUERY (R394). -/
def execStepQuery (from_ : DictFrom) (s : State) : Out := .next (s.dictMessage from_ 3)

/-- DESCRIBE (R391). -/
def execDescribe (from_ : DictFrom) (s : State) : Out := .next (s.dictMessage from_ 4)

end Sys2Proof.Machine
end

