-- ==== Sys2Proof/Machine/Rings.lean ====
section
/-! DEFINITION. The rings: registers and doorbells, fetching, the opcodes and their completions (11 R352 to R361, R364). -/

namespace Sys2Proof.Machine

open Sys2Proof

/-! ### A ring's registers (R353, R354) -/

/-- The route of a function. -/
def fnRoute (f : Fn) : Route := if h : f.val = 0 then .pf else .vf ⟨f.val - 1, by omega⟩

/-- The registers describe a ring: bases aligned, sizes powers of two in range, and the CQ no smaller than the SQ. -/
def FnState.ringOk (x : FnState) : Bool :=
  let ok (n : Nat) : Bool := decide (16 ≤ n) && decide (n ≤ 65536) && 2 ^ n.log2 == n
  ok x.sqSize && ok x.cqSize && decide (x.sqSize ≤ x.cqSize) && x.sqBase % 4096 == 0 && x.cqBase % 4096 == 0

/-- A ring goes to state 3 with a cause: 1 SQ_TAIL, 2 DMA, 3 CQ_HEAD (R354, A100:06). -/
def State.ringError (s : State) (f cause : Nat) : State :=
  if (s.fn f).state = 1 ∨ ((s.fn f).state = 2 ∧ (s.fn f).error = 0) then
    (s.modFn f fun x => { x with state := 3, error := cause }).addReg 0xA100 6 32 1
  else s

/-- Set ENABLE: from a disabled ring, or after an error whose held entries are then posted to the same CQ. -/
def State.enableRing (s : State) (f : Nat) : State :=
  let x := s.fn f
  if x.enable ∨ !x.ringOk ∨ !(x.state == 0 || (x.state == 2 && x.error != 0)) then s
  else
    let s := s.setFn f { x with
      enable := true, state := 1, error := 0, sqHead := 0, sqTail := 0, cqHead := 0, cqTail := 0, cqUsed := 0, phase := true,
      posts := [] }
    x.posts.foldl (fun s p => s.post f p.1 p.2.1 p.2.2.1 p.2.2.2.1 p.2.2.2.2) s

/-- Clear ENABLE: the ring drains, and is disabled once no entry is owed. -/
def State.disableRing (s : State) (f : Nat) : State :=
  if (s.fn f).enable then s.modFn f fun x => FnState.drain { x with enable := false, state := 2 } else s

/-- A doorbell write of SQ_TAIL. -/
def State.doorbellSq (s : State) (f v : Nat) : State :=
  let x := s.fn f
  if x.state ≠ 1 ∨ v = x.sqTail then s
  else if x.sqSize ≤ v then s.ringError f 1
  else s.setFn f { x with sqTail := v }

/-- A doorbell write of CQ_HEAD. -/
def State.doorbellCq (s : State) (f v : Nat) : State :=
  let x := s.fn f
  if x.state ≠ 1 ∨ v = x.cqHead then s
  else if x.cqSize ≤ v then s.ringError f 3
  else s.setFn f { x with cqHead := v, cqUsed := x.cqUsed - (v + x.cqSize - x.cqHead) % x.cqSize }

/-- RING_ENABLE (R353). -/
def execRingEnable (f : Fn) (s : State) : Out := .next (if s.fnOffered f.val then s.enableRing f.val else s)

/-- RING_DISABLE (R353). -/
def execRingDisable (f : Fn) (s : State) : Out := .next (if s.fnOffered f.val then s.disableRing f.val else s)

/-- SQ_TAIL (R354). -/
def execSqTail (f : Fn) (v : BitVec 32) (s : State) : Out :=
  .next (if s.fnOffered f.val then s.doorbellSq f.val v.toNat else s)

/-- CQ_HEAD (R354). -/
def execCqHead (f : Fn) (v : BitVec 32) (s : State) : Out :=
  .next (if s.fnOffered f.val then s.doorbellCq f.val v.toNat else s)

/-! ### BAR0 (Tables 11.3 to 11.5, 11.9) -/

/-- Value of a register of n octets at an offset after a write of octets from another offset. -/
def overlay (old at_ n off : Nat) (data : Bytes) : Nat :=
  leNat ((List.range n).map fun i =>
    if off ≤ at_ + i ∧ at_ + i < off + data.length then data.getD (at_ + i - off) 0 else BitVec.ofNat 8 (old / 2 ^ (8 * i)))

/-- The write covers an octet. -/
def coversOctet (at_ off : Nat) (data : Bytes) : Bool := decide (off ≤ at_) && decide (at_ < off + data.length)

/-- Bits of an aperture that a write keeps: RSVD bits read as zero, and PARTITION on a VF is its own (Table 11.9). -/
def apertureMask (f v : Nat) : Nat :=
  let x := v % 8 + put (fld v 127 14) 127 14
  x + put (if f = 0 then fld v 13 8 else f - 1) 13 8

/-- The registers that take effect whenever they are written: EVENT_VECTOR, WINDOW_ERROR and the apertures. -/
def State.writeFnRegs (s : State) (f off : Nat) (data : Bytes) : State :=
  let s := s.modFn f fun x => { x with eventVector := overlay x.eventVector 4 1 off data }
  let s := if coversOctet 0x10 off data && bit (overlay 0 0x10 8 off data) 0 then
      s.modFn f fun x => { x with winErr := 0, winErrOff := 0 }
    else s
  s.modFn f fun x => { x with
    aps := (List.range 16).foldl (fun (t : Tab (BitVec 512)) a =>
      let b := 0x10000 + 64 * a
      if off < b + 64 ∧ b < off + data.length then
        tset t a (BitVec.ofNat 512 (apertureMask f (overlay (tget t a 0).toNat b 64 off data)))
      else t) x.aps }

/-- The ring registers that may be written only while RING_STATE is 0. -/
def FnState.writeRingRegs (x : FnState) (off : Nat) (data : Bytes) : FnState :=
  if x.state ≠ 0 then x
  else
    let p := overlay x.pasid 0x1018 4 off data
    { x with
      sqBase := overlay x.sqBase 0x1000 8 off data, cqBase := overlay x.cqBase 0x1008 8 off data,
      sqSize := overlay x.sqSize 0x1010 4 off data, cqSize := overlay x.cqSize 0x1014 4 off data,
      pasid := p % 2 ^ 20 + put (p / 2 ^ 31) 31 31 }

/-- BAR0_REGISTER_WRITE (R351 to R354, R364): a write of octets from an offset. -/
def execBar0RegisterWrite (f : Fn) (off : BitVec 26) (data : Bytes) (s : State) : Out :=
  .next (
    let n := f.val
    let o := off.toNat
    if !s.fnOffered n then s
    else
      let s := (s.writeFnRegs n o data).modFn n fun x => x.writeRingRegs o data
      let s := if coversOctet 0x101C o data then
          (if bit (overlay 0 0x101C 1 o data) 0 then s.enableRing n else s.disableRing n)
        else s
      let s := if coversOctet 0x2000 o data then s.doorbellSq n (overlay 0 0x2000 4 o data) else s
      if coversOctet 0x2008 o data then s.doorbellCq n (overlay 0 0x2008 4 o data) else s)

/-- VECTOR_UNMASK (R362): a pending vector is signalled once. -/
def execVectorUnmask (f : Fn) (v : Fin 64) (s : State) : Out :=
  .next (
    if !s.fnOffered f.val ∨ (f.val ≠ 0 ∧ 31 ≤ v.val) then s
    else
      let x := s.fn f.val
      let s' := s.setFn f.val { x with
        unmasked := if x.unmasked.contains v.val then x.unmasked else x.unmasked ++ [v.val],
        pendingVec := x.pendingVec.filter (· != v.val) }
      if x.pendingVec.contains v.val then s'.emit (.vector f.val v.val) else s')

/-! ### The ring whose turn it is (R355, R356) -/

/-- Free entries of the CQ beyond those that are owed. -/
def FnState.room (x : FnState) : Nat := x.cqSize - x.cqUsed - x.owes

/-- The device would fetch from a ring if its turn came. -/
def State.fetchable (s : State) (f : Nat) : Bool :=
  let x := s.fn f
  s.fnOffered f && x.state == 1 && x.sqHead != x.sqTail && decide (1 ≤ x.room)

/-- The ring whose turn it is: the rotation goes from the admin ring upward. -/
def State.nextRing (s : State) : Option Nat :=
  ((List.range 65).map fun i => (s.host.turn + i) % 65).find? s.fetchable

/-! ### Starting a command (R350, R356) -/

/-- What a reset ring's command has to wait for under BARRIER: copies and admissions that are still going on. -/
def State.orphansBusy (s : State) (f : Nat) : Bool :=
  (s.ep.transfers.any fun t => t.fn == f && t.req.cmd == 65536 && (t.req.kind == 6 || t.req.kind == 7)) ||
  (s.board.ctxs.any fun e => e.2.state == 1 && e.2.ring == some (f, 65536))

/-- The command of a ring that starts next, with the number under which it completes: 65,536, nowhere, for one that was fetched
before a reset.  Commands start in SQ order; one with BARRIER after every earlier one has completed. -/
def State.nextCmd (s : State) (f : Nat) : Option (RingCmd × Nat) :=
  let x := s.fn f
  match x.orphans with
  | c :: _ => if c.barrier && s.orphansBusy f then none else some (c, 65536)
  | [] =>
    match x.cmds.find? (fun c => !c.started) with
    | none => none
    | some c => if c.barrier && (x.cmds.takeWhile (·.started)).any (fun k => !k.done) then none else some (c, c.id)

/-- Mark the next command as started. -/
def State.markStarted (s : State) (f : Nat) : State :=
  s.modFn f fun x =>
    match x.orphans with
    | _ :: r => { x with orphans := r }
    | [] => { x with cmds := lmodFirst x.cmds (fun c => !c.started) (fun c => { c with started := true }) }

/-- Reserved opcodes that are next have nothing to start: each completes at once (R356, Table 11.7). -/
def State.passReserved : Nat → State → Nat → State
  | 0, s, _ => s
  | n + 1, s, f =>
    match s.nextCmd f with
    | none => s
    | some (c, id) =>
      if 7 < c.opcode then passReserved n ((s.markStarted f).complete f id St.featureNotNegotiated 0 0 false) f else s

/-- As many of them as commands wait on the ring. -/
def State.flushReserved (s : State) (f : Nat) : State :=
  s.passReserved ((s.fn f).orphans.length + ((s.fn f).cmds.filter (fun c => !c.started)).length) f

/-- COMMAND_FETCH (R352 to R356): the entry at SQ_HEAD of the ring whose turn it is, none where its DMA fails.  An RSVD opcode
has nothing to start: it completes when its turn comes. -/
def execCommandFetch (entry : Option (BitVec 512)) (s : State) : Out :=
  .next (
    match s.nextRing with
    | none => s
    | some f =>
      let s := { s with host := { s.host with turn := (f + 1) % 65 } }
      match entry with
      | none => s.ringError f 2
      | some b =>
        let c : RingCmd := { bits := b }
        let x := s.fn f
        if c.opcode = 6 ∧ x.room < 2 then s
        else
          let c := { c with second := c.opcode == 6 }
          let s := (s.setFn f { x with sqHead := (x.sqHead + 1) % x.sqSize, cmds := x.cmds ++ [c] }).devTally 11 1
          if 7 < c.opcode then s.flushReserved f else s)

/-- Operand bits that an opcode uses, counted from bit 128 (Table 11.7). -/
def operandBits (op : Nat) : Nat :=
  match op with
  | 0 => 0
  | 1 => 24
  | 2 => 24
  | 3 => 65
  | 6 => 64
  | 7 => 72
  | _ => 114

/-- The command names a feature that is not negotiated (R368, R404, R412, Table 13.5). -/
def State.unnegotiated (s : State) (f op : Nat) : Bool :=
  let has (k : Nat) : Bool := bit (s.reg 0x1030 6) k
  (f != 0 && !has 3) || ((op == 4 || op == 5) && !has 0) || ((op == 6 || op == 7) && !has 1)

/-- A non-zero RSVD bit, or a LENGTH outside its range. -/
def RingCmd.malformed (c : RingCmd) : Bool :=
  let op := c.opcode
  (c.bits.toNat / 2 ^ (128 + operandBits op) != 0) ||
  ((op == 0 || op == 3 || op == 7) && (c.hostAddr != 0 || c.len != 0)) ||
  ((op == 4 || op == 5) && (c.len == 0 || decide (2 ^ 24 < c.len) || decide (2 ^ 37 < c.operand 199 163 + c.len))) ||
  (op == 6 && c.len != 128)

/-- Why a command has no effect at all: its status. -/
def State.cmdRefused (s : State) (f : Nat) (c : RingCmd) : Option Nat :=
  if s.unnegotiated f c.opcode then some St.featureNotNegotiated
  else if c.malformed then some St.bounds
  else if f ≠ 0 ∧ c.opcode ≠ 1 ∧ s.partState (f - 1) ≠ 1 then some St.contextDenied
  else if c.opcode = 6 ∨ c.opcode = 7 then
    match s.coreStop 5 with
    | some st => some st
    | none => s.coreStop 3
  else none

/-- An ADMIT that ends no instance owes no second entry. -/
def State.dropSecond (s : State) (f id : Nat) : State :=
  s.modFn f fun x => FnState.drain { x with
    cmds := (lmodFirst x.cmds (fun c => c.id == id && c.second) (fun c => { c with second := false })).filter
      (fun c => !c.done || c.second) }

/-- Start the next command of a ring, past reserved ones, if it is of an opcode; `run` gets the command and the number under which it completes. -/
def State.startCmd (s : State) (f op : Nat) (run : RingCmd → Nat → State → State) : State :=
  let s := s.flushReserved f
  match s.nextCmd f with
  | none => s
  | some (c, id) =>
    if c.opcode ≠ op then s
    else
      let t := s.markStarted f
      match s.cmdRefused f c with
      | some st =>
        let t := t.complete f id st 0 0 false
        if op = 6 then t.dropSecond f id else t
      | none => run c id t

/-- The octets that a DMA has read, as many as LENGTH; none where the DMA has failed. -/
def RingCmd.buffer (c : RingCmd) (data : Option Bytes) : Option Bytes :=
  match data with
  | none => none
  | some d => if d.length < c.len then none else some (d.take c.len)

/-- A DMA on a ring has failed: state 3, and a completion held back whose status the spec does not give. -/
def State.dmaFailed (s : State) (f id : Nat) : State :=
  if id = 65536 then s
  else ((s.ringError f 2).complete f id (Config.unstated s.fresh [11, 354] % 65536) 0 0 false).draw

/-! ### The opcodes (Table 11.7) -/

/-- NOP. -/
def execNop (f : Fn) (s : State) : Out := .next (s.startCmd f.val 0 fun _ id s => s.complete f.val id St.ok 0 0 false)

/-- DICT_READ (R361, R376): `written` tells whether the DMA of the value succeeds. -/
def execDictRead (f : Fn) (written : Bool) (s : State) : Out :=
  .next (s.startCmd f.val 1 fun c id s =>
    let x := s.dictRead (fnRoute f) (c.operand 143 128) (c.operand 151 144) 0
    if x.2.1 ≠ St.ok then x.1.complete f.val id x.2.1 0 0 false
    else if c.len < x.2.2.length then s.complete f.val id St.bounds 0 0 false
    else if !written then x.1.dmaFailed f.val id
    else (x.1.emit (.hostWrite f.val c.hostAddr x.2.2)).complete f.val id St.ok x.2.2.length 0 false)

/-- DICT_WRITE (R358, R361, R376): the value that the DMA reads. -/
def execDictWrite (f : Fn) (data : Option Bytes) (s : State) : Out :=
  .next (s.startCmd f.val 2 fun c id s =>
    match c.buffer data with
    | none => s.dmaFailed f.val id
    | some v =>
      let x := s.dictWrite (fnRoute f) (c.operand 143 128) (c.operand 151 144) v
      (x.1.complete f.val id x.2.1 (if x.2.1 = St.stepPending then x.2.2 else 0) 0 false).startIfDue)

/-- RING_STEP_QUERY (R360): at once, or with WAIT when the operation ends. -/
def execRingStepQuery (f : Fn) (s : State) : Out :=
  .next (s.startCmd f.val 3 fun c id s =>
    let tok := c.operand 191 128
    let x := s.queryToken f.val 0 tok false
    if x.1 = St.stepPending ∧ c.operand 192 192 = 1 then
      let t := s.tokenTable f.val
      { s with tokens := tset s.tokens f.val { t with
        held := lmod t.held (fun k => k.serial == fld tok 31 0) (fun k => { k with waiters := k.waiters ++ [(f.val, id)] }) } }
    else s.complete f.val id x.1 (leNat x.2) 0 false)

/-- The partition of a function: that of aperture 0 on the PF. -/
def State.fnPart (s : State) (f : Nat) : Nat := if f = 0 then fld (tget (s.fn 0).aps 0 0).toNat 13 8 else f - 1

/-- A copy is cut into VC0 grains of the device's own end-point (R205, R242). -/
def State.startCopy (s : State) (f id : Nat) (c : RingCmd) (data : Bytes) : State :=
  let no := s.ep.nextReq + 1
  let s' := s.modEp .internal fun e => { e with nextReq := no }
  s'.issue .internal
    { id := no, kind := if c.opcode = 4 then 6 else 7, addr := c.hostAddr, len := c.len, part := s.fnPart f,
      ctx := c.operand 241 232, data, cmd := id } f 0
    [{ dst := c.operand 141 128, handle := c.operand 162 142, key := c.operand 231 200, off := c.operand 199 163,
       len := c.len, pos := 0 }]

/-- COPY_TO_TRAY (R242): with the octets that the DMA reads. -/
def execCopyToTray (f : Fn) (data : Option Bytes) (s : State) : Out :=
  .next (s.startCmd f.val 4 fun c id s =>
    match c.buffer data with
    | none => s.dmaFailed f.val id
    | some v => s.startCopy f.val id c v)

/-- COPY_FROM_TRAY (R242). -/
def execCopyFromTray (f : Fn) (s : State) : Out := .next (s.startCmd f.val 5 fun c id s => s.startCopy f.val id c [])

/-- Writes of the octets that a copy from the tray has brought. -/
def Transfer.hostWrites (t : Transfer) : List Emit :=
  t.got.map fun (p : Int × Bytes) =>
    let skip := (-p.1).toNat
    let start := p.1.toNat
    .hostWrite t.fn (t.req.addr + start) ((p.2.drop skip).take (t.req.len - start))

/-- Region offset of the first octet that a copy failed at. -/
def Transfer.failedAt (t : Transfer) : Nat :=
  match t.failsSorted with
  | [] => 0
  | a :: _ => a.off + (-a.pos).toNat

/-- COPY_COMPLETE (R357): the oldest copy of a ring whose grains have all been acknowledged or have failed. -/
def execCopyComplete (f : Fn) (written : Bool) (s : State) : Out :=
  .next (
    match s.ep.transfers.find? (fun t => t.fn == f.val && t.answered && (t.req.kind == 6 || t.req.kind == 7)) with
    | none => s
    | some t =>
      let s := s.modEp .internal fun e => { e with transfers := e.transfers.filter fun x => x.req.id != t.req.id }
      if t.req.kind = 7 ∧ !written then s.dmaFailed f.val t.req.cmd
      else
        let s := if t.req.kind = 7 then s.emits t.hostWrites else s
        s.complete f.val t.req.cmd t.status t.failedAt 0 false)

/-- RING_ADMIT (R167, R168, R173): the descriptor that the DMA reads goes to the device itself as the anchor. -/
def execRingAdmit (f : Fn) (data : Option Bytes) (s : State) : Out :=
  .next (s.startCmd f.val 6 fun c id s =>
    match c.buffer data with
    | none => (s.dmaFailed f.val id).dropSecond f.val id
    | some v => (s.admitHere (descOf v) (s.fnPart f.val) none (some (f.val, id))).afterEnds)

/-- RING_CANCEL (R174): the device's own end-point is the issuer of what the host admitted. -/
def execRingCancel (f : Fn) (s : State) : Out :=
  .next (s.startCmd f.val 7 fun c id s =>
    let k := c.operand 135 128
    match s.cancelled k (c.operand 199 136) with
    | none => s.complete f.val id St.ok 0 0 false
    | some x =>
      if dIssuer x.desc ≠ s.ownEp then s.complete f.val id St.contextDenied 0 0 false
      else ((s.cancelCtx (k % 32)).complete f.val id St.ok 0 0 false).afterEnds)

end Sys2Proof.Machine
end

