-- ==== Sys2Proof/Machine/Stepped.lean ====
section
/-! DEFINITION. One step of a stepped operation (11 R359, R361, 01 R31, 13 R422). -/

namespace Sys2Proof.Machine

open Sys2Proof

/-- What the last step of an operation does that has its effect at its end. -/
def State.runLast (s : State) (idx sub : Nat) : State :=
  if (s.stepOp idx sub).atPrimary then s.relayed idx sub else
  match idx, sub with
  | 0x2000, 4 => s.runRestore
  | 0x3090, 1 => s.runRouteLoad
  | 0x4010, 1 => s.runTableLoad
  | 0x4060, 1 => s.runEpLoad .internal
  | 0x14060, 1 => s.runEpLoad .faette
  | 0x5010, 1 => s.runRosterLoad
  | 0x5060, 1 => s.runBarrierLoad
  | 0x6020, 1 => s.runKeyLoad
  | 0x9020, 1 => s.runAttestation
  | 0x9080, 1 => s.runRelease
  | 0x9080, 7 => s.runReleaseInstall
  | _, _ => s

/-- One step: operations that copy, read or scrub go on by what the step covers. -/
def State.runStep (s : State) (idx sub : Nat) (e : StepEv) (last : Bool) : State :=
  match idx, sub with
  | 0x6310, 2 => s.runScrub last
  | 0x8300, 0x0C => s.runTraceExport e last
  | 0xB010, 0x0B => s.runPartnerExport e last
  | 0xB100, 9 => s.runJournalExport e last
  | 0xB130, 4 => s.runRegion e last
  | _, _ => if last then s.runLast idx sub else s

/-- The core that an operation needs runs. -/
def State.stepServed (s : State) (idx : Nat) : Bool := decide (0x10000 ≤ idx) || (s.coreStop (ownerCore idx)).isNone

/-- STEPPED_OPERATION_STEP (R359): one step of the operation that a STEP sub-index started, on the device or, with .faette, at
an end-point's agent.  A load of firmware and a key command end with their own commands.  A change that waits for a boundary
takes effect at once while the counter is stopped (R31). -/
def execSteppedOperationStep (w : EpSel) (idx : BitVec 16) (sub : BitVec 8) (e : StepEv) (last : Bool) (s : State) : Out :=
  .next (
    let i := match w with
      | .internal => idx.toNat
      | .faette => 0x10000 + idx.toNat
    if !s.stepRuns i sub.toNat ∨ !s.stepServed i then s
    else (((s.devTally 13 1).runStep i sub.toNat e last).applyNow).startIfDue)

end Sys2Proof.Machine
end

