-- ==== Sys2Proof/Machine/TestPort.lean ====
section
/-! DEFINITION. The test access port: the controller of IEEE 1149.1, with its instructions BYPASS and IDCODE (19 R555, 14
Table 14.5; log 17). -/

namespace Sys2Proof.Machine

open Sys2Proof

/-- States of the controller as IEEE 1149.1 numbers them: next state by TMS. -/
def tapNext (st : Nat) (tms : Bool) : Nat :=
  match st, tms with
  | 15, true => 15
  | 15, false => 12
  | 12, true => 7
  | 12, false => 12
  | 7, true => 4
  | 7, false => 6
  | 6, true => 1
  | 6, false => 2
  | 2, true => 1
  | 2, false => 2
  | 1, true => 5
  | 1, false => 3
  | 3, true => 0
  | 3, false => 3
  | 0, true => 5
  | 0, false => 2
  | 5, true => 7
  | 5, false => 12
  | 4, true => 15
  | 4, false => 14
  | 14, true => 9
  | 14, false => 10
  | 10, true => 9
  | 10, false => 10
  | 9, true => 13
  | 9, false => 11
  | 11, true => 8
  | 11, false => 11
  | 8, true => 13
  | 8, false => 10
  | 13, true => 7
  | _, _ => 12

/-- IDCODE reads F000:01. -/
def idcode : Nat := 1 + put 0x4E3 11 1 + put 0xB0A5 27 12 + put Config.stepping.toNat 31 28

/-- The instruction that shifted bits name: BYPASS where all are ones; the other codes are not in the spec, and in confidential
mode every one that is not IDCODE is BYPASS. -/
def State.tapInstr (s : State) (bits : List Bool) : Nat :=
  if bits.all id then 1
  else
    let n := Config.tapInstr bits % 3
    if s.confidential && n == 2 then 1 else n

/-- A rising edge of TCK in a state: capture and shift. -/
def State.tapRise (s : State) : State :=
  let t := s.boot.tap
  let t' : Tap :=
    if t.ctl = 6 then { t with shift := if t.instr = 0 then idcode else 0 }
    else if t.ctl = 2 then { t with shift := if t.instr = 0 then t.shift / 2 + b2n t.tdi * 2 ^ 31 else b2n t.tdi }
    else if t.ctl = 14 then { t with irBits := [] }
    else if t.ctl = 10 then { t with irBits := t.irBits ++ [t.tdi] }
    else t
  let n := tapNext t.ctl t.tms
  { s with boot := { s.boot with tap := { t' with ctl := n, instr := if n = 15 then 0 else t'.instr } } }

/-- The bit that TDO shows in a shift state: of the registers that the spec does not give, a free value. -/
def State.tapOut (s : State) : Bool × State :=
  let t := s.boot.tap
  if t.ctl = 10 then
    (if t.irBits.isEmpty then (true, s) else if t.irBits.length = 1 then (false, s)
     else (Config.unstated s.fresh [19, 555] % 2 == 1, s.draw))
  else if t.instr = 2 then (Config.unstated s.fresh [19, 555] % 2 == 1, s.draw)
  else (t.shift % 2 == 1, s)

/-- A falling edge of TCK in a state: TDO and the instruction. -/
def State.tapFall (s : State) : State :=
  let t := s.boot.tap
  if t.ctl = 13 then { s with boot := { s.boot with tap := { t with instr := s.tapInstr t.irBits } } }
  else if t.ctl = 2 ∨ t.ctl = 10 then
    let x := s.tapOut
    ({ x.2 with boot := { x.2.boot with tap := { x.2.boot.tap with tdo := x.1 } } }).emit (.pin "TDO" x.1)
  else s

/-- TEST_ACCESS_PORT (R442, R555): a pin changes to a level: 0 TCK, 1 TMS, 2 TDI, 3 TRST_N. -/
def execTestAccessPort (pin : Fin 4) (level : Bool) (s : State) : Out :=
  .next (
    let t := s.boot.tap
    let old := t.tck
    let t := match pin.val with
      | 0 => { t with tck := level }
      | 1 => { t with tms := level }
      | 2 => { t with tdi := level }
      | _ => { t with trstN := level }
    let s := { s with boot := { s.boot with tap := t } }
    if s.boot.phase = .off then s
    else if !t.trstN then { s with boot := { s.boot with tap := t.reset } }
    else if pin.val = 0 ∧ level ∧ !old then s.tapRise
    else if pin.val = 0 ∧ !level ∧ old then s.tapFall
    else s)

end Sys2Proof.Machine
end

