-- ==== Sys2Proof/Machine/Window.lean ====
section
/-! DEFINITION. The dictionary window BAR2 and the host window BAR4 (11 R363 to R368). -/

namespace Sys2Proof.Machine

open Sys2Proof

/-! ### BAR2 (R363) -/

/-- The registers of Table 11.10 after an access. -/
def State.windowAnswer (s : State) (f idx sub len status token : Nat) (value : Bytes) : State :=
  s.modFn f fun x => { x with
    wIndex := idx, wSub := sub, wLength := len, wState := 2, wStatus := status,
    wToken := if status = St.stepPending then token else 0, wData := value }

/-- WINDOW_READ (R361, R363): OP is 1. -/
def execWindowRead (f : Fn) (idx : BitVec 16) (sub : BitVec 8) (s : State) : Out :=
  .next (
    if !s.fnOffered f.val then s
    else
      let x := s.dictRead (fnRoute f) idx.toNat sub.toNat 0
      x.1.windowAnswer f.val idx.toNat sub.toNat x.2.2.length x.2.1 0 x.2.2)

/-- WINDOW_WRITE (R358, R361, R363): OP is 2, with LENGTH octets of the buffer. -/
def execWindowWrite (f : Fn) (idx : BitVec 16) (sub : BitVec 8) (v : Bytes) (s : State) : Out :=
  .next (
    if !s.fnOffered f.val then s
    else
      let x := s.dictWrite (fnRoute f) idx.toNat sub.toNat v
      (x.1.windowAnswer f.val idx.toNat sub.toNat v.length x.2.1 x.2.2 v).startIfDue)

/-! ### BAR4 (R364 to R367) -/

/-- The aperture of a BAR4 offset. -/
def State.apertureAt (s : State) (f off : Nat) : Nat := (tget (s.fn f).aps (off / 2 ^ 30) 0).toNat

/-- Region offset of a BAR4 offset (R365). -/
def State.regionOffset (s : State) (f off : Nat) : Nat := fld (s.apertureAt f off) 127 91 + off % 2 ^ 30

/-- What an access is refused with at the device: 0 nothing, 1 HOST_WINDOW is not negotiated, 2 no right or a disabled
aperture, 3 beyond every region (R193, R367, R368, R412). -/
def State.windowRefusal (s : State) (f off len : Nat) (write : Bool) : Nat :=
  let a := s.apertureAt f off
  if !bit (s.reg 0x1030 6) 2 then 1
  else if !bit a 0 || !bit a (if write then 2 else 1) then 2
  else if 2 ^ 37 < s.regionOffset f off + len then 3
  else 0

/-- Status of a refusal; that of a missing right is a free value (log 23). -/
def State.refusalStatus (s : State) (why : Nat) : Nat × State :=
  if why = 1 then (St.featureNotNegotiated, s) else if why = 3 then (St.bounds, s) else s.winStatus

/-- An access is sent as the internal end-point's own request (R364). -/
def State.windowIssue (s : State) (f off kind op len : Nat) (data : Bytes) : State :=
  let a := s.apertureAt f off
  let no := s.ep.nextReq + 1
  let s' := s.modEp .internal fun e => { e with nextReq := no }
  s'.issue .internal
    { id := no, kind, addr := off, len, part := if f = 0 then fld a 13 8 else f - 1, ctx := fld a 23 14, data, atomicOp := op } f 0
    [{ dst := fld a 37 24, handle := fld a 90 70, key := fld a 69 38, off := s.regionOffset f off, len, pos := 0 }]

/-- HOST_WINDOW_READ (R364, R365, R367). -/
def execHostWindowRead (f : Fn) (off : BitVec 34) (len : BitVec 13) (s : State) : Out :=
  .next (
    let o := off.toNat
    if !s.fnOffered f.val ∨ len.toNat = 0 then s
    else
      let s := s.devTally 12 1
      let why := s.windowRefusal f.val o len.toNat false
      if why = 0 then s.windowIssue f.val o 8 0 len.toNat []
      else
        let x := s.refusalStatus why
        (x.2.emit (.pcie f.val x.1 [])).winError f.val o x.1)

/-- HOST_WINDOW_WRITE (R364, R365, R367). -/
def execHostWindowWrite (f : Fn) (off : BitVec 34) (data : Bytes) (s : State) : Out :=
  .next (
    let o := off.toNat
    if !s.fnOffered f.val ∨ data.isEmpty then s
    else
      let s := s.devTally 12 1
      let why := s.windowRefusal f.val o data.length true
      if why = 0 then s.windowIssue f.val o 9 0 data.length data
      else
        let x := s.refusalStatus why
        (x.2.winError f.val o x.1).windowDone f.val 0 x.1)

/-- Operand block of an AtomicOp: FetchAdd, Swap or CAS on 32 or 64 bits (R197, R365). -/
def atomicBlock (wide : Bool) (off a b : Nat) : Bytes :=
  let m := if wide then 2 ^ 64 else 2 ^ 32
  natLe 24 (off % 64 + put (if wide then 2 else 1) 14 13 + put (a % m) 127 64 + put (b % m) 191 128)

/-- HOST_WINDOW_ATOMIC (R365, R367): 0 FetchAdd, 1 Swap, 2 CAS with its compare value and the value to write. -/
def execHostWindowAtomic (f : Fn) (off : BitVec 34) (op : Fin 3) (wide : Bool) (a b : BitVec 64) (s : State) : Out :=
  .next (
    let o := off.toNat
    let n := if wide then 8 else 4
    if !s.fnOffered f.val then s
    else
      let s := s.devTally 12 1
      let why := s.windowRefusal f.val o n true
      if why = 0 then
        s.windowIssue f.val o 10 (if op.val = 0 then 0 else op.val + 5) n
          (atomicBlock wide (s.regionOffset f.val o) a.toNat (if op.val = 2 then b.toNat else 0))
      else
        let x := s.refusalStatus why
        ((x.2.emit (.pcie f.val x.1 [])).winError f.val o x.1).windowDone f.val 0 x.1)

/-- WINDOW_FENCE (R366): a read of WINDOW_FENCE waits for the window writes and AtomicOps posted before it. -/
def execWindowFence (f : Fn) (s : State) : Out :=
  .next (
    if !s.fnOffered f.val then s
    else
      let open_ := (s.ep.transfers.filter fun t => t.fn == f.val && !t.answered && (t.req.kind == 9 || t.req.kind == 10)).map (·.req.id)
      let s := s.modFn f.val fun x => { x with fences := x.fences ++ [open_] }
      State.answerFences f.val (s.fn f.val).fences.length s)

end Sys2Proof.Machine
end

