-- ==== Sys2Proof/Machine/Dispatch.lean ====
section
/-! DEFINITION. The meaning of every command: one arm for each constructor. -/

namespace Sys2Proof.Machine

open Sys2Proof

/-- What a command does to everything but the queue. -/
def exec (i : Instr) (s : State) : Host.Outcome State Fault Refusal :=
  match i with
  | .resetRelease => Sys2Proof.Machine.execResetRelease s
  | .resetAssert => Sys2Proof.Machine.execResetAssert s
  | .powerLoss => Sys2Proof.Machine.execPowerLoss s
  | .selfTestDone failed found => Sys2Proof.Machine.execSelfTestDone failed found s
  | .firmwareLoad r v => Sys2Proof.Machine.execFirmwareLoad r v s
  | .imageVerify dmaOk img => Sys2Proof.Machine.execImageVerify dmaOk img s
  | .initComplete failed => Sys2Proof.Machine.execInitComplete failed s
  | .initTimeout => Sys2Proof.Machine.execInitTimeout s
  | .restart r v => Sys2Proof.Machine.execRestart r v s
  | .resume r v => Sys2Proof.Machine.execResume r v s
  | .failedCountClear r v => Sys2Proof.Machine.execFailedCountClear r v s
  | .watchdogExpiry k digestOk => Sys2Proof.Machine.execWatchdogExpiry k digestOk s
  | .coreTrap k digestOk => Sys2Proof.Machine.execCoreTrap k digestOk s
  | .coreAccessFault k digestOk => Sys2Proof.Machine.execCoreAccessFault k digestOk s
  | .coreSramError k digestOk => Sys2Proof.Machine.execCoreSramError k digestOk s
  | .coreReady k => Sys2Proof.Machine.execCoreReady k s
  | .gateRelease q stage p late slack => Sys2Proof.Machine.execGateRelease q stage p late slack s
  | .heldMinReset r q v => Sys2Proof.Machine.execHeldMinReset r q v s
  | .slotBoundary => Sys2Proof.Machine.execSlotBoundary s
  | .spanBoundary => Sys2Proof.Machine.execSpanBoundary s
  | .spanCounterRead r off => Sys2Proof.Machine.execSpanCounterRead r off s
  | .refclkLost b => Sys2Proof.Machine.execRefclkLost b s
  | .refclkBothLost => Sys2Proof.Machine.execRefclkBothLost s
  | .refclkRestored b => Sys2Proof.Machine.execRefclkRestored b s
  | .laserInputLost engine input => Sys2Proof.Machine.execLaserInputLost engine input s
  | .alignStart r v => Sys2Proof.Machine.execAlignStart r v s
  | .alignStartFollower r v => Sys2Proof.Machine.execAlignStartFollower r v s
  | .spanMarker f t at_ offset => Sys2Proof.Machine.execSpanMarker f t at_ offset s
  | .ingressGrain p l => Sys2Proof.Machine.execIngressGrain p l s
  | .openGrainHandoff p offset => Sys2Proof.Machine.execOpenGrainHandoff p offset s
  | .openEgressDeparture p offset => Sys2Proof.Machine.execOpenEgressDeparture p offset s
  | .reseqRelease p inPort vc => Sys2Proof.Machine.execReseqRelease p inPort vc s
  | .ageingSweep => Sys2Proof.Machine.execAgeingSweep s
  | .vc4GroupApply w => Sys2Proof.Machine.execVc4GroupApply w s
  | .load w g ev => Sys2Proof.Machine.execLoad w g ev s
  | .loadVolatile w g ev => Sys2Proof.Machine.execLoadVolatile w g ev s
  | .store w g ev => Sys2Proof.Machine.execStore w g ev s
  | .storeMasked w g ev => Sys2Proof.Machine.execStoreMasked w g ev s
  | .seqReset w g => Sys2Proof.Machine.execSeqReset w g s
  | .add w g ev => Sys2Proof.Machine.execAdd w g ev s
  | .min w g ev => Sys2Proof.Machine.execMin w g ev s
  | .max w g ev => Sys2Proof.Machine.execMax w g ev s
  | .and w g ev => Sys2Proof.Machine.execAnd w g ev s
  | .or w g ev => Sys2Proof.Machine.execOr w g ev s
  | .xor w g ev => Sys2Proof.Machine.execXor w g ev s
  | .swap w g ev => Sys2Proof.Machine.execSwap w g ev s
  | .cas w g ev => Sys2Proof.Machine.execCas w g ev s
  | .fadd w g ev => Sys2Proof.Machine.execFadd w g ev s
  | .loadData w g => Sys2Proof.Machine.execLoadData w g s
  | .completion w g => Sys2Proof.Machine.execCompletion w g s
  | .error w g => Sys2Proof.Machine.execError w g s
  | .nack f t lost => Sys2Proof.Machine.execNack f t lost s
  | .resendTimeoutExpiry w dst vc tag => Sys2Proof.Machine.execResendTimeoutExpiry w dst vc tag s
  | .requestBackstop w dst vc tag => Sys2Proof.Machine.execRequestBackstop w dst vc tag s
  | .contribFirst p g => Sys2Proof.Machine.execContribFirst p g s
  | .contrib p g => Sys2Proof.Machine.execContrib p g s
  | .carry p g => Sys2Proof.Machine.execCarry p g s
  | .longCarry p g => Sys2Proof.Machine.execLongCarry p g s
  | .escape p g => Sys2Proof.Machine.execEscape p g s
  | .result w g => Sys2Proof.Machine.execResult w g s
  | .data w g => Sys2Proof.Machine.execData w g s
  | .boardSlotEnd lost => Sys2Proof.Machine.execBoardSlotEnd lost s
  | .escapeRecordBegin => Sys2Proof.Machine.execEscapeRecordBegin s
  | .boardNackRepeat k => Sys2Proof.Machine.execBoardNackRepeat k s
  | .spanTableLoad r v => Sys2Proof.Machine.execSpanTableLoad r v s
  | .spanTableCancel r v => Sys2Proof.Machine.execSpanTableCancel r v s
  | .spanTableActivation => Sys2Proof.Machine.execSpanTableActivation s
  | .transitionSpanEnd => Sys2Proof.Machine.execTransitionSpanEnd s
  | .routeLoad r v => Sys2Proof.Machine.execRouteLoad r v s
  | .rosterLoad r v => Sys2Proof.Machine.execRosterLoad r v s
  | .barrierLoad r v => Sys2Proof.Machine.execBarrierLoad r v s
  | .keyTableLoad r v => Sys2Proof.Machine.execKeyTableLoad r v s
  | .epScheduleLoad w r v => Sys2Proof.Machine.execEpScheduleLoad w r v s
  | .epScheduleCancel w r v => Sys2Proof.Machine.execEpScheduleCancel w r v s
  | .steppedOperationStep w idx sub e last => Sys2Proof.Machine.execSteppedOperationStep w idx sub e last s
  | .admission m => Sys2Proof.Machine.execAdmit m s
  | .prepare m => Sys2Proof.Machine.execPrepare m s
  | .prepared m => Sys2Proof.Machine.execPrepared m s
  | .admitResult w m => Sys2Proof.Machine.execAdmitResult w m s
  | .commit m => Sys2Proof.Machine.execCommit m s
  | .release m => Sys2Proof.Machine.execRelease m s
  | .cancel m => Sys2Proof.Machine.execCancel m s
  | .mismatchNote m => Sys2Proof.Machine.execMismatchNote m s
  | .collectiveCompletion w m => Sys2Proof.Machine.execCollectiveCompletion w m s
  | .admitDeadline k => Sys2Proof.Machine.execAdmitDeadline k s
  | .commitDeadline k => Sys2Proof.Machine.execCommitDeadline k s
  | .endToken f t => Sys2Proof.Machine.execEndToken f t s
  | .endTokenRepeat k => Sys2Proof.Machine.execEndTokenRepeat k s
  | .quiesceExpiry k => Sys2Proof.Machine.execQuiesceExpiry k s
  | .dataPrimitiveEnd k => Sys2Proof.Machine.execDataPrimitiveEnd k s
  | .completionRecordDue k => Sys2Proof.Machine.execCompletionRecordDue k s
  | .operationDigestComplete k => Sys2Proof.Machine.execOperationDigestComplete k s
  | .barrierArrive f t => Sys2Proof.Machine.execBarrierArrive f t s
  | .barrierRelease f t => Sys2Proof.Machine.execBarrierRelease f t s
  | .engineBarrierArrive id b part => Sys2Proof.Machine.execEngineBarrierArrive id b part s
  | .engineRequest r => Sys2Proof.Machine.execEngineRequest r s
  | .fenceLocal q => Sys2Proof.Machine.execFenceLocal q s
  | .fenceRemote q => Sys2Proof.Machine.execFenceRemote q s
  | .fenceComplete id => Sys2Proof.Machine.execFenceComplete id s
  | .instanceSubmit w x => Sys2Proof.Machine.execInstanceSubmit w x s
  | .endpointReservedSlot w side slot => Sys2Proof.Machine.execEndpointReservedSlot w side slot s
  | .atsTranslationCompletion pasid va sizeLog pages => Sys2Proof.Machine.execAtsTranslationCompletion pasid va sizeLog pages s
  | .translationTimeout pasid va sizeLog => Sys2Proof.Machine.execTranslationTimeout pasid va sizeLog s
  | .atsInvalidateRequest itag pasid va len => Sys2Proof.Machine.execAtsInvalidateRequest itag pasid va len s
  | .invalidateCompletion itag => Sys2Proof.Machine.execInvalidateCompletion itag s
  | .flush r v => Sys2Proof.Machine.execFlush r v s
  | .register r => Sys2Proof.Machine.execRegister r s
  | .revoke r => Sys2Proof.Machine.execRevoke r s
  | .markDead r => Sys2Proof.Machine.execMarkDead r s
  | .keyEntryRead r => Sys2Proof.Machine.execKeyEntryRead r s
  | .homeUpdate w m => Sys2Proof.Machine.execHomeUpdate w m s
  | .homeAck m => Sys2Proof.Machine.execHomeAck m s
  | .homeAckTimeout => Sys2Proof.Machine.execHomeAckTimeout s
  | .mirrorQuery w m => Sys2Proof.Machine.execMirrorQuery w m s
  | .mirrorState m => Sys2Proof.Machine.execMirrorState m s
  | .partitionOpen r p => Sys2Proof.Machine.execPartitionOpen r p s
  | .partitionClose r p => Sys2Proof.Machine.execPartitionClose r p s
  | .partitionScrub r v => Sys2Proof.Machine.execPartitionScrub r v s
  | .beacon l valid => Sys2Proof.Machine.execBeacon l valid s
  | .portDetect l laser0 laser1 power => Sys2Proof.Machine.execPortDetect l laser0 laser1 power s
  | .laneTrainPass l mask => Sys2Proof.Machine.execLaneTrainPass l mask s
  | .lockAchieved l found skewOk => Sys2Proof.Machine.execLockAchieved l found skewOk s
  | .trainLockTimeout l => Sys2Proof.Machine.execTrainLockTimeout l s
  | .exchangeTimeout l => Sys2Proof.Machine.execExchangeTimeout l s
  | .exchangeResend l type => Sys2Proof.Machine.execExchangeResend l type s
  | .trained l x => Sys2Proof.Machine.execTrained l x s
  | .locked l x => Sys2Proof.Machine.execLocked l x s
  | .caps f x => Sys2Proof.Machine.execCaps f x s
  | .kaOffer l x => Sys2Proof.Machine.execKaOffer l x s
  | .kaResponse l x => Sys2Proof.Machine.execKaResponse l x s
  | .kaConfirm l x => Sys2Proof.Machine.execKaConfirm l x s
  | .ready l x => Sys2Proof.Machine.execReady l x s
  | .portActivate f tx => Sys2Proof.Machine.execPortActivate f tx s
  | .mode l x => Sys2Proof.Machine.execMode l x s
  | .modeSwitch l tx => Sys2Proof.Machine.execModeSwitch l tx s
  | .testStart l x => Sys2Proof.Machine.execTestStart l x s
  | .testAck l x => Sys2Proof.Machine.execTestAck l x s
  | .laneReport l x => Sys2Proof.Machine.execLaneReport l x s
  | .maintenanceGrain p x => Sys2Proof.Machine.execMaintenanceGrain p x s
  | .testEnd l tx c => Sys2Proof.Machine.execTestEnd l tx c s
  | .credit f t => Sys2Proof.Machine.execCredit f t s
  | .laneFailure p lane => Sys2Proof.Machine.execLaneFailure p lane s
  | .laneDownRepeat p => Sys2Proof.Machine.execLaneDownRepeat p s
  | .down f t => Sys2Proof.Machine.execDown f t s
  | .downAck f t => Sys2Proof.Machine.execDownAck f t s
  | .sevenLaneSwitch p tx => Sys2Proof.Machine.execSevenLaneSwitch p tx s
  | .portLightLost l rx => Sys2Proof.Machine.execPortLightLost l rx s
  | .laneCLockLost l => Sys2Proof.Machine.execLaneCLockLost l s
  | .rxFifoSlip l => Sys2Proof.Machine.execRxFifoSlip l s
  | .linkEnable r l v => Sys2Proof.Machine.execLinkEnable r l v s
  | .linkDisable r l v => Sys2Proof.Machine.execLinkDisable r l v s
  | .admitClear r l v => Sys2Proof.Machine.execAdmitClear r l v s
  | .admitSet r l v => Sys2Proof.Machine.execAdmitSet r l v s
  | .splitRequest r l v => Sys2Proof.Machine.execSplitRequest r l v s
  | .marginSet r l v => Sys2Proof.Machine.execMarginSet r l v s
  | .marginClear r l v => Sys2Proof.Machine.execMarginClear r l v s
  | .retrain r l v => Sys2Proof.Machine.execRetrain r l v s
  | .fence r l v => Sys2Proof.Machine.execFence r l v s
  | .testStartRequest r l v => Sys2Proof.Machine.execTestStartRequest r l v s
  | .rekey r l v => Sys2Proof.Machine.execRekey r l v s
  | .rekeyDue l => Sys2Proof.Machine.execRekeyDue l s
  | .rekeyRetry l => Sys2Proof.Machine.execRekeyRetry l s
  | .keySwitch l tx => Sys2Proof.Machine.execKeySwitch l tx s
  | .keyLimit l => Sys2Proof.Machine.execKeyLimit l s
  | .refreshWindow => Sys2Proof.Machine.execRefreshWindow s
  | .refreshEnd evs => Sys2Proof.Machine.execRefreshEnd evs s
  | .refreshTimer => Sys2Proof.Machine.execRefreshTimer s
  | .extraRefresh k => Sys2Proof.Machine.execExtraRefresh k s
  | .hotStackExit k reading => Sys2Proof.Machine.execHotStackExit k reading s
  | .patrol half ev => Sys2Proof.Machine.execPatrol half ev s
  | .hostLinkDown kind => Sys2Proof.Machine.execHostLinkDown kind s
  | .vfReset p flr => Sys2Proof.Machine.execVfReset p flr s
  | .ringEnable f => Sys2Proof.Machine.execRingEnable f s
  | .ringDisable f => Sys2Proof.Machine.execRingDisable f s
  | .sqTail f v => Sys2Proof.Machine.execSqTail f v s
  | .cqHead f v => Sys2Proof.Machine.execCqHead f v s
  | .commandFetch entry => Sys2Proof.Machine.execCommandFetch entry s
  | .nop f => Sys2Proof.Machine.execNop f s
  | .dictRead f written => Sys2Proof.Machine.execDictRead f written s
  | .dictWrite f data => Sys2Proof.Machine.execDictWrite f data s
  | .ringStepQuery f => Sys2Proof.Machine.execRingStepQuery f s
  | .copyToTray f data => Sys2Proof.Machine.execCopyToTray f data s
  | .copyFromTray f => Sys2Proof.Machine.execCopyFromTray f s
  | .copyComplete f written => Sys2Proof.Machine.execCopyComplete f written s
  | .ringAdmit f data => Sys2Proof.Machine.execRingAdmit f data s
  | .ringCancel f => Sys2Proof.Machine.execRingCancel f s
  | .windowRead f idx sub => Sys2Proof.Machine.execWindowRead f idx sub s
  | .windowWrite f idx sub v => Sys2Proof.Machine.execWindowWrite f idx sub v s
  | .hostWindowRead f off len => Sys2Proof.Machine.execHostWindowRead f off len s
  | .hostWindowWrite f off data => Sys2Proof.Machine.execHostWindowWrite f off data s
  | .hostWindowAtomic f off op wide a b => Sys2Proof.Machine.execHostWindowAtomic f off op wide a b s
  | .windowFence f => Sys2Proof.Machine.execWindowFence f s
  | .vectorUnmask f v => Sys2Proof.Machine.execVectorUnmask f v s
  | .doeRequest d => Sys2Proof.Machine.execDoeRequest d s
  | .arpRequest f => Sys2Proof.Machine.execArpRequest f s
  | .neighborSolicitation f => Sys2Proof.Machine.execNeighborSolicitation f s
  | .echoRequest f => Sys2Proof.Machine.execEchoRequest f s
  | .read from_ => Sys2Proof.Machine.execRead from_ s
  | .write from_ => Sys2Proof.Machine.execWrite from_ s
  | .stepQuery from_ => Sys2Proof.Machine.execStepQuery from_ s
  | .describe from_ => Sys2Proof.Machine.execDescribe from_ s
  | .stagingIdleTimeout who => Sys2Proof.Machine.execStagingIdleTimeout who s
  | .answerCacheExpiry who seq => Sys2Proof.Machine.execAnswerCacheExpiry who seq s
  | .dictionaryWrite r idx sub v => Sys2Proof.Machine.execDictionaryWrite r idx sub v s
  | .driverInterface r v => Sys2Proof.Machine.execDriverInterface r v s
  | .restore r v => Sys2Proof.Machine.execRestore r v s
  | .randomHealthFail => Sys2Proof.Machine.execRandomHealthFail s
  | .randomRetest passed => Sys2Proof.Machine.execRandomRetest passed s
  | .attestationRequest r v => Sys2Proof.Machine.execAttestationRequest r v s
  | .releaseRequest r v => Sys2Proof.Machine.execReleaseRequest r v s
  | .releaseInstall r v => Sys2Proof.Machine.execReleaseInstall r v s
  | .discard r v => Sys2Proof.Machine.execDiscard r v s
  | .install r v => Sys2Proof.Machine.execInstall r v s
  | .managementKeyClear r v => Sys2Proof.Machine.execManagementKeyClear r v s
  | .powerSample x => Sys2Proof.Machine.execPowerSample x s
  | .controlInterval => Sys2Proof.Machine.execControlInterval s
  | .vcoreStep => Sys2Proof.Machine.execVcoreStep s
  | .vboardStep thermal => Sys2Proof.Machine.execVboardStep thermal s
  | .cap r v => Sys2Proof.Machine.execCap r v s
  | .boardQuarters r v => Sys2Proof.Machine.execBoardQuarters r v s
  | .boardDomainUp q => Sys2Proof.Machine.execBoardDomainUp q s
  | .thermalTrip sensor reading => Sys2Proof.Machine.execThermalTrip sensor reading s
  | .engineOverheat engine reading => Sys2Proof.Machine.execEngineOverheat engine reading s
  | .engineCooled engine reading => Sys2Proof.Machine.execEngineCooled engine reading s
  | .forget r v => Sys2Proof.Machine.execForget r v s
  | .regionDigest r v => Sys2Proof.Machine.execRegionDigest r v s
  | .journalExport r v => Sys2Proof.Machine.execJournalExport r v s
  | .exceptionsEntry => Sys2Proof.Machine.execExceptionsEntry s
  | .lockstep r v => Sys2Proof.Machine.execLockstep r v s
  | .slotDigests m => Sys2Proof.Machine.execSlotDigests m s
  | .digestWaitExpiry => Sys2Proof.Machine.execDigestWaitExpiry s
  | .checkWordsRequest m => Sys2Proof.Machine.execCheckWordsRequest m s
  | .checkWordsAnswer m => Sys2Proof.Machine.execCheckWordsAnswer m s
  | .grainFetchRequest m => Sys2Proof.Machine.execGrainFetchRequest m s
  | .grainFetchAnswer m => Sys2Proof.Machine.execGrainFetchAnswer m s
  | .heartbeat b => Sys2Proof.Machine.execHeartbeat b s
  | .key g => Sys2Proof.Machine.execKey g s
  | .roster g => Sys2Proof.Machine.execRoster g s
  | .spanTable g => Sys2Proof.Machine.execSpanTable g s
  | .journal g => Sys2Proof.Machine.execJournal g s
  | .ownerDead g => Sys2Proof.Machine.execOwnerDead g s
  | .partition g => Sys2Proof.Machine.execPartition g s
  | .pairLinkLost => Sys2Proof.Machine.execPairLinkLost s
  | .pairFailover => Sys2Proof.Machine.execPairFailover s
  | .pairIsolation => Sys2Proof.Machine.execPairIsolation s
  | .resyncComplete => Sys2Proof.Machine.execResyncComplete s
  | .exportPartner r v => Sys2Proof.Machine.execExportPartner r v s
  | .ownerLossHold ep => Sys2Proof.Machine.execOwnerLossHold ep s
  | .ownerLost => Sys2Proof.Machine.execOwnerLost s
  | .faultReport p m => Sys2Proof.Machine.execFaultReport p m s
  | .foldWindowClose => Sys2Proof.Machine.execFoldWindowClose s
  | .reportSend => Sys2Proof.Machine.execReportSend s
  | .healthEvaluation links quarters => Sys2Proof.Machine.execHealthEvaluation links quarters s
  | .periodicTest => Sys2Proof.Machine.execPeriodicTest s
  | .tallyRead r off => Sys2Proof.Machine.execTallyRead r off s
  | .bandwidthWindowEnd => Sys2Proof.Machine.execBandwidthWindowEnd s
  | .taggedIntervalSwitch k => Sys2Proof.Machine.execTaggedIntervalSwitch k s
  | .taggedSetRead r k off => Sys2Proof.Machine.execTaggedSetRead r k off s
  | .partitionCountsRead r p => Sys2Proof.Machine.execPartitionCountsRead r p s
  | .traceRestart r v => Sys2Proof.Machine.execTraceRestart r v s
  | .traceExport r v => Sys2Proof.Machine.execTraceExport r v s
  | .hotStackEntry k reading => Sys2Proof.Machine.execHotStackEntry k reading s
  | .epScheduleActivation w => Sys2Proof.Machine.execEpScheduleActivation w s
  | .vrPgoodAssert => Sys2Proof.Machine.execVrPgoodAssert s
  | .hostLinkTrained rate width => Sys2Proof.Machine.execHostLinkTrained rate width s
  | .managementPortLink state => Sys2Proof.Machine.execManagementPortLink state s
  | .numvfsSet n => Sys2Proof.Machine.execNumvfsSet n s
  | .bar0RegisterWrite f off data => Sys2Proof.Machine.execBar0RegisterWrite f off data s
  | .testAccessPort pin level => Sys2Proof.Machine.execTestAccessPort pin level s

end Sys2Proof.Machine
end

