-- ==== Sys2Proof/Safety.lean ====
section
/-! DEFINITION. What claims about the block are stated with: when a dictionary access passes its checks, what an answered
access, a stepped operation and a failed start leave, and when a state is sound. -/

namespace Sys2Proof.Machine

open Sys2Proof

/-- A state is sound: each octet of a memory is listed at most once, the addresses rising; the internal home's table has a store
of its own (R268, R277); and the test access port's controller is in one of the sixteen states of IEEE 1149.1 (R555). -/
def State.sound (s : State) : Prop :=
  memWf s.ep.home.mem = true ∧ memWf s.faette.home.mem = true ∧ s.ep.home.tableAt = none ∧ s.boot.tap.ctl < 16

/-! ### Accesses -/

/-- A write on a route reaches the object's own rule and may take effect: the block is powered, the cores that it needs run, and
the checks of R378 have passed (R401, R422). -/
def State.passes (s : State) (r : Route) (idx sub : Nat) (v : Bytes) : Bool :=
  s.awake && s.receiver r == none && s.check r idx sub true v == none && s.coreStop (ownerCore idx) == none

/-- A read on a route reaches the object. -/
def State.readable (s : State) (r : Route) (idx sub : Nat) : Bool :=
  s.awake && s.receiver r == none && s.check r idx sub false [] == none

/-- Sub-indices whose read latches or draws nothing: neither COUNT nor one of the reads that 4000, 8010, 8040 to 807F, 8100 to
813F, B100 and F000 give a rule of their own. -/
def plainRead (idx sub : Nat) : Bool :=
  sub != 0 && !(idx == 0x4000 && sub == 1) && !(idx == 0x8010 && sub == 2) &&
  !(decide (0x8040 ≤ idx) && decide (idx < 0x8080) && sub == 2) && !(decide (0x8100 ≤ idx) && decide (idx < 0x8140) && sub == 1) &&
  !(idx == 0xB100 && sub == 0xC) && !measured idx sub

/-- Octets that such a sub-index shows: its value, or zeros where its unit is absent (R7, R372). -/
def State.shown (s : State) (idx sub : Nat) : Bytes :=
  natLe ((findObj idx sub).getD default).size (if s.unitAbsent idx then 0 else s.value idx sub)

/-- Writable sub-indices that just hold what is written: of the trace, and of the fault reports (Tables 18.10 and 17.1). -/
def plainCells : List (Nat × Nat) :=
  [(0x8300, 2), (0x8300, 3), (0x8300, 4), (0x8300, 0xA), (0xB000, 1), (0xB000, 3), (0xB000, 4), (0xB000, 5), (0xB000, 6),
   (0xB000, 7)]

/-- Function whose token table a route uses for an operation of an index (R358, R394). -/
def tokenFn (r : Route) (idx : Nat) : Nat := if 0x10000 ≤ idx then 0x181 else Route.fnNo r

/-- A step token is free for the route (R358). -/
def State.tokenFree (s : State) (r : Route) (idx : Nat) : Bool := (s.tokenTable (tokenFn r idx)).make.isSome

/-- `t` is `u` with an access answered, counted and traced, and with nothing else changed. -/
abbrev Served (u t : State) (r : Route) (idx sub st : Nat) (v : Bytes := []) : Prop :=
  t.out = u.out ++ [.answer r idx sub st 0 v] ∧ { t with tallies := u.tallies, out := u.out } = u

/-- `t` is `u` with a stepped operation of a sub-index started: STEP_PENDING answered, a token held for it, and besides the
counts and the trace of the access nothing else changed. -/
abbrev Started (u t : State) (r : Route) (idx sub : Nat) : Prop :=
  t.stepRuns idx sub = true ∧
  t.out = u.out ++ [.answer r idx sub St.stepPending
    (tokenBits (tokenFn r idx)
      { serial := (u.tokenTable (tokenFn r idx)).next, idx, sub, part := Route.partNo r }) []] ∧
  { t with tokens := u.tokens, steps := u.steps, tallies := u.tallies, out := u.out } = u

/-! ### The management port -/

/-- A frame reaches the management port and is for it: its MAC address, its VLAN tag, its length and its IP address (R386). -/
abbrev State.hears (s : State) (f : Frame) : Prop :=
  s.awake = true ∧ s.mgmt.port = 3 ∧ (f.toMac = Config.mac ∨ f.toMac.toNat % 2 = 1) ∧ f.odd = false ∧ s.tagged f = true ∧
  f.size ≤ (if f.vlan.isSome then 1522 else 1518) ∧ s.ownIp f.v6 f.dst.toNat = true

/-- Its datagram is a whole dictionary message of a kind that no kept answer repeats, and the queue has room (R387, R390). -/
abbrev State.hearsMessage (s : State) (f : Frame) (q : DictMsg) (kind : Nat) : Prop :=
  s.hears f ∧ q = parseDict f.data ∧ q.unlisted = false ∧ q.kind = kind ∧ 32 ≤ f.data.length ∧ q.len = q.body.length ∧
  q.len ≤ 1024 ∧ f.dstPort.toNat = s.inForce 0x2040 5 ∧ f.ahead < 64 ∧
  (s.mgmt.kept.find? fun k => k.who == frameAsker f && k.seq == q.seq) = none

/-- The answer to a message (R388, Table 12.6). -/
def DictMsg.answer (q : DictMsg) (status : Nat) (total : Nat := 0) (body : Bytes := []) : DictMsg :=
  { seq := q.seq, status, total, offset := if q.kind = 1 then q.offset else 0, len := body.length, sub := q.sub, idx := q.idx,
    kind := (q.kind + 0x80) % 256, body }

/-- The port has answered a frame with a message, counted both, and kept the answer (R386, R390). -/
abbrev PortAnswered (s t : State) (f : Frame) (a : DictMsg) : Prop :=
  t.out = s.out ++ [.frame "UDP" f.fromMac.toNat f.v6 f.src.toNat f.srcPort.toNat a.bytes] ∧
  t.reg 0xA110 2 = (s.reg 0xA110 2 + 1) % 2 ^ 64 ∧ t.reg 0xA110 3 = (s.reg 0xA110 3 + 1) % 2 ^ 64 ∧
  t.mgmt.kept.any (fun k => k.who == frameAsker f && k.seq == a.seq && k.datagram == a.bytes) = true

/-! ### Requests at a home -/

/-- A memory request is accepted at a home: its check word holds, no refresh holds it back, and its TAG is the expected one
(R104, R108, R339). -/
abbrev State.takes (s : State) (w : EpSel) (g : Grain) : Prop :=
  g.checkOk = true ∧ (w = .internal → s.refresh.running = false ∨ g.vc = 4) ∧
  s.tagTest w g.src.toNat g.vc.toNat g.tag.toNat = .fresh

/-- The TAG that the home expects next of a grain's source (R108). -/
def State.nextTag (s : State) (w : EpSel) (g : Grain) : Option Nat := ((s.epOf w).rchan g.src.toNat g.vc.toNat).expected

/-- From `s` to `t` end-point `w` has sent one grain, or it waits for credit there. -/
abbrev Sent (s t : State) (w : EpSel) (g : Grain) : Prop :=
  t.out = (s.epEmit w g).out ∧ t.faette.outbox = (s.epEmit w g).faette.outbox

/-- The memory of a home outside a range of octets reads as before. -/
def KeepsOutside (s t : State) (w : EpSel) (a n : Nat) : Prop :=
  ∀ x, x < a ∨ a + n ≤ x → (t.home w).byte x = (s.home w).byte x

/-- A range of octets lies clear of a home table in the same memory (R262, R277). -/
def Home.offTable (h : Home) (a n : Nat) : Bool :=
  match h.tableAt with
  | some b => decide (a + n ≤ b) || decide (b + 2 ^ 26 ≤ a)
  | none => true

/-- An octet lies outside the record of a handle in a home table in the same memory (R277). -/
def Home.offRecord (h : Home) (handle n : Nat) : Bool :=
  match h.tableAt with
  | some b => decide (n < b + 32 * handle) || decide (b + 32 * handle + 32 ≤ n)
  | none => true

/-- An end-point may send n more grains of a grain's channel to its destination: the device's own has no credit to wait for, an
accelerator's has that many left on the side (R258). -/
def State.creditFor (s : State) (w : EpSel) (g : Grain) (n : Nat) : Bool :=
  match w with
  | .internal => true
  | .faette =>
    let e := s.faette
    let side := s.epPort .faette g - 64
    let k := 8 * side + g.vc.toNat
    e.sideUp.contains side && (!openVc g.vc.toNat ||
      (!e.boxed side g.vc && decide ((tget e.credSent k 0 + 65536 - tget e.credFreed k 0) % 65536 + n ≤ tget e.credInitial k 0)))

/-- The copies of a channel may all go again: each has its own TAG, none has used up its re-sends, and credit reaches for all
(R107, R110). -/
abbrev State.mayResend (s : State) (w : EpSel) (l : List Copy) : Prop :=
  (l.map (·.grain.tag)).Nodup ∧ (∀ c ∈ l, c.spent (s.epReg w 0x3080 2) = false) ∧ ∀ c ∈ l, s.creditFor w c.grain l.length = true

/-- Address of an atomic's operand, and what it reads as (R197). -/
def State.operandAt (s : State) (w : EpSel) (g : Grain) : Nat := s.homeAddr w g + (atomOp g).offset
def State.operand (s : State) (w : EpSel) (g : Grain) : Nat :=
  leNat ((s.home w).read (s.operandAt w g) (atomOp g).bytes)

/-- Where the home keeps the answer to an atomic of one member (R247). -/
def State.answerAt (s : State) (w : EpSel) (g : Grain) : Nat := s.atomRecordAt w g.src.toNat g.tag.toNat

/-- An atomic of one member may take its effect: accepted, allowed, well formed, its chunk readable, its region not mirrored,
and operand, kept answer and home table apart from each other (R197 to R199, R226, R247). -/
abbrev State.runsAtomic (s : State) (w : EpSel) (g : Grain) : Prop :=
  g.vc = 2 ∧ s.takes w g ∧ members g = [{ src := g.src, tag := g.tag, a := (atomOp g).a, noReturn := bit g.payload.toNat 15 }] ∧
  s.homeCheck w g = none ∧ (atomOp g).bad = false ∧ (s.home w).isBad (s.homeAddr w g) = false ∧ s.mirrors w g.handle = false ∧
  (s.operandAt w g + (atomOp g).bytes ≤ s.answerAt w g ∨ s.answerAt w g + 16 ≤ s.operandAt w g) ∧
  (s.home w).offTable (s.operandAt w g) (atomOp g).bytes = true ∧ (s.home w).offTable (s.answerAt w g) 16 = true

/-- The answer that an atomic of one member leaves in the home's record: the old value, and NO_RETURN, under which an FADD always
stands (R108, R198, R247). -/
def State.answerKept (s : State) (w : EpSel) (g : Grain) : AtomRec :=
  { tag := g.tag.toNat, old := s.operand w g, noReturn := bit g.payload.toNat 15 || g.op == 8 }

/-- The memory of a home outside an atomic's operand and its kept answer reads as before. -/
def KeepsAtomic (s t : State) (w : EpSel) (g : Grain) : Prop :=
  ∀ x, (x < s.operandAt w g ∨ s.operandAt w g + (atomOp g).bytes ≤ x) → (x < s.answerAt w g ∨ s.answerAt w g + 16 ≤ x) →
    (t.home w).byte x = (s.home w).byte x

/-- From `s` to `t` an atomic that came in by `a` has left `new` in its operand and its answer in the record; the answer is
COMPLETION under NO_RETURN and for an FADD, else LOAD_DATA with the old value; the source's next TAG is expected (R198,
R108). -/
abbrev AtomicDone (s t : State) (a : Arrival) (w : EpSel) (g : Grain) (new : Nat) : Prop :=
  (t.home w).read (s.operandAt w g) (atomOp g).bytes = natLe (atomOp g).bytes new ∧
  (t.home w).read (s.answerAt w g) 16 = (s.answerKept w g).octets ∧
  Sent (s.took a 2) t w (if bit g.payload.toNat 15 ∨ g.op = 8 then mkResp g (s.epId w) 1 St.ok false false 0 0
    else mkResp g (s.epId w) 0 St.ok false false 0 (s.operand w g)) ∧
  t.nextTag w g = some ((g.tag.toNat + 1) % 32768) ∧ t.regs = s.regs

/-- A pair-state grain of a stream is applied: from the partner, intact, with the expected TAG (R501, R108). -/
abbrev State.takesPair (s : State) (stream : Nat) (g : Grain) : Prop :=
  g.vc = 3 ∧ g.op = 2 ∧ g.handle = stream ∧ g.key = 0 ∧ g.ctxLocal = 0 ∧ g.src.toNat = s.pair.partner ∧
  s.pair.partner ≠ 0x3FFF ∧ g.checkOk = true ∧ s.tagTest .internal g.src.toNat 3 g.tag.toNat = .fresh

/-! ### Links -/

/-- A bring-up attempt of link `n` has failed: one more in a row, back to DETECT, or FENCED at the third (R304). -/
abbrev AttemptFailed (s t : State) (n : Nat) : Prop :=
  t.reg (linkObj n) 0x0B = min 255 (s.reg (linkObj n) 0x0B + 1) ∧
  t.linkState n = if 3 ≤ s.reg (linkObj n) 0x0B + 1 then 8 else 1

/-! ### The Counting Board -/

/-- Elements [lo, hi) of the context of a board grain, under `per` elements to a grain. -/
abbrev inBlock (d : Desc) (g : Grain) (per e : Nat) : Prop := per * g.block ≤ e ∧ e < min (dCount d) (per * g.block + per)

/-- From `s` to `t` the elements of a contribution have been added to its context's beads, once, and no other bead has
changed (R132, R133). -/
def Contributed (s t : State) (g : Grain) : Prop :=
  (t.ctx g.context).got = (0, g.sender, g.block) :: (s.ctx g.context).got ∧
  ∀ e, (t.ctx g.context).bead e =
    if inBlock (s.ctx g.context).desc g (inFmt (s.ctx g.context).desc).per e then
      ((s.ctx g.context).bead e).take (gangOf (s.ctx g.context).desc) (opMode (dOp (s.ctx g.context).desc))
        ((inFmt (s.ctx g.context).desc).toInt
          ((inFmt (s.ctx g.context).desc).element g.payload.toNat (e - (inFmt (s.ctx g.context).desc).per * g.block)).1
          ((inFmt (s.ctx g.context).desc).element g.payload.toNat (e - (inFmt (s.ctx g.context).desc).per * g.block)).2)
    else (s.ctx g.context).bead e

/-- The words of a carry grain have been added: a value to its bead, an escaped word to none (R135, R138). -/
def Carried (s t : State) (g : Grain) : Prop :=
  (t.ctx g.context).got = (1, g.sender, g.block) :: (s.ctx g.context).got ∧
  ∀ e, (t.ctx g.context).bead e =
    match (if (inFmt (s.ctx g.context).desc).words * g.block ≤ e then
      (wordsOf (s.ctx g.context).desc g)[e - (inFmt (s.ctx g.context).desc).words * g.block]? else none) with
    | some (.value a) => ((s.ctx g.context).bead e).take (gangOf (s.ctx g.context).desc) (opMode (dOp (s.ctx g.context).desc)) a
    | _ => (s.ctx g.context).bead e

/-- A board grain may be added: intact, of a resident context of its partition, no block of which awaits it (so that nothing
is emitted late), and within the operation. -/
abbrev State.boardOpen (s : State) (g : Grain) (per : Nat) : Prop :=
  g.checkOk = true ∧ s.boardTakes g = true ∧ (s.ctx g.context).begun = [] ∧ (s.ctx g.context).works = [] ∧
  (s.ctx g.context).finished = false ∧
  per * g.block < dCount (s.ctx g.context).desc

/-- A context has ended with a status and a subject (R178, R183). -/
abbrev Ended (t : State) (k status subject : Nat) : Prop :=
  (t.ctx k).state = 3 ∧ (t.ctx k).ended = some (status, subject) ∧ (t.ctx k).beads = []

/-! ### Fault events -/

/-- A fault event of a kind and a subject stands in an open window, in the queue of reports, or waits for core T; or so many
wait that the loss of some is to be reported (R516, Table 13.9). -/
abbrev Reported (t : State) (kind subjType subjId : Nat) (closing : Bool := false) : Prop :=
  t.faults.loss = true ∨
  (t.faults.windows ++ t.faults.queue ++ t.faults.waiting).any (fun f =>
    f.kind == kind && f.subjType == subjType && f.subjId == subjId && f.closing == closing) = true

/-! ### Completion entries -/

/-- Octets of a completion entry that a ring would post now (Table 11.8). -/
def FnState.entry (x : FnState) (id status result detail : Nat) (second : Bool) : Bytes :=
  natLe 16 (b2n x.phase + put (b2n second) 1 1 + put detail 15 8 + put id 31 16 + put status 47 32 + put x.sqHead 63 48
    + put result 127 64)

/-- From `s` to `t` the ring of function `f` has posted an entry at its tail, and the tail has moved (R357). -/
abbrev Posted (s t : State) (f id status result detail : Nat) (second : Bool := false) : Prop :=
  .hostWrite f ((s.fn f).cqBase + 16 * (s.fn f).cqTail) ((s.fn f).entry id status result detail second) ∈ t.out ∧
  (t.fn f).cqTail = (if (s.fn f).cqSize ≤ (s.fn f).cqTail + 1 then 0 else (s.fn f).cqTail + 1) ∧
  (t.fn f).phase = (if (s.fn f).cqSize ≤ (s.fn f).cqTail + 1 then !(s.fn f).phase else (s.fn f).phase)

/-- The next command of ring `f` is `c`: it starts now, it is not refused, its completion is owed, and the ring posts. -/
abbrev State.starts (s : State) (f op : Nat) (c : RingCmd) : Prop :=
  s.nextCmd f = some (c, c.id) ∧ c.opcode = op ∧ s.cmdRefused f c = none ∧ (s.fn f).waits c.id false = true ∧
  (s.fn f).holds = false

/-! ### Translation -/

/-- The cache holds no page at an address, or one that grants no reading (R238, R240). -/
def Lookup.missAt : Lookup → Nat → Bool
  | .miss x, va => x == va
  | _, _ => false

def Lookup.isNoRead : Lookup → Bool
  | .noRead => true
  | _ => false

/-! ### Starts and cores -/

/-- The running start has failed: FAILED_COUNT one higher, and a new start, or minimal mode from the threshold on (R414). -/
abbrev StartFailed (s t : State) : Prop :=
  t.reg 0xA020 3 = min (s.reg 0xA020 3 + 1) 255 ∧
  t.boot.phase = if s.reg 0x2010 1 ≤ min (s.reg 0xA020 3 + 1) 255 then .minimal else .selfTest

/-- Core `k` has stopped by `cause` (R418 to R420). -/
abbrev CoreStopped (s t : State) (k : Fin 6) (cause : Nat) (digestOk : Bool) : Prop :=
  t.reg 0xA000 0xA = put k.val 63 56 + put (if digestOk then cause else 5) 55 48 + put s.clock.span 47 0 ∧
  (t.core k.val).state =
    (if digestOk ∧ ((s.core k.val).stops.filter fun n => decide (s.ns < n + 60000000000)).length < 3 then 2 else 3) ∧
  t.boot.phase = s.boot.phase

end Sys2Proof.Machine
end

