-- ==== Sys2Proof/Certificates/Slice0/Obligations.lean ====
section
/-! DEFINITION. The statements about the block, from the spec's rules. -/

open Sys2Proof Sys2Proof.Machine

/-- Power, its loss and PKG_RST_N. VR_PGOOD_ASSERT powers the package held in reset, with the volatile cells at their
defaults and the persistent store as it was. RESET_RELEASE acknowledges power and begins a start in phase 2.
RESET_ASSERT and POWER_LOSS put every port dark and stop the counter; loss of power also clears the volatile cells;
neither writes a cell of the persistent store. A pin that already stands where a command puts it changes nothing. -/
def Obligations.PowerAndResetPins : Prop :=
  (∀ (s : State), s.boot.vrPgood = false → ∃ t, exec (.vrPgoodAssert) s = .next t ∧ t.boot.phase = .inReset ∧
    t.boot.vrPgood = true ∧ t.boot.pd00 = true ∧ t.boot.cold = true ∧ t.regs = [] ∧ t.nv = s.nv ∧ t.wear = s.wear ∧
    t.out = s.out) ∧
  (∀ (s : State), s.boot.vrPgood = true → exec (.vrPgoodAssert) s = .next (s)) ∧
  (∀ (s : State), s.boot.pkgRstN = false → s.boot.vrPgood = true → ∃ t, exec (.resetRelease) s = .next t ∧
    t.boot.pkgRstN = true ∧ t.boot.pgoodAck = true ∧ t.boot.phase = .selfTest ∧ t.boot.cold = false ∧ t.out.getLast? =
    some (.pin "PKG_PGOOD_ACK" true) ∧ t.ports = [] ∧ t.steps = []) ∧
  (∀ (s : State), s.boot.pkgRstN = true → exec (.resetRelease) s = .next (s)) ∧
  (∀ (s : State), s.boot.pkgRstN = true → s.boot.vrPgood = true → ∃ t, exec (.resetAssert) s = .next t ∧
    t.boot.pkgRstN = false ∧ t.boot.pgoodAck = false ∧ t.boot.phase = .inReset ∧ t.clock.running = false ∧ t.ports =
    [] ∧ t.nv = s.nv ∧ t.out.getLast? = some (.pin "PKG_PGOOD_ACK" false)) ∧
  (∀ (s : State), s.boot.pkgRstN = false → exec (.resetAssert) s = .next (s)) ∧
  (∀ (s : State), s.boot.vrPgood = true → ∃ t, exec (.powerLoss) s = .next t ∧ t.boot.vrPgood = false ∧ t.boot.pd00 =
    false ∧ t.boot.phase = .off ∧ t.clock.running = false ∧ t.ports = [] ∧ t.regs = [] ∧ t.nv = s.nv ∧ t.out.getLast?
    = some (.pin "PKG_PGOOD_ACK" false)) ∧
  (∀ (s : State), s.boot.vrPgood = false → exec (.powerLoss) s = .next (s))

/-- What ends each phase of a start. SELF_TEST_DONE records the probed units in 1020:01 to 1020:08, the first since
power-up, and keeps them later, and goes to the wait for LOAD when nothing failed, no unit is short, the history is
not worn out and FAILED_COUNT is below its threshold; a failed part makes the start a failed one. IMAGE_VERIFY of an
image that passes every check enters phase 5 with all six cores released; of one that fails, the start has failed; a
failed DMA returns to phase 3. INIT_COMPLETE without a failure is READY with FAILED_COUNT 0. INIT_TIMEOUT in phase 4
or 5 is a failed start. A failed start adds 1 to FAILED_COUNT and begins anew below the threshold, else enters
minimal mode. -/
def Obligations.PhasesOfAStart : Prop :=
  (∀ (s : State) (found : Probe), s.boot.phase = .selfTest → probeShort (probeFit found) (probeOf s.boot.variant) =
    none → s.wearOf 0xA010 < 1000000 → s.reg 0xA020 3 < s.reg 0x2010 1 → ∃ t, exec (.selfTestDone 0 found) s = .next t
    ∧ t.boot.phase = .waiting ∧ t.boot.probed = true ∧ ((List.range 8).map (fun i => t.reg 0x1020 (i + 1)) = if
    s.boot.probed then (List.range 8).map (fun i => s.reg 0x1020 (i + 1)) else probeList (probeFit found)) ∧ t.out =
    s.out) ∧
  (∀ (s : State) (k : Fin 5) (found : Probe), s.boot.phase = .selfTest → k ≠ 0 → ∃ t, exec (.selfTestDone k found) s =
    .next t ∧ StartFailed s t ∧ ((List.range 8).map (fun i => t.reg 0x1020 (i + 1)) = if s.boot.probed then
    (List.range 8).map (fun i => s.reg 0x1020 (i + 1)) else probeList (probeFit found))) ∧
  (∀ (s : State) (img : Bytes), s.boot.phase = .loading → img.length = s.reg 0xA000 3 → ∃ t, exec (.imageVerify true
    img) s = .next t ∧ (if verifyImage img = none then t.boot.phase = .initialising ∧ t.boot.cores = releasedCores ∧
    t.boot.image = some (headerOf img) else StartFailed s t)) ∧
  (∀ (s : State) (img : Bytes), s.boot.phase = .loading → ∃ t, exec (.imageVerify false img) s = .next t ∧
    t.boot.phase = .waiting ∧ t.reg 0xA020 3 = s.reg 0xA020 3) ∧
  (∀ (s : State), s.boot.phase = .initialising → ∃ t, exec (.initComplete 0) s = .next t ∧ t.boot.phase = .ready ∧
    t.reg 0xA020 3 = 0 ∧ t.power.mode = s.reg 0x7020 1 ∧ (t.boot.records.head?.map (·.outcome) =
    s.boot.records.head?.map fun _ => 1)) ∧
  (∀ (s : State) (k : Fin 6), s.boot.phase = .initialising → k ≠ 0 → ∃ t, exec (.initComplete k) s = .next t ∧
    StartFailed s t) ∧
  (∀ (s : State), s.boot.phase = .loading ∨ s.boot.phase = .initialising → ∃ t, exec (.initTimeout) s = .next t ∧
    StartFailed s t) ∧
  (∀ (s : State), s.boot.phase ≠ .loading → s.boot.phase ≠ .initialising → exec (.initTimeout) s = .next (s))

/-- The writes that load an image, restart and leave minimal mode. LOAD in phase 3 starts a stepped operation and
enters phase 4. RESTART outside minimal mode, and RESUME in minimal mode below the threshold, are answered OK and
begin a start. A 1 written to FAILED_COUNT sets it to 0 in the start record too. -/
def Obligations.StartCommands : Prop :=
  (∀ (s : State) (r : Route) (v : Bytes), s.passes r 0xA000 1 v = true → s.boot.phase = .waiting → s.tokenFree r
    0xA000 = true → ∃ t, exec (.firmwareLoad r v) s = .next t ∧ Started
    { s with boot := { s.boot with phase := .loading, loadAt := s.ns } } t r 0xA000 1) ∧
  (∀ (s : State) (r : Route) (v : Bytes), s.passes r 0xA000 5 v = true → s.boot.phase ≠ .minimal → ∃ t, exec (.restart
    r v) s = .next t ∧ t.boot.phase = .selfTest ∧ t.clock.span = 0 ∧ .answer r 0xA000 5 St.ok 0 [] ∈ t.out) ∧
  (∀ (s : State) (r : Route) (v : Bytes), s.passes r 0xA020 4 v = true → s.boot.phase = .minimal → s.reg 0xA020 3 <
    s.reg 0x2010 1 → ∃ t, exec (.resume r v) s = .next t ∧ t.boot.phase = .selfTest ∧ .answer r 0xA020 4 St.ok 0 [] ∈
    t.out) ∧
  (∀ (s : State) (r : Route) (v : Bytes), s.passes r 0xA020 3 v = true → bit (leNat v) 0 = true → ∃ t, exec
    (.failedCountClear r v) s = .next t ∧ t.reg 0xA020 3 = 0 ∧ (t.boot.records.head?.map (·.failedCount) =
    s.boot.records.head?.map fun _ => 0) ∧ t.boot.phase = s.boot.phase ∧ t.out.getLast? = some (.answer r 0xA020 3
    St.ok 0 []))

/-- A core that stops restarts or has failed. After READY each of the four causes stops a core that has not failed:
A000:0A names the core and the cause, and the core restarts, or has failed if its code region lost its digest or it
stopped three times in the last 60 s. CORE_READY ends a restart. -/
def Obligations.CoreStops : Prop :=
  (∀ (s : State) (k : Fin 6) (ok : Bool), s.boot.phase = .ready → (s.core k.val).state ≠ 3 → ∃ t, exec
    (.watchdogExpiry k ok) s = .next t ∧ CoreStopped s t k 1 ok) ∧
  (∀ (s : State) (k : Fin 6) (ok : Bool), s.boot.phase = .ready → (s.core k.val).state ≠ 3 → ∃ t, exec (.coreTrap k
    ok) s = .next t ∧ CoreStopped s t k 2 ok) ∧
  (∀ (s : State) (k : Fin 6) (ok : Bool), s.boot.phase = .ready → (s.core k.val).state ≠ 3 → ∃ t, exec
    (.coreAccessFault k ok) s = .next t ∧ CoreStopped s t k 3 ok) ∧
  (∀ (s : State) (k : Fin 6) (ok : Bool), s.boot.phase = .ready → (s.core k.val).state ≠ 3 → ∃ t, exec (.coreSramError
    k ok) s = .next t ∧ CoreStopped s t k 4 ok) ∧
  (∀ (s : State) (k : Fin 6), (s.core k.val).state = 2 → ∃ t, exec (.coreReady k) s = .next t ∧ (t.core k.val).state =
    1 ∧ (t.regs = s.regs ∨ k.val = 2 ∨ k.val = 3 ∨ k.val = 4))

/-- The span counter at its boundaries and as it is read. A slot boundary inside the span adds 1 to the slot of a
running counter and leaves the span, the memories and the cells alone; the last slot ends by a span boundary. A span
boundary starts slot 0 of the next span, or of the value that ALIGN_START has left for it, and the accelerator's
end-point counts its span too, also while the device's counter is stopped. A read of 4000:01 answers the span number
and latches the grain offset of its edge. -/
def Obligations.SlotAndSpanBoundaries : Prop :=
  (∀ (s : State), s.clock.running = true → s.clock.slot + 1 < s.slots → ∃ t, exec (.slotBoundary) s = .next t ∧
    t.clock = { s.clock with slot := s.clock.slot + 1 } ∧ t.ep = s.ep ∧ t.faette = s.faette ∧ t.regs = s.regs ∧ t.nv =
    s.nv ∧ t.ports = s.ports ∧ t.out = s.out) ∧
  (∀ (s : State), s.clock.running = false ∨ s.slots ≤ s.clock.slot + 1 → exec (.slotBoundary) s = .next (s)) ∧
  (∀ (s : State), s.clock.running = true → s.clock.startPending = none → ∃ t, exec (.spanBoundary) s = .next t ∧
    t.clock.span = s.clock.span + 1 ∧ t.clock.slot = 0 ∧ t.clock.running = true ∧ t.clock.align = s.clock.align ∧
    t.faette.span = s.faette.span + 1 ∧ t.nv = s.nv) ∧
  (∀ (s : State) (n : Nat), s.clock.running = true → s.clock.startPending = some n → ∃ t, exec (.spanBoundary) s =
    .next t ∧ t.clock.span = n ∧ t.clock.slot = 0 ∧ t.clock.align = 2 ∧ t.clock.startPending = none) ∧
  (∀ (s : State), s.clock.running = false → ∃ t, exec (.spanBoundary) s = .next t ∧ t.clock = s.clock ∧ t.faette.span
    = s.faette.span + 1 ∧ t.out = s.out) ∧
  (∀ (s : State) (r : Route) (off : BitVec 14), s.readable r 0x4000 1 = true → s.clock.running = true → ∃ t, exec
    (.spanCounterRead r off) s = .next t ∧ t.out = s.out ++ [.answer r 0x4000 1 St.ok 0 (natLe 8 s.clock.span)] ∧
    t.clock = { s.clock with latched := s.offsetNow + off.toNat % s.slotLen } ∧ t.ep = s.ep ∧ t.regs = s.regs)

/-- Reference clocks, laser inputs and the thermal trip. Loss of one reference input leaves the counter running on the
other. Loss of the last one, and of both, stops the counter, unaligned. A restored input starts a stopped counter of
an awake device from span 0, unaligned. Loss of a laser input is held for its engine, and a link engine that has
lost both has its link DARK. A sensor at its trip limit asserts THERMTRIP_N, stops the counter, puts every link DARK
and records the trip. An input that is already lost changes nothing. -/
def Obligations.ReferenceInputs : Prop :=
  (∀ (s : State), s.clock.refA = true → s.clock.refB = true → ∃ t, exec (.refclkLost false) s = .next t ∧ t.clock =
    { s.clock with refA := false, onB := true } ∧ t.ports = s.ports) ∧
  (∀ (s : State), s.clock.refA = true → s.clock.refB = true → ∃ t, exec (.refclkLost true) s = .next t ∧ t.clock =
    { s.clock with refB := false, onB := false } ∧ t.ports = s.ports) ∧
  (∀ (s : State), s.clock.refA = false → exec (.refclkLost false) s = .next (s)) ∧
  (∀ (s : State), s.clock.refA = true → s.clock.refB = false → ∃ t, exec (.refclkLost false) s = .next t ∧
    t.clock.refA = false ∧ t.clock.running = false ∧ (s.clock.running = true → t.clock.align = 0 ∧
    t.clock.startPending = none)) ∧
  (∀ (s : State), ∃ t, exec (.refclkBothLost) s = .next t ∧ t.clock.refA = false ∧ t.clock.refB = false ∧
    t.clock.running = false ∧ (s.clock.running = true → t.clock.align = 0 ∧ t.clock.offsets = [])) ∧
  (∀ (s : State), s.clock.running = false → s.awake = true → s.boot.thermtrip = false → ∃ t, exec (.refclkRestored
    false) s = .next t ∧ t.clock.refA = true ∧ t.clock.running = true ∧ t.clock.span = 0 ∧ t.clock.slot = 0 ∧
    t.clock.align = 0 ∧ t.out = s.out) ∧
  (∀ (s : State), s.clock.running = true → exec (.refclkRestored true) s = .next
    ({ s with clock := { s.clock with refB := true, onB := !s.clock.refA } })) ∧
  (∀ (s : State) (e : Fin 25), e.val < 24 → (s.link e.val).laser1 = false → ∃ t, exec (.laserInputLost e 0) s = .next
    t ∧ t.linkState e.val = 0 ∧ (t.link e.val).laser0 = false ∧ (t.link e.val).laser1 = false) ∧
  (∀ (s : State) (e : Fin 25), e.val < 24 → (s.link e.val).laser1 = true → ∃ t, exec (.laserInputLost e 0) s = .next t
    ∧ (t.link e.val).laser0 = false ∧ t.ports = s.ports) ∧
  (∀ (s : State) (i : Fin 2), ∃ t, exec (.laserInputLost 24 i) s = .next t ∧ t.host.laser0 = (s.host.laser0 && i.val
    != 0) ∧ t.host.laser1 = (s.host.laser1 && i.val == 0) ∧ t.ports = s.ports) ∧
  (∀ (s : State) (k : Fin 112) (x lim : Int), s.boot.pd00 = true → s.boot.thermtrip = false → tripAt k.val = some lim
    → lim ≤ x → ∃ t, exec (.thermalTrip k x) s = .next t ∧ t.boot.thermtrip = true ∧ t.clock.running = false ∧
    ((List.range 24).all (fun n => t.linkState n == 0) = true) ∧ .pin "THERMTRIP_N" false ∈ t.out ∧ t.reg 0x7040 7 =
    k.val + put (ofSigned 16 x) 31 16 + put s.stampSpan 95 32) ∧
  (∀ (s : State) (k : Fin 112) (x lim : Int), tripAt k.val = some lim → x < lim → exec (.thermalTrip k x) s = .next
    (s))

/-- Alignment by ALIGN_START and span markers. On the master a write of ALIGN_START leaves its value for the next span
boundary. On a follower whose parent link runs it begins to align. A follower keeps its first parent marker, and a
second one a span apart in number and in time aligns it to the second's number. An aligned device measures the
offset of a link's first marker, and a marker within one grain time of the measured offset changes only the count of
departures. The accelerator's end-point aligns to its parent side in the same way. -/
def Obligations.Alignment : Prop :=
  (∀ (s : State) (r : Route) (v : Bytes), s.passes r 0x4000 7 v = true → s.clock.running = true → s.reg 0x4000 5 = 1 →
    ∃ t, exec (.alignStart r v) s = .next t ∧ Served
    { s with clock := { s.clock with startPending := some (leNat v) } } t r 0x4000 7 St.ok) ∧
  (∀ (s : State) (r : Route) (v : Bytes), s.passes r 0x4000 7 v = true → s.clock.running = true → s.reg 0x4000 5 ≠ 1 →
    s.linkUsable (s.reg 0x4000 6) = true → ∃ t, exec (.alignStartFollower r v) s = .next t ∧ Served
    { s with clock := { s.clock with align := 1, mark := none } } t r 0x4000 7 St.ok) ∧
  (∀ (s : State) (p : Port) (x : RawToken) (m at_ : Nat) (o : Int), p.val < 48 → tokenFields (s.rxDisparity (.port p))
    x "SpanMarker" = some m → bit m 71 = true → s.clock.running = true → s.clock.align = 1 → s.reg 0x4000 5 = 0 →
    s.reg 0x4000 6 = linkOf p.val → s.clock.mark = none → ∃ t, exec (.spanMarker (.port p) x at_ o) s = .next t ∧
    t.clock = { s.clock with mark := some (fld m 63 0, at_) } ∧ t.ports = s.ports ∧ t.out = s.out) ∧
  (∀ (s : State) (p : Port) (x : RawToken) (m n a : Nat) (o : Int), p.val < 48 → tokenFields (s.rxDisparity (.port p))
    x "SpanMarker" = some m → bit m 71 = true → s.clock.running = true → s.clock.align = 1 → s.reg 0x4000 5 = 0 →
    s.reg 0x4000 6 = linkOf p.val → s.clock.mark = some (n, a) → fld m 63 0 = n + 1 → s.clock.wasLost = false → ∃ t,
    exec (.spanMarker (.port p) x (a + s.spanLen) o) s = .next t ∧ t.clock.align = 2 ∧ t.clock.span = n + 1 ∧
    t.clock.slot = 0 ∧ t.clock.mark = none ∧ t.ports = s.ports) ∧
  (∀ (s : State) (p : Port) (x : RawToken) (m at_ : Nat) (o : Int), p.val < 48 → tokenFields (s.rxDisparity (.port p))
    x "SpanMarker" = some m → bit m 71 = true → s.clock.running = true → s.clock.align = 2 → thas s.clock.offsets
    (linkOf p.val) = false → tget s.clock.targets (linkOf p.val) 0x8000 = 0x8000 → ∃ t, exec (.spanMarker (.port p) x
    at_ o) s = .next t ∧ tget t.clock.offsets (linkOf p.val) 0 = o ∧ t.clock.span = s.clock.span ∧ t.out = s.out) ∧
  (∀ (s : State) (k : Fin 2) (x : RawToken) (m n a : Nat) (o : Int), tokenFields (s.rxDisparity (.faette k)) x
    "SpanMarker" = some m → bit m 71 = true → s.faette.parent = s.faette.sideOf k.val → s.faette.align ≠ 2 →
    s.faette.mark = some (n, a) → fld m 63 0 = n + 1 → exec (.spanMarker (.faette k) x (a + 2 ^ s.sched.spanLog) o) s
    = .next
    (({ s.tookGroups (.faette k) x.groups with faette := { s.faette with mark := none, align := 2, span := fld m 63 0 } }
    : State).epCounterSet .faette))

/-- Loads of tables as stepped operations, and their cancels. A write of 1 to the load of the span table, the routes,
the rosters, the barriers, the keys or an end-point's schedule starts a stepped operation when none of its kind runs
or waits; a pending span table or end-point schedule is discarded by its cancel, a span table before ACTIVATE_SPAN
only. -/
def Obligations.TableLoads : Prop :=
  (∀ (s : State) (r : Route) (v : Bytes), s.passes r 0x4010 1 v = true → s.reg 0x4010 4 = 0 ∨ s.reg 0x4010 4 = 4 →
    s.tokenFree r 0x4010 = true → ∃ t, exec (.spanTableLoad r v) s = .next t ∧ Started
    ({ s with sched := { s.sched with lastLoad := 1 } }.setReg 0x4010 4 1) t r 0x4010 1) ∧
  (∀ (s : State) (r : Route) (v : Bytes), s.passes r 0x4010 7 v = true → s.reg 0x4010 4 = 2 → s.clock.span <
    s.sched.activateAt → ∃ t, exec (.spanTableCancel r v) s = .next t ∧ Served
    (({ s with sched := { s.sched with pending := none, lastLoad := 3 } }.setReg 0x4010 4 0).setReg 0x4010 9 0) t r
    0x4010 7 St.ok) ∧
  (∀ (s : State) (r : Route) (v : Bytes), s.passes r 0x4010 7 v = true → s.reg 0x4010 4 = 3 ∨ (s.reg 0x4010 4 = 2 ∧
    s.sched.activateAt ≤ s.clock.span) → ∃ t, exec (.spanTableCancel r v) s = .next t ∧ Served s t r 0x4010 7
    St.activationLate) ∧
  (∀ (s : State) (r : Route) (v : Bytes), s.passes r 0x3090 1 v = true → s.stepRuns 0x3090 1 = false →
    s.xbar.pendingRoutes = none → s.tokenFree r 0x3090 = true → ∃ t, exec (.routeLoad r v) s = .next t ∧ Started s t r
    0x3090 1) ∧
  (∀ (s : State) (r : Route) (v : Bytes), s.passes r 0x5010 1 v = true → s.stepRuns 0x5010 1 = false → s.tokenFree r
    0x5010 = true → ∃ t, exec (.rosterLoad r v) s = .next t ∧ Started s t r 0x5010 1) ∧
  (∀ (s : State) (r : Route) (v : Bytes), s.passes r 0x5010 1 v = true → s.stepRuns 0x5010 1 = true → ∃ t, exec
    (.rosterLoad r v) s = .next t ∧ Served s t r 0x5010 1 St.loadBusy) ∧
  (∀ (s : State) (r : Route) (v : Bytes), s.passes r 0x5060 1 v = true → s.stepRuns 0x5060 1 = false →
    s.board.pendingBarriers = none → s.tokenFree r 0x5060 = true → ∃ t, exec (.barrierLoad r v) s = .next t ∧ Started
    s t r 0x5060 1) ∧
  (∀ (s : State) (r : Route) (v : Bytes), s.passes r 0x6020 1 v = true → s.isPrimary = true → s.pair.state ≠ 2 →
    s.loadRuns = false → s.commandRuns = false → s.keys.closing = [] → s.tokenFree r 0x6020 = true → ∃ t, exec
    (.keyTableLoad r v) s = .next t ∧ Started (((s.setReg 0x6020 4 0xFFFFFFFF).setReg 0x6020 5 0).setReg 0x6020 6 0) t
    r 0x6020 1) ∧
  (∀ (s : State) (r : Route) (v : Bytes), s.passes r 0x4060 1 v = true → s.epReg .internal 0x4060 4 = 0 ∨ s.epReg
    .internal 0x4060 4 = 4 → s.tokenFree r 0x4060 = true → ∃ t, exec (.epScheduleLoad .internal r v) s = .next t ∧
    (Started ((s.modEp .internal fun e => { e with schedLast := 1 }).setEpReg .internal 0x4060 4 1) t r 0x4060 1)) ∧
  (∀ (s : State) (r : Route) (v : Bytes), faetteCheck 0x4060 1 true v = none → s.epReg .faette 0x4060 4 = 0 ∨ s.epReg
    .faette 0x4060 4 = 4 → s.tokenFree r (schedStep .faette) = true → ∃ t, exec (.epScheduleLoad .faette r v) s =
    .next t ∧ t.stepRuns (schedStep .faette) 1 = true ∧ t.epReg .faette 0x4060 4 = 1 ∧ t.faette.schedLast = 1 ∧
    t.faette.home = s.faette.home ∧ t.ep = s.ep ∧ t.regs = s.regs) ∧
  (∀ (s : State) (r : Route) (v : Bytes), s.passes r 0x4060 7 v = true → s.epReg .internal 0x4060 4 = 2 → ∃ t, exec
    (.epScheduleCancel .internal r v) s = .next t ∧ (Served ((s.modEp .internal fun e =>
    { e with schedPending := none, schedLast := 3 }).setEpReg .internal 0x4060 4 0) t r 0x4060 7 St.ok)) ∧
  (∀ (s : State) (r : Route) (v : Bytes), faetteCheck 0x4060 7 true v = none → s.epReg .faette 0x4060 4 = 2 → exec
    (.epScheduleCancel .faette r v) s = .next (((s.modEp .faette fun e =>
    { e with schedPending := none, schedLast := 3 }).setEpReg .faette 0x4060 4 0).emit (.answer r 0x4060 7 St.ok 0
    [])))

/-- Activation of span tables and end-point schedules. On the edge that begins ACTIVATE_SPAN a pending table becomes
the active one, with its digest and serial in 4010; with equal lengths LOAD_STATE is 0 at once, else 3 until
TRANSITION_SPAN_END brings the new lengths after that span. Before that edge, and with nothing pending, nothing
changes. A device or an end-point that is not aligned discards its table. -/
def Obligations.Activation : Prop :=
  (∀ (s : State) (x : SpanTable), s.sched.pending = some x → s.sched.activateAt ≤ s.clock.span → s.clock.align = 2 → ∃
    t, exec (.spanTableActivation) s = .next t ∧ t.sched.active = some x ∧ t.sched.previous = s.sched.active ∧
    t.sched.pending = none ∧ (t.reg 0x4010 4 = if x.spanLog = s.sched.spanLog ∧ x.slotLog = s.sched.slotLog then 0
    else 3) ∧ t.reg 0x4010 8 = x.digest ∧ t.reg 0x4010 0xA = x.serial ∧ t.reg 0xB120 1 = s.programDigest x ∧
    t.clock.timedRefresh = false ∧ t.sched.spanLog = s.sched.spanLog) ∧
  (∀ (s : State) (x : SpanTable), s.sched.pending = some x → s.clock.span < s.sched.activateAt → exec
    (.spanTableActivation) s = .next (s)) ∧
  (∀ (s : State) (x : SpanTable), s.sched.pending = some x → s.sched.activateAt ≤ s.clock.span → s.clock.align ≠ 2 → ∃
    t, exec (.spanTableActivation) s = .next t ∧ t.sched.active = s.sched.active ∧ t.sched.pending = none ∧ t.reg
    0x4010 4 = 4 ∧ t.reg 0x4010 5 = St.notAligned ∧ t.out = s.out) ∧
  (∀ (s : State) (x : SpanTable) (a : Nat), s.sched.active = some x → s.sched.inTransition = true → s.sched.switchedAt
    = some a → a < s.clock.span → ∃ t, exec (.transitionSpanEnd) s = .next t ∧ t.sched =
    { s.sched with inTransition := false, spanLog := x.spanLog, slotLog := x.slotLog } ∧ t.reg 0x4010 4 = 0 ∧ t.clock
    = s.clock ∧ t.out = s.out ∧ t.xbar.pushes = []) ∧
  (∀ (s : State), s.sched.inTransition = false ∨ s.sched.switchedAt.all (fun a => decide (s.clock.span ≤ a)) = true →
    exec (.transitionSpanEnd) s = .next (s)) ∧
  (∀ (s : State) (w : EpSel) (x : EpSched), (s.epOf w).schedPending = some x → (s.epOf w).schedAt ≤ s.epSpan w →
    s.epAlign w = 2 → ∃ t, exec (.epScheduleActivation w) s = .next t ∧ (t.epOf w).schedActive = some x ∧ (t.epOf
    w).schedPending = none ∧ t.epReg w 0x4060 4 = 0 ∧ t.epReg w 0x4060 6 = x.serial ∧ (t.epOf w).home = (s.epOf
    w).home ∧ t.out = s.out) ∧
  (∀ (s : State) (w : EpSel) (x : EpSched), (s.epOf w).schedPending = some x → (s.epOf w).schedAt ≤ s.epSpan w →
    s.epAlign w ≠ 2 → ∃ t, exec (.epScheduleActivation w) s = .next t ∧ (t.epOf w).schedActive = (s.epOf
    w).schedActive ∧ (t.epOf w).schedPending = none ∧ t.epReg w 0x4060 5 = St.notAligned)

/-- Open grains through the crossbar. An intact response that its gate carries waits at its input for the port toward
its end-point; a damaged position enters nothing, and a port whose receive direction does not run takes no grain.
The first grain that may be taken goes to tile (t + 10 p) mod 512 and into its output's resequencing order; a head
that no combining concerns becomes ready. The grain that an open grain time carries leaves its port, with one credit
used and its place given up; an egress whose grain time a scheduled grain has, or that cannot carry one, sends
nothing, and one with nothing to send carries an idle grain, or the maintenance grain of a test that holds its slot.
The sweep leaves no grain that has reached the age limit. A CREDIT token sets FREED of its channel alone. -/
def Obligations.OpenTransport : Prop :=
  (∀ (s : State) (p : Port) (l : IngressLine) (o : Nat), p.val = 48 ∨ (s.port p.val).rx = 5 ∨ (s.port p.val).rx = 7 →
    (s.decoded p.val l).fecOk = true → (s.decoded p.val l).headerOk = true → s.hopOk p.val l = true → l.grain.vc = 1 →
    l.grain.legal = true → s.policePass p.val l.grain (s.senderSlot l) = true → s.aged l.grain = false → s.route
    l.grain.src.toNat l.grain.dst 1 = some o → s.portUp o = true → ∃ t, exec (.ingressGrain p l) s = .next t ∧ t.xbar
    = { s.xbar with waiting := s.xbar.waiting ++ [⟨l.grain, p.val, o, none⟩] } ∧ t.ep = s.ep ∧ t.regs = s.regs ∧ t.out
    = s.out) ∧
  (∀ (s : State) (p : Port) (l : IngressLine), (s.decoded p.val l).headerOk = false ∨ ((s.decoded p.val l).fecOk =
    false ∧ l.grain.vc ≠ 7) → ∃ t, exec (.ingressGrain p l) s = .next t ∧ t.xbar = s.xbar ∧ t.ep = s.ep ∧ t.regs =
    s.regs) ∧
  (∀ (s : State) (p : Port) (l : IngressLine), p.val ≠ 48 → isDown (s.port p.val).rx = true → exec (.ingressGrain p l)
    s = .next (s)) ∧
  (∀ (s : State) (p : Port) (n : Nat) (g : OpenGrain), s.xbar.waiting.find? (fun g => g.inPort == p.val && !s.mustWait
    (s.grainTime n) g) = some g → g.grain.vc ≠ 0 → s.tileLoad ((n + 10 * p.val) % 512) < 327 → ∃ t, exec
    (.openGrainHandoff p n) s = .next t ∧ t.xbar.waiting = s.xbar.waiting.erase g ∧ t.reseqOf g.outPort = s.reseqOf
    g.outPort ++
    [{ inPort := g.inPort, vc := g.grain.vc.toNat, tile := (n + 10 * p.val) % 512, slot := s.clock.span * s.slots + s.clock.slot, grain := some g.grain }]
    ∧ t.ep = s.ep ∧ t.regs = s.regs) ∧
  (∀ (s : State) (p : Port) (n : Nat), s.xbar.waiting.find? (fun g => g.inPort == p.val && !s.mustWait (s.grainTime n)
    g) = none → exec (.openGrainHandoff p n) s = .next (s)) ∧
  (∀ (s : State) (o p : Port) (vc : BitVec 3) (e : ReseqEntry) (g : Grain), headOf (s.reseqOf o.val) p.val vc.toNat =
    some e → e.grain = some g → s.combinable g = false → exec (.reseqRelease o p vc) s = .next ((s.setReseq o.val
    (dropHead (s.reseqOf o.val) p.val vc.toNat)).pushReady ⟨g, p.val, o.val, some e.tile⟩)) ∧
  (∀ (s : State) (p : Port) (n : Nat) (g : OpenGrain) (v : Serve), p.val < 48 → s.portUp p.val = true → s.canCarry
    p.val n = true → s.timeTaken p.val n = false → s.chooseGrain p.val s.clock.slot n = some (g, v) → s.aged g.grain =
    false → s.xbar.pushOpen.any (isPushed g) = false → s.isOwnResult g.grain.context g.grain = false → ∃ t, exec
    (.openEgressDeparture p n) s = .next t ∧ t.out = s.out ++ [.grain p.val g.grain s.clock.span n (s.wire p.val
    g.grain s.clock.span n)] ∧ t.xbar.ready = s.xbar.ready.erase g ∧ tget (t.port p.val).sent g.grain.vc.toNat 0 =
    (tget (s.port p.val).sent g.grain.vc.toNat 0 + 1) % 65536 ∧ t.ep = s.ep ∧ t.regs = s.regs) ∧
  (∀ (s : State) (p : Port) (n : Nat), s.portUp p.val = true → s.canCarry p.val n = false ∨ s.timeTaken p.val n = true
    → exec (.openEgressDeparture p n) s = .next (s)) ∧
  (∀ (s : State) (p : Port) (n : Nat), p.val < 48 → s.portUp p.val = true → s.canCarry p.val n = true → s.timeTaken
    p.val n = false → s.chooseGrain p.val s.clock.slot n = none → (s.link (linkOf p.val)).tests = [] → exec
    (.openEgressDeparture p n) s = .next (s.emit (.grain p.val idleGrain s.clock.span n (s.wire p.val idleGrain
    s.clock.span n)))) ∧
  (∀ (s : State) (p : Port) (n : Nat) (x : LinkTest), p.val < 48 → s.portUp p.val = true → s.canCarry p.val n = true →
    s.timeTaken p.val n = false → s.chooseGrain p.val s.clock.slot n = none → (s.slotClass s.clock.span p.val true
    s.clock.slot).1 = 2 → (s.link (linkOf p.val)).tests.find? (fun y => true && s.holdsNow y true) = some x → ∃ t,
    exec (.openEgressDeparture p n) s = .next t ∧ t.out = s.out ++ [.grain p.val (s.testGrain x).1 s.clock.span n
    (s.wire p.val (s.testGrain x).1 s.clock.span n)] ∧ ((t.link (linkOf p.val)).tests = lmodFirst (s.link (linkOf
    p.val)).tests (· == x) (fun _ => (s.testGrain x).2)) ∧ t.xbar = s.xbar ∧ t.regs = s.regs) ∧
  (∀ (s : State), ∃ t, exec (.ageingSweep) s = .next t ∧ (t.xbar.waiting = s.xbar.waiting.filter (fun g => !s.aged
    g.grain)) ∧ (t.xbar.ready = s.xbar.ready.filter (fun g => !s.aged g.grain)) ∧ (t.xbar.claims =
    s.xbar.claims.filter (fun c => !s.aged c.grain)) ∧ t.clock = s.clock) ∧
  (∀ (s : State) (p : Port) (x : RawToken) (m : Nat), p.val < 48 → tokenFields (s.rxDisparity (.port p)) x "Credit" =
    some m → openVc (fld m 30 28) = true → keeps (s.port (halfPort p.val (fld m 31 31))).state = true → ∃ t, exec
    (.credit (.port p) x) s = .next t ∧ tget (t.port (halfPort p.val (fld m 31 31))).freed (fld m 30 28) 0 = fld m 15
    0 ∧ t.xbar = s.xbar ∧ t.ep = s.ep ∧ t.out = s.out)

/-- Releases of scheduled grains at their gates. A grain that is released with its claim met leaves its port on its
claimed grain time and frees the claim, and its slack is taken into the quarter's held minimum. One that is released
late and pushed to a later reserved grain time leaves there, and unless its lateness was inherited counts as an
overrun. A port with no claim releases nothing. A write of 1 to HELD_MIN_Qq resets that minimum. -/
def Obligations.ScheduledGates : Prop :=
  (∀ (s : State) (q : Quarter) (k : Fin 6) (p : Port) (slack : Fin 33) (c : Claim), s.xbar.claims.find? (fun c =>
    c.port == p.val) = some c → p.val < 48 → s.portUp p.val = true → s.canCarry p.val c.offset = true → s.aged c.grain
    = false → thas s.xbar.pushes (64 * p.val + c.part) = false → s.isOwnResult c.grain.context c.grain = false →
    c.inherited = 0 → s.xbar.pushOpen = [] → c.offset < s.spanLen → ∃ t, exec (.gateRelease q k p 0 slack) s = .next t
    ∧ t.out = s.out ++ [.grain p.val c.grain c.span c.offset (s.wire p.val c.grain c.span c.offset)] ∧ t.xbar.claims =
    s.xbar.claims.erase c ∧ t.reg 0x4030 (5 + q.val) = min slack.val (s.reg 0x4030 (5 + q.val)) ∧ t.reg 0x4031 1 =
    s.reg 0x4031 1 ∧ t.ep = s.ep) ∧
  (∀ (s : State) (q : Quarter) (k : Fin 6) (p : Port) (slack : Fin 33) (c : Claim) (late n : Nat), s.xbar.claims.find?
    (fun c => c.port == p.val) = some c → p.val < 48 → s.portUp p.val = true → s.aged c.grain = false → thas
    s.xbar.pushes (64 * p.val + c.part) = false → s.isOwnResult c.grain.context c.grain = false → 0 < late →
    c.inherited = 0 → s.xbar.pushOpen = [] → s.pushTime p.val c.part c.span (c.span * s.spanLen + c.offset + late) =
    some n → ∃ t, exec (.gateRelease q k p late slack) s = .next t ∧ .grain p.val c.grain (n / s.spanLen) (n %
    s.spanLen) (s.wire p.val c.grain (n / s.spanLen) (n % s.spanLen)) ∈ t.out ∧ t.xbar.claims = s.xbar.claims.erase c
    ∧ t.reg 0x4030 (5 + q.val) = 0 ∧ t.reg 0x4031 1 = (s.reg 0x4031 1 + 1) % 2 ^ 64 ∧ t.excCount 1 = (s.excCount 1 +
    1) % 2 ^ 64) ∧
  (∀ (s : State) (q : Quarter) (k : Fin 6) (p : Port) (slack : Fin 33) (late : Nat), s.xbar.claims.find? (fun c =>
    c.port == p.val) = none → exec (.gateRelease q k p late slack) s = .next (s)) ∧
  (∀ (s : State) (r : Route) (q : Quarter) (v : Bytes), s.passes r 0x4030 (5 + q.val) v = true → leNat v = 1 → ∃ t,
    exec (.heldMinReset r q v) s = .next t ∧ Served (s.setReg 0x4030 (5 + q.val) 32) t r 0x4030 (5 + q.val) St.ok)

/-- LOAD and LOAD_VOLATILE at a home. An accepted load that its region's entry allows, of chunks that can be read, is
answered with LOAD_DATA of the octets that the home holds. A chunk that cannot be read gives DATA_LOST, and a
request that the check at the home refuses gets that status. In each case the memory is as it was and the next TAG
of the source is expected. A load whose check word fails reads nothing. -/
def Obligations.LoadsAtHome : Prop :=
  (∀ (s : State) (a : Arrival) (g : Grain), g.vc = 0 → g.op = 0 → s.takes a.ep g → s.homeCheck a.ep g = none →
    entSealed (s.homeEntry a.ep g.handle) = false → s.lostChunks a.ep (s.homeAddr a.ep g) (g.chunks + 1) = false → ∃
    t, exec (.load a g {}) s = .next t ∧ Sent (s.took a g.vc.toNat) t a.ep (mkResp g (s.epId a.ep) 0 St.ok false false
    g.chunks (leNat ((s.home a.ep).read (s.homeAddr a.ep g) (64 * (g.chunks + 1))))) ∧ t.home a.ep = s.home a.ep ∧
    t.nextTag a.ep g = some ((g.tag.toNat + 1) % 32768) ∧ t.regs = s.regs) ∧
  (∀ (s : State) (a : Arrival) (g : Grain), g.vc = 0 → g.op = 1 → s.takes a.ep g → s.homeCheck a.ep g = none →
    entSealed (s.homeEntry a.ep g.handle) = false → s.lostChunks a.ep (s.homeAddr a.ep g) (g.chunks + 1) = false → ∃
    t, exec (.loadVolatile a g {}) s = .next t ∧ Sent (s.took a g.vc.toNat) t a.ep (mkResp g (s.epId a.ep) 0 St.ok
    false false g.chunks (leNat ((s.home a.ep).read (s.homeAddr a.ep g) (64 * (g.chunks + 1))))) ∧ t.home a.ep =
    s.home a.ep ∧ t.nextTag a.ep g = some ((g.tag.toNat + 1) % 32768) ∧ t.regs = s.regs) ∧
  (∀ (s : State) (a : Arrival) (g : Grain), g.vc = 0 → g.op = 0 → s.takes a.ep g → s.homeCheck a.ep g = none →
    s.lostChunks a.ep (s.homeAddr a.ep g) (g.chunks + 1) = true → ∃ t, exec (.load a g {}) s = .next t ∧ Sent (s.took
    a g.vc.toNat) t a.ep (mkResp g (s.epId a.ep) 2 St.dataLost false false 0 0) ∧ t.home a.ep = s.home a.ep) ∧
  (∀ (s : State) (a : Arrival) (g : Grain) (ev : MemEv) (st : Nat), g.vc = 0 → g.op = 0 → s.takes a.ep g → s.homeCheck
    a.ep g = some st → ev.twin = none → ∃ t, exec (.load a g ev) s = .next t ∧ Sent (s.took a g.vc.toNat) t a.ep
    (mkResp g (s.epId a.ep) 2 st false false 0 0) ∧ t.home a.ep = s.home a.ep ∧ t.nextTag a.ep g = some ((g.tag.toNat
    + 1) % 32768)) ∧
  (∀ (s : State) (a : Arrival) (g : Grain) (ev : MemEv), g.checkOk = false → ev.twin = none → ∃ t, exec (.load a g ev)
    s = .next t ∧ t.home a.ep = s.home a.ep ∧ t.nextTag a.ep g = s.nextTag a.ep g)

/-- STORE, STORE_MASKED, the VC4 group and SEQ_RESET at a home. An accepted plain STORE on VC0 or VC3 writes its
chunks and answers COMPLETION; a STORE_MASKED writes the enabled octets only. Every octet outside the stored chunks
reads as before. (An accelerator's end-point first tells the link that the request's buffer is free.) A VC4 store
waits in its slot's group and writes nothing yet; the group, once applied, is empty, and a store that was alone in
it has written its chunks. A store of a refused request writes nothing. SEQ_RESET sets the TAG expected next and is
answered. While a refresh runs the internal end-point holds open requests back. -/
def Obligations.StoresAtHome : Prop :=
  (∀ (s : State) (a : Arrival) (g : Grain) (ev : MemEv), g.vc = 0 ∨ g.vc = 3 → g.op = 2 → s.takes a.ep g → s.homeCheck
    a.ep g = none → isCombinedStore g = false → s.mirrors a.ep g.handle = false → (s.home a.ep).offTable (s.homeAddr
    a.ep g) (64 * (g.chunks + 1)) = true → ev.twin = none → ∃ t, exec (.store a g ev) s = .next t ∧ Sent (s.took a
    g.vc.toNat) t a.ep (mkResp g (s.epId a.ep) 1 St.ok false false 0 0) ∧ (∀ i < g.chunks + 1, (t.home a.ep).read
    (s.homeAddr a.ep g + 64 * i) 64 = g.chunkBytes i) ∧ t.nextTag a.ep g = some ((g.tag.toNat + 1) % 32768) ∧ t.regs =
    s.regs ∧ KeepsOutside s t a.ep (s.homeAddr a.ep g) (64 * (g.chunks + 1))) ∧
  (∀ (s : State) (a : Arrival) (g : Grain), g.vc = 0 ∨ g.vc = 3 → g.op = 3 → g.chunks ≤ 2 → s.takes a.ep g →
    s.homeCheck a.ep g = none → s.mirrors a.ep g.handle = false → (s.home a.ep).offTable (s.homeAddr a.ep g) (64 *
    (g.chunks + 1)) = true → s.lostChunks a.ep (s.homeAddr a.ep g) (g.chunks + 1) = false → ∃ t, exec (.storeMasked a
    g {}) s = .next t ∧ Sent (s.took a g.vc.toNat) t a.ep (mkResp g (s.epId a.ep) 1 St.ok false false 0 0) ∧ (∀ i <
    g.chunks + 1, ∀ j ∈ List.range 64, (t.home a.ep).byte (s.homeAddr a.ep g + 64 * i + j) = if g.enabled i j then
    (g.chunkBytes i).getD j 0 else (s.home a.ep).byte (s.homeAddr a.ep g + 64 * i + j)) ∧ t.nextTag a.ep g = some
    ((g.tag.toNat + 1) % 32768) ∧ KeepsOutside s t a.ep (s.homeAddr a.ep g) (64 * (g.chunks + 1))) ∧
  (∀ (s : State) (a : Arrival) (g : Grain) (ev : MemEv), g.vc = 4 → g.op = 2 → s.takes a.ep g → ev.twin = none → exec
    (.store a g ev) s = .next (((s.took a 4).advance a.ep g.src.toNat 4).modHome a.ep fun h =>
    { h with group := h.group ++ [(g, ev)] })) ∧
  (∀ (s : State) (a : Arrival) (g : Grain) (ev : MemEv) (st : Nat), g.vc = 0 ∨ g.vc = 3 → g.op = 2 → isCombinedStore g
    = false → s.takes a.ep g → s.homeCheck a.ep g = some st → ev.twin = none → ∃ t, exec (.store a g ev) s = .next t ∧
    Sent (s.took a g.vc.toNat) t a.ep (mkResp g (s.epId a.ep) 2 st false false 0 0) ∧ t.home a.ep = s.home a.ep) ∧
  (∀ (s : State) (g : Grain) (ev : MemEv), g.vc = 0 → g.op = 2 → g.checkOk = true → s.refresh.running = true → exec
    (.store .internal g ev) s = .next (s.modHome .internal fun h => { h with held := h.held ++ [(g, ev)] })) ∧
  (∀ (s : State) (w : EpSel) (g : Grain) (ev : MemEv), (s.home w).group = [(g, ev)] → g.op = 2 → s.homeCheck w g =
    none → s.mirrors w g.handle = false → (s.home w).offTable (s.homeAddr w g) (64 * (g.chunks + 1)) = true → ∃ t,
    exec (.vc4GroupApply w) s = .next t ∧ (t.home w).group = [] ∧ Sent s t w (mkResp g (s.epId w) 1 St.ok false false
    0 0) ∧ (∀ i < g.chunks + 1, (t.home w).read (s.homeAddr w g + 64 * i) 64 = g.chunkBytes i) ∧ KeepsOutside s t w
    (s.homeAddr w g) (64 * (g.chunks + 1))) ∧
  (∀ (s : State) (w : EpSel), (s.home w).group = [] → exec (.vc4GroupApply w) s = .next (s)) ∧
  (∀ (s : State) (a : Arrival) (g : Grain), g.isSeqReset = true → g.checkOk = true → ∃ t, exec (.seqReset a g) s =
    .next t ∧ t.nextTag a.ep g = some ((g.tag.toNat + 1) % 32768) ∧ Sent (s.took a g.vc.toNat) t a.ep (mkResp g
    (s.epId a.ep) 1 St.ok false false 0 0) ∧ t.home a.ep = s.home a.ep)

/-- The nine atomics at a home. An accepted, allowed and well-formed atomic of one member leaves in its operand what
its operation makes of the old value and the operand A (of CAS, B where the old value is A); signed MIN and MAX
compare as two's complement; an FADD leaves the correctly rounded sum. It answers the old value, or COMPLETION under
NO_RETURN and for FADD. The answer is kept in the record of ATOMIC_RECORD_BASE, and every octet outside the operand
and that place reads as before. -/
def Obligations.AtomicsAtHome : Prop :=
  (∀ (s : State) (a : Arrival) (g : Grain), s.runsAtomic a.ep g → g.op = 0 → ∃ t, exec (.add a g {}) s = .next t ∧
    AtomicDone s t a a.ep g ((s.operand a.ep g + (atomOp g).a) % 2 ^ (8 * (atomOp g).bytes)) ∧ KeepsAtomic s t a.ep g) ∧
  (∀ (s : State) (a : Arrival) (g : Grain), s.runsAtomic a.ep g → g.op = 1 → ∃ t, exec (.min a g {}) s = .next t ∧
    (AtomicDone s t a a.ep g (if (atomOp g).signed then (if toSigned (8 * (atomOp g).bytes) (atomOp g).a < toSigned (8
    * (atomOp g).bytes) (s.operand a.ep g) then (atomOp g).a else s.operand a.ep g) else min (s.operand a.ep g)
    (atomOp g).a)) ∧ KeepsAtomic s t a.ep g) ∧
  (∀ (s : State) (a : Arrival) (g : Grain), s.runsAtomic a.ep g → g.op = 2 → ∃ t, exec (.max a g {}) s = .next t ∧
    (AtomicDone s t a a.ep g (if (atomOp g).signed then (if toSigned (8 * (atomOp g).bytes) (s.operand a.ep g) <
    toSigned (8 * (atomOp g).bytes) (atomOp g).a then (atomOp g).a else s.operand a.ep g) else max (s.operand a.ep g)
    (atomOp g).a)) ∧ KeepsAtomic s t a.ep g) ∧
  (∀ (s : State) (a : Arrival) (g : Grain), s.runsAtomic a.ep g → g.op = 3 → ∃ t, exec (.and a g {}) s = .next t ∧
    AtomicDone s t a a.ep g (s.operand a.ep g &&& (atomOp g).a) ∧ KeepsAtomic s t a.ep g) ∧
  (∀ (s : State) (a : Arrival) (g : Grain), s.runsAtomic a.ep g → g.op = 4 → ∃ t, exec (.or a g {}) s = .next t ∧
    AtomicDone s t a a.ep g (s.operand a.ep g ||| (atomOp g).a) ∧ KeepsAtomic s t a.ep g) ∧
  (∀ (s : State) (a : Arrival) (g : Grain), s.runsAtomic a.ep g → g.op = 5 → ∃ t, exec (.xor a g {}) s = .next t ∧
    AtomicDone s t a a.ep g (s.operand a.ep g ^^^ (atomOp g).a) ∧ KeepsAtomic s t a.ep g) ∧
  (∀ (s : State) (a : Arrival) (g : Grain), s.runsAtomic a.ep g → g.op = 6 → ∃ t, exec (.swap a g {}) s = .next t ∧
    AtomicDone s t a a.ep g (atomOp g).a ∧ KeepsAtomic s t a.ep g) ∧
  (∀ (s : State) (a : Arrival) (g : Grain), s.runsAtomic a.ep g → g.op = 7 → ∃ t, exec (.cas a g {}) s = .next t ∧
    (AtomicDone s t a a.ep g (if s.operand a.ep g = (atomOp g).a then (atomOp g).b else s.operand a.ep g)) ∧
    KeepsAtomic s t a.ep g) ∧
  (∀ (s : State) (a : Arrival) (g : Grain) (v : Nat), s.runsAtomic a.ep g → g.op = 8 → (atomOp g).fmt.sum [s.operand
    a.ep g, (atomOp g).a] = some v → ∃ t, exec (.fadd a g {}) s = .next t ∧ AtomicDone s t a a.ep g v ∧ KeepsAtomic s
    t a.ep g)

/-- Responses at a requester. LOAD_DATA of the last grain of a load hands its octets to the engine and releases the
copy. COMPLETION releases exactly the copies it covers: its own TAG, and with CUMULATIVE every earlier one. An ERROR
of the destination fails the one request with its STATUS. An ERROR of a device on the path with TARGET_LOST releases
its grain and every later one of the channel, which must begin again with SEQ_RESET; with another STATUS a SEQ_RESET
takes the TAG of the failed grain and the other grains keep theirs. A response whose check word fails releases
nothing. A window, a memory and the dictionary are not touched. -/
def Obligations.ResponsesAtRequester : Prop :=
  (∀ (s : State) (j : Fin 2) (g : Grain) (k : Copy) (x : Transfer), g.checkOk = true → g.cumulative = false →
    (s.faette.chan g.target g.reqVc).copies.filter (fun c => c.grain.tag == g.tag) = [k] → k.grain.vc = 0 → k.grain.op
    ≤ 1 → s.faette.transfers = [x] → x.req.id = k.req → x.answered = false → x.left = 1 → x.fails = [] → x.req.kind =
    0 → s.faette.queue = [] → s.ep.ended = [] → ∃ t, exec (.loadData (.link j) g) s = .next t ∧ t.out = (s.took (.link
    j) 1).out ++ [.engine k.req 0
    { x with got := x.got ++ [(k.pos, sliceB g.bytes 0 (64 * (g.respChunks + 1)))] }.bytes] ∧ ((t.faette.chan g.target
    g.reqVc).copies = (s.faette.chan g.target g.reqVc).copies.filter (fun c => c.grain.tag != g.tag)) ∧
    t.faette.transfers = [] ∧ t.faette.home = s.faette.home ∧ t.ep = s.ep ∧ t.regs = s.regs) ∧
  (∀ (s : State) (a : Arrival) (g : Grain), g.checkOk = true → g.status = 0 → g.reqVc = 0 ∨ g.reqVc = 2 ∨ g.reqVc = 4
    → (∀ k ∈ ((s.epOf a.ep).chan g.target g.reqVc).copies, k.grain.vc.toNat = g.reqVc) → (∀ x ∈ (s.epOf
    a.ep).transfers, x.fails = []) → (s.epOf a.ep).queue = [] → s.ep.ended = [] → ∃ t, exec (.completion a g) s =
    .next t ∧ (((t.epOf a.ep).chan g.target g.reqVc).copies = ((s.epOf a.ep).chan g.target g.reqVc).copies.filter (fun
    k => !covers g k)) ∧ t.home a.ep = s.home a.ep ∧ t.keys = s.keys ∧ t.xbar = s.xbar) ∧
  (∀ (s : State) (j : Fin 2) (g : Grain) (k : Copy) (x : Transfer), g.checkOk = true → g.path = false → g.cumulative =
    false → g.status ≠ 0 → (s.faette.chan g.target g.reqVc).copies.filter (fun c => c.grain.tag == g.tag) = [k] →
    k.grain.vc = 0 → k.grain.op ≤ 1 → s.faette.transfers = [x] → x.req.id = k.req → x.answered = false → x.left = 1 →
    x.fails = [] → x.req.kind = 0 → s.faette.queue = [] → s.ep.ended = [] → g.status ≠ St.targetLost → ∃ t, exec
    (.error (.link j) g) s = .next t ∧ t.out = (s.took (.link j) 1).out ++ [.engine k.req g.status x.bytes] ∧
    ((t.faette.chan g.target g.reqVc).copies = (s.faette.chan g.target g.reqVc).copies.filter (fun c => c.grain.tag !=
    g.tag)) ∧ t.faette.transfers = [] ∧ t.ep = s.ep ∧ t.regs = s.regs) ∧
  (∀ (s : State) (a : Arrival) (g : Grain) (k : Copy), g.checkOk = true → g.path = true → g.status = St.targetLost →
    g.reqVc = 0 ∨ g.reqVc = 2 ∨ g.reqVc = 4 → ((s.epOf a.ep).chan g.target g.reqVc).copies.find? (fun c => c.grain.tag
    == g.tag) = some k → (∀ k ∈ ((s.epOf a.ep).chan g.target g.reqVc).copies, k.grain.vc.toNat = g.reqVc) → (s.epOf
    a.ep).queue = [] → s.ep.ended = [] → ∃ t, exec (.error a g) s = .next t ∧ ((t.epOf a.ep).chan g.target
    g.reqVc).needReset = true ∧ (((t.epOf a.ep).chan g.target g.reqVc).copies = ((s.epOf a.ep).chan g.target
    g.reqVc).copies.filter (fun c => !covers g c && !c.from_ g.tag.toNat))) ∧
  (∀ (s : State) (a : Arrival) (g : Grain) (k : Copy), g.checkOk = true → g.path = true → g.status ≠ St.targetLost →
    k.grain.isSeqReset = false → (∀ c ∈ ((s.epOf a.ep).chan g.target g.reqVc).copies, c.spent (s.epReg a.ep 0x3080 2)
    = false) → g.reqVc = 0 ∨ g.reqVc = 2 ∨ g.reqVc = 4 → ((s.epOf a.ep).chan g.target g.reqVc).copies.find? (fun c =>
    c.grain.tag == g.tag) = some k → (∀ k ∈ ((s.epOf a.ep).chan g.target g.reqVc).copies, k.grain.vc.toNat = g.reqVc)
    → (s.epOf a.ep).queue = [] → s.ep.ended = [] → ∃ t, exec (.error a g) s = .next t ∧ (((t.epOf a.ep).chan g.target
    g.reqVc).copies.map (fun c => c.grain.tag) = (((s.epOf a.ep).chan g.target g.reqVc).copies.filter (fun c =>
    !covers g c && !c.from_ g.tag.toNat)).map (fun c => c.grain.tag) ++ g.tag :: (((s.epOf a.ep).chan g.target
    g.reqVc).copies.filter (fun c => !covers g c && c.from_ g.tag.toNat)).map (fun c => c.grain.tag)) ∧ ((((t.epOf
    a.ep).chan g.target g.reqVc).copies.find? (fun c => c.grain.tag == g.tag)).map (fun c => c.grain.isSeqReset) =
    some true)) ∧
  (∀ (s : State) (a : Arrival) (g : Grain), g.checkOk = false → ∃ t, exec (.loadData a g) s = .next t ∧ (t.epOf
    a.ep).send = (s.epOf a.ep).send ∧ t.home a.ep = s.home a.ep)

/-- NACKs, re-sends and the timeouts of a requester. RESEND_TIMEOUT_EXPIRY re-sends a grain that has had no
acknowledgement for RESEND_TIMEOUT spans, and the later ones of its channel, each with a new BIRTH and its TAG;
before that span it does nothing; after RESEND_LIMIT re-sends the grain fails with every later one and the channel
must begin again with SEQ_RESET. REQUEST_BACKSTOP fails a request once its time is over and does nothing before. A
VC4 grain only becomes due, for its partition's next owned grain times. A NACK whose BIRTH is not earlier than the
last send re-sends from the named TAG; one for a grain that was discarded early or aged out waits RESEND_TIMEOUT
spans from then. Every re-send is held to RESEND_LIMIT and to the credit of its channel. A device forwards a NACK of
another end-point on its route. -/
def Obligations.Resends : Prop :=
  (∀ (s : State) (w : EpSel) (dst : EpId) (vc : BitVec 3) (tag : BitVec 15) (k : Copy), ((s.epOf w).chan dst.toNat
    vc.toNat).copies.find? (fun c => c.grain.tag == tag) = some k → k.due = true ∨ s.epSpan w < k.lastSpan + s.epReg w
    0x3080 1 → exec (.resendTimeoutExpiry w dst vc tag) s = .next (s)) ∧
  (∀ (s : State) (w : EpSel) (dst : EpId) (vc : BitVec 3) (tag : BitVec 15) (k : Copy), ((s.epOf w).chan dst.toNat
    vc.toNat).copies.find? (fun c => c.grain.tag == tag) = some k → k.due = false → k.lastSpan + s.epReg w 0x3080 1 ≤
    s.epSpan w → s.mayResend w ((s.epOf w).chan dst.toNat vc.toNat).copies → vc ≠ 4 → s.ep.ended = [] → ∃ t, exec
    (.resendTimeoutExpiry w dst vc tag) s = .next t ∧ (((t.epOf w).chan dst.toNat vc.toNat).copies = lmod ((s.epOf
    w).chan dst.toNat vc.toNat).copies (fun c => c.from_ tag.toNat || c.due) (fun c => c.again (s.epSpan w))) ∧ t.home
    w = s.home w ∧ t.regs = s.regs) ∧
  (∀ (s : State) (w : EpSel) (dst : EpId) (tag : BitVec 15) (k : Copy), ((s.epOf w).chan dst.toNat 4).copies.find?
    (fun c => c.grain.tag == tag) = some k → k.due = false → k.lastSpan + s.epReg w 0x3080 1 ≤ s.epSpan w → (∀ c ∈
    ((s.epOf w).chan dst.toNat 4).copies, c.spent (s.epReg w 0x3080 2) = false) → s.ep.ended = [] → ∃ t, exec
    (.resendTimeoutExpiry w dst 4 tag) s = .next t ∧ (((t.epOf w).chan dst.toNat 4).copies = lmod ((s.epOf w).chan
    dst.toNat 4).copies (fun c => c.from_ tag.toNat) (fun c => { c with due := true })) ∧ t.out = s.out ∧ t.home w =
    s.home w) ∧
  (∀ (s : State) (w : EpSel) (dst : EpId) (vc : BitVec 3) (tag : BitVec 15) (k : Copy), ((s.epOf w).chan dst.toNat
    vc.toNat).copies.find? (fun c => c.grain.tag == tag) = some k → k.lastSpan + s.epReg w 0x3080 1 ≤ s.epSpan w →
    ((s.epOf w).chan dst.toNat vc.toNat).copies.find? (fun c => c.from_ tag.toNat && c.spent (s.epReg w 0x3080 2)) =
    some k → (∀ c ∈ ((s.epOf w).chan dst.toNat vc.toNat).copies, c.due = false) → vc = 0 ∨ vc = 2 ∨ vc = 4 → (∀ k ∈
    ((s.epOf w).chan dst.toNat vc.toNat).copies, k.grain.vc = vc) → (s.epOf w).queue = [] → s.ep.ended = [] → ∃ t,
    exec (.resendTimeoutExpiry w dst vc tag) s = .next t ∧ ((t.epOf w).chan dst.toNat vc.toNat).needReset = true ∧
    (((t.epOf w).chan dst.toNat vc.toNat).copies = ((s.epOf w).chan dst.toNat vc.toNat).copies.filter (fun c =>
    !(c.grain.tag.toNat == tag.toNat || tagBefore tag.toNat c.grain.tag.toNat)))) ∧
  (∀ (s : State) (w : EpSel) (dst : EpId) (vc : BitVec 3) (tag : BitVec 15) (k : Copy), ((s.epOf w).chan dst.toNat
    vc.toNat).copies.find? (fun c => c.grain.tag == tag) = some k → k.first = false → k.firstSpan + (s.epReg w 0x3080
    2 + 1) * s.epReg w 0x3080 1 + s.epReg w 0x3080 3 ≤ s.epSpan w → vc = 0 ∨ vc = 2 ∨ vc = 4 → (∀ k ∈ ((s.epOf w).chan
    dst.toNat vc.toNat).copies, k.grain.vc = vc) → (s.epOf w).queue = [] → s.ep.ended = [] → ∃ t, exec
    (.requestBackstop w dst vc tag) s = .next t ∧ ((t.epOf w).chan dst.toNat vc.toNat).needReset = true ∧ (((t.epOf
    w).chan dst.toNat vc.toNat).copies = ((s.epOf w).chan dst.toNat vc.toNat).copies.filter (fun c =>
    !(c.grain.tag.toNat == tag.toNat || tagBefore tag.toNat c.grain.tag.toNat)))) ∧
  (∀ (s : State) (w : EpSel) (dst : EpId) (vc : BitVec 3) (tag : BitVec 15) (k : Copy), ((s.epOf w).chan dst.toNat
    vc.toNat).copies.find? (fun c => c.grain.tag == tag) = some k → k.first = true ∨ s.epSpan w < k.firstSpan +
    (s.epReg w 0x3080 2 + 1) * s.epReg w 0x3080 1 + s.epReg w 0x3080 3 → exec (.requestBackstop w dst vc tag) s =
    .next (s)) ∧
  (∀ (s : State) (side : Fin 2) (x : RawToken) (lost : Bool) (m : Nat) (k : Copy), tokenFields (s.rxDisparity (.faette
    side)) x "NACK" = some m → fld m 65 63 ≠ 4 → fld m 65 63 ≠ 5 → fld m 56 55 = 0 ∨ fld m 56 55 = 3 → (s.faette.chan
    (fld m 39 26) (fld m 65 63)).copies.find? (fun c => c.grain.tag.toNat == fld m 54 40) = some k → birthEarlier (fld
    m 62 57) k.grain.birth.toNat = false → s.mayResend .faette (s.faette.chan (fld m 39 26) (fld m 65 63)).copies →
    s.ep.ended = [] → ∃ t, exec (.nack (.faette side) x lost) s = .next t ∧ ((t.faette.chan (fld m 39 26) (fld m 65
    63)).copies = lmod (s.faette.chan (fld m 39 26) (fld m 65 63)).copies (fun c => c.from_ (fld m 54 40) || c.due)
    (fun c => c.again s.faette.span)) ∧ t.faette.home = s.faette.home ∧ t.ep = s.ep) ∧
  (∀ (s : State) (side : Fin 2) (x : RawToken) (lost : Bool) (m : Nat) (k : Copy), tokenFields (s.rxDisparity (.faette
    side)) x "NACK" = some m → fld m 65 63 ≠ 5 → fld m 56 55 = 1 ∨ fld m 56 55 = 2 → (s.faette.chan (fld m 39 26) (fld
    m 65 63)).copies.find? (fun c => c.grain.tag.toNat == fld m 54 40) = some k → birthEarlier (fld m 62 57)
    k.grain.birth.toNat = false → s.ep.ended = [] → ∃ t, exec (.nack (.faette side) x lost) s = .next t ∧ (∀ c ∈
    (t.faette.chan (fld m 39 26) (fld m 65 63)).copies, c.grain.tag.toNat = fld m 54 40 → c.first = false → c.lastSpan
    = s.faette.span ∧ c.cause = some (fld m 56 55) ∧ c.due = false) ∧ ((t.faette.chan (fld m 39 26) (fld m 65
    63)).copies.map (fun c => c.grain) = (s.faette.chan (fld m 39 26) (fld m 65 63)).copies.map (fun c => c.grain)) ∧
    t.out = s.out) ∧
  (∀ (s : State) (p : Port) (x : RawToken) (lost : Bool) (m : Nat) (o : Nat), p.val < 48 → s.linkUp (linkOf p.val) =
    true → tokenFields (s.rxDisparity (.port p)) x "NACK" = some m → fld m 65 63 < 4 → fld m 79 66 ≠ s.ownEp → s.route
    (fld m 79 66) (fld m 79 66) (fld m 65 63) = some o → ∃ t, exec (.nack (.port p) x lost) s = .next t ∧ s.tokenOut o
    "NACK" m ∈ t.out ∧ t.ep.send = s.ep.send ∧ t.board = s.board)

/-- Requests of an accelerator's engines and their translation. A put of one grain whose channel is open is sent with
the next TAG of its channel and kept; one of the bulk class joins the VC4 grains that wait for owned grain times. A
load of a page that grants no reading fails with CONTEXT_DENIED and sends nothing; one whose page is not cached
waits and asks for a translation. A completion enters its pages into the cache and, when a waiting request's page is
not granted, fails it; so does the timeout. -/
def Obligations.EngineRequests : Prop :=
  (∀ (s : State) (r : EngReq) (g : Grain), r.kind = 4 → r.bulk = false → pieceGrains s.faette.id r
    { dst := r.dst, handle := r.handle, key := r.key, off := r.addr, len := r.len, pos := 0 } = [(g, 0)] → g.vc = 0 →
    s.faette.queue = [] → s.faette.fences = [] → (∀ c ∈ s.faette.send, ∀ k ∈ c.2.copies, s.faette.epoch ≤ k.epoch) →
    (∀ q ∈ s.faette.vc4, s.faette.epoch ≤ q.epoch) → (∀ x ∈ s.faette.waitTrans, s.faette.epoch ≤ x.epoch) →
    (s.faette.chan g.dst 0).needReset = false → (s.faette.chan g.dst 0).hasDue = false → (s.faette.chan g.dst
    0).copies.length < 16384 → s.faette.room 0 = true → s.mayLeave .faette g = true → ∃ t, exec (.engineRequest r) s =
    .next t ∧ ((t.faette.chan g.dst 0).copies.map (fun c => c.grain.tag) = (s.faette.chan g.dst 0).copies.map (fun c
    => c.grain.tag) ++ [BitVec.ofNat 15 (s.faette.chan g.dst 0).next]) ∧ (t.faette.chan g.dst 0).next =
    ((s.faette.chan g.dst 0).next + 1) % 32768 ∧ t.faette.queue = [] ∧ t.faette.transfers = s.faette.transfers ++
    [{ req := r, left := 1 }] ∧ t.faette.home = s.faette.home ∧ t.ep = s.ep ∧ t.regs = s.regs) ∧
  (∀ (s : State) (r : EngReq), r.kind = 4 → r.bulk = true → s.faette.queue = [] → ∃ t, exec (.engineRequest r) s =
    .next t ∧ (t.faette.vc4.map (fun q => q.grain) = s.faette.vc4.map (fun q => q.grain) ++ (pieceGrains s.faette.id r
    { dst := r.dst, handle := r.handle, key := r.key, off := r.addr, len := r.len, pos := 0 }).map (fun x => x.1)) ∧
    t.faette.send = s.faette.send ∧ t.out = s.out ∧ t.ep = s.ep) ∧
  (∀ (s : State) (r : EngReq) (e : BitVec 64), r.kind = 0 → s.context (r.pasid.getD 0) = some e → (lookup
    (s.faette.atc.filter fun x => x.pasid != r.pasid.getD 0 || x.ctx == e) (r.pasid.getD 0) false (r.len / 4096 + 2)
    r.addr r.len []).isNoRead = true → ∃ t, exec (.engineRequest r) s = .next t ∧ t.out = s.out ++ [.engine r.id
    St.contextDenied []] ∧ t.faette.send = s.faette.send ∧ t.faette.queue = s.faette.queue ∧ t.ep = s.ep) ∧
  (∀ (s : State) (r : EngReq) (e : BitVec 64) (va : Nat), r.kind = 0 → s.context (r.pasid.getD 0) = some e → (lookup
    (s.faette.atc.filter fun x => x.pasid != r.pasid.getD 0 || x.ctx == e) (r.pasid.getD 0) false (r.len / 4096 + 2)
    r.addr r.len []).missAt va = true → s.faette.ats = [] → ∃ t, exec (.engineRequest r) s = .next t ∧ t.out = s.out
    ++ [.agent "TranslationRequest" [r.pasid.getD 0, va / 2 ^ 18 * 2 ^ 18, 12, 0]] ∧ (t.faette.waitTrans.map (fun x =>
    (x.req.id, x.epoch)) = s.faette.waitTrans.map (fun x => (x.req.id, x.epoch)) ++ [(r.id, s.faette.epoch)]) ∧
    t.faette.send = s.faette.send ∧ t.ep = s.ep) ∧
  (∀ (s : State) (pasid va sizeLog : Nat) (pages : List AtsPage) (a : AtsReq), s.faette.ats.find? (fun a => a.pasid ==
    pasid && a.va == va && a.sizeLog == sizeLog) = some a → a.cut = [] → s.faette.waitTrans = [] → (∀ p ∈ pages,
    p.sizeLog ≤ 12 ∧ (p.r ∨ p.w) ∧ isTray p.tray.toNat = true) → ∃ t, exec (.atsTranslationCompletion pasid va sizeLog
    pages) s = .next t ∧ (t.faette.atc = pages.foldl (fun l p => atcInsert l
    { pasid, va := p.va / 2 ^ p.sizeLog * 2 ^ p.sizeLog, pages := 1, sizeLog := p.sizeLog, tray := p.tray.toNat, r := p.r, w := p.w, ctx := (s.context pasid).getD 0 })
    s.faette.atc) ∧ (t.faette.ats = ldrop s.faette.ats (fun x => x == a)) ∧ t.out = s.out ∧ t.ep = s.ep) ∧
  (∀ (s : State) (pasid va sizeLog : Nat) (a : AtsReq) (x : Waiting), s.faette.ats.find? (fun a => a.pasid == pasid &&
    a.va == va && a.sizeLog == sizeLog) = some a → a.cut = [] → s.faette.waitTrans = [x] → s.missesIn a x.req = true →
    ∃ t, exec (.atsTranslationCompletion pasid va sizeLog []) s = .next t ∧ t.out = s.out ++ [.engine x.req.id
    St.contextDenied []] ∧ t.faette.waitTrans = [] ∧ t.faette.send = s.faette.send) ∧
  (∀ (s : State) (pasid va sizeLog : Nat) (a : AtsReq) (x : Waiting), s.faette.ats.find? (fun a => a.pasid == pasid &&
    a.va == va && a.sizeLog == sizeLog) = some a → s.faette.waitTrans = [x] → s.missesIn a x.req = true → ∃ t, exec
    (.translationTimeout pasid va sizeLog) s = .next t ∧ t.out = s.out ++ [.engine x.req.id St.contextDenied []] ∧
    t.faette.waitTrans = [] ∧ (t.faette.ats = ldrop s.faette.ats (fun x => x == a)) ∧ t.faette.atc = s.faette.atc ∧
    t.faette.send = s.faette.send)

/-- Invalidation and flushing of an accelerator's caches. An Invalidate Request drops every cached run that overlaps
its range, for its PASID or for all, and leaves the others. Its completion goes out only when no transfer that was
translated through a dropped run still runs. FLUSH empties the caches that it names; with the context table go the
runs of a context whose entry has changed. -/
def Obligations.Invalidations : Prop :=
  (∀ (s : State) (itag : Nat) (pasid : Option Nat) (va len : Nat), ∃ t, exec (.atsInvalidateRequest itag pasid va len)
    s = .next t ∧ (t.faette.atc = s.faette.atc.filter (fun r => !((pasid == none || pasid == some r.pasid) && decide
    (r.va < va + len) && decide (va < r.va + r.size)))) ∧ (t.faette.invals.map (fun i => i.itag) = s.faette.invals.map
    (fun i => i.itag) ++ [itag]) ∧ t.faette.transfers = s.faette.transfers ∧ t.out = s.out ∧ t.ep = s.ep) ∧
  (∀ (s : State) (itag : Nat) (i : Inval), s.faette.invals.find? (fun x => x.itag == itag) = some i → i.reqs.any (fun
    r => s.faette.transfers.any (fun t => t.req.id == r && !t.answered)) = true → exec (.invalidateCompletion itag) s
    = .next (s)) ∧
  (∀ (s : State) (itag : Nat) (i : Inval), s.faette.invals.find? (fun x => x.itag == itag) = some i → (∀ r ∈ i.reqs, ∀
    t ∈ s.faette.transfers, t.req.id = r → t.answered = true) → ∃ t, exec (.invalidateCompletion itag) s = .next t ∧
    t.out = s.out ++ [.agent "InvalidateCompletion" [itag]] ∧ (t.faette.invals = s.faette.invals.filter (fun x =>
    x.itag != itag)) ∧ t.faette.atc = s.faette.atc ∧ t.ep = s.ep) ∧
  (∀ (s : State) (r : Route) (v : Bytes), faetteCheck 0x6200 0xB true v = none → ∃ t, exec (.flush r v) s = .next t ∧
    (t.faette.ctxCache = if bit (leNat v) 0 then [] else s.faette.ctxCache) ∧ (t.faette.bindCache = if bit (leNat v) 1
    then [] else s.faette.bindCache) ∧ (t.faette.atc = if bit (leNat v) 2 then [] else if bit (leNat v) 0 then
    s.faette.atc.filter (fun r => s.contextInTable r.pasid == some r.ctx) else s.faette.atc) ∧ t.out = s.out ++
    [.answer r 0x6200 0xB St.ok 0 []] ∧
    { t.faette with ctxCache := s.faette.ctxCache, bindCache := s.faette.bindCache, atc := s.faette.atc } = s.faette ∧
    t.ep = s.ep ∧ t.regs = s.regs)

/-- Fences, instances and the owned slots of an end-point. A fence gives later requests a higher epoch and drops every
copy held, and it covers what has failed since the fence before it; nothing leaves. It completes only when no
request that it covers is queued, unanswered, not yet translated or waiting for owned grain times, and then tells
the first failure among them, or OK. An instance given to a member is kept with its fingerprint; in an owned slot
its first grain leaves on the side of the slot, and a slot that the active schedule does not name, or a refused one,
sends nothing. -/
def Obligations.FencesAndSlots : Prop :=
  (∀ (s : State) (id : Nat) (pasid : BitVec 20), ∃ t, exec (.fenceLocal ⟨id, pasid⟩) s = .next t ∧ t.faette.failed =
    [] ∧ t.faette.epoch = s.faette.epoch + 1 ∧ t.faette.store = [] ∧ (t.faette.fences = s.faette.fences ++
    [s.faette.failed.foldl (fun f x => f.note x)
    { id, no := s.faette.epoch + 1, remote := false, pasid := pasid.toNat }]) ∧ { t with faette := s.faette } = s) ∧
  (∀ (s : State) (id : Nat) (pasid : BitVec 20), ∃ t, exec (.fenceRemote ⟨id, pasid⟩) s = .next t ∧ t.faette.failed =
    [] ∧ t.faette.epoch = s.faette.epoch + 1 ∧ t.faette.store = [] ∧ (t.faette.fences = s.faette.fences ++
    [s.faette.failed.foldl (fun f x => f.note x)
    { id, no := s.faette.epoch + 1, remote := true, pasid := pasid.toNat }]) ∧ { t with faette := s.faette } = s) ∧
  (∀ (s : State) (id : Nat) (f : Fence), s.faette.fences.find? (fun f => f.id == id) = some f → s.faette.waits f =
    true → exec (.fenceComplete id) s = .next (s)) ∧
  (∀ (s : State) (id : Nat) (f : Fence), s.faette.fences.find? (fun f => f.id == id) = some f → s.faette.waits f =
    false → s.faette.queue = [] → ∃ t, exec (.fenceComplete id) s = .next t ∧ (t.out = s.out ++ [.engine id
    ((f.first.map (fun x => x.2)).getD St.ok) []]) ∧ (t.faette.fences = s.faette.fences.filter (fun x => x.id != id))
    ∧ t.faette.send = s.faette.send ∧ t.ep = s.ep) ∧
  (∀ (s : State) (w : EpSel) (i : Submit), ∃ t, exec (.instanceSubmit w i) s = .next t ∧ (t.epOf w).insts = (s.epOf
    w).insts ++
    [{ desc := i.desc, fingerprint := fingerprint i.desc, member := i.member, members := i.members, handle := i.handle, data := i.data, mirrored := i.mirrored }]
    ∧ t.out = s.out ∧ t.home w = s.home w ∧ t.regs = s.regs) ∧
  (∀ (s : State) (w : EpSel) (side : Fin 2) (slot : BitVec 11) (x : EpSched), (s.epOf w).schedActive = some x →
    (s.epOf w).refuse = true ∨ s.epAlign w ≠ 2 ∨ s.sideRuns w side.val = false ∨ x.sends.find? (fun e => e.1 ==
    slot.toNat && e.2.1 == side.val) = none → exec (.endpointReservedSlot w side slot) s = .next (s)) ∧
  (∀ (s : State) (side : Fin 2) (slot : BitVec 11) (x : EpSched) (i : MemberInst) (part ctx : Nat) (g : Grain),
    s.faette.schedActive = some x → s.faette.refuse = false → s.faette.align = 2 → s.sideRuns .faette side.val = true
    → x.sends.find? (fun e => e.1 == slot.toNat && e.2.1 == side.val) = some (slot.toNat, side.val, part, 1, ctx) →
    s.faette.insts = [i] → dCtx i.desc = ctx → dPart i.desc = part → dFirst i.desc ≤ s.faette.span → i.mirrored =
    false → i.queues = [] → i.slots = [] → i.slotGrains s.faette.id 0 = [g] → i.copies = [] → s.faette.copiesHeld <
    32768 → 0 < s.slotGrains .faette side.val → ∃ t, exec (.endpointReservedSlot .faette side slot) s = .next t ∧
    .grain (64 + side.val) (g.seal s.faette.span) s.faette.span s.offsetNow [] ∈ t.out ∧ t.ep = s.ep ∧ t.faette.send =
    s.faette.send)

/-- Contributions and carries at the Counting Board. A contribution, first or later, adds each of its elements to its
bead once and changes no other bead. A CONTRIB_FIRST whose fingerprint differs ends the operation with MISMATCH and
notes the member. A carry grain adds its value words and leaves the beads of its escaped words; an escape image is
added to the bead of its element. A grain that has been added already, one of no resident context, and a damaged one
add nothing. -/
def Obligations.BoardInputs : Prop :=
  (∀ (s : State) (p : Port) (g : Grain), s.boardOpen g (inFmt (s.ctx g.context).desc).per → (s.ctx
    g.context).got.contains (0, g.sender, g.block) = false → ((s.ctx g.context).roster.membersAt (s.boardIndex
    g.context)).contains g.sender = true → ∃ t, exec (.contrib p g) s = .next t ∧ t.ep = s.ep ∧ t.keys = s.keys ∧
    t.out = s.out ∧ Contributed s t g) ∧
  (∀ (s : State) (p : Port) (g : Grain), s.boardOpen g (inFmt (s.ctx g.context).desc).per → (s.ctx
    g.context).got.contains (0, g.sender, g.block) = false → ((s.ctx g.context).roster.membersAt (s.boardIndex
    g.context)).contains g.sender = true → isData (s.ctx g.context).desc = false → g.fingerprint = (s.ctx
    g.context).fingerprint → ∃ t, exec (.contribFirst p g) s = .next t ∧ t.ep = s.ep ∧ t.keys = s.keys ∧ t.out = s.out
    ∧ Contributed s t g) ∧
  (∀ (s : State) (p : Port) (g : Grain), g.checkOk = true → s.boardTakes g = true → g.fingerprint ≠ (s.ctx
    g.context).fingerprint → ∃ t, exec (.contribFirst p g) s = .next t ∧ Ended t g.context St.mismatch 0x3FFF ∧
    g.sender ∈ (t.ctx g.context).noted ∧ t.keys = s.keys) ∧
  (∀ (s : State) (p : Port) (g : Grain), g.checkOk = true → s.boardTakes g = true → (s.ctx g.context).got.contains (0,
    g.sender, g.block) = true → ∃ t, exec (.contrib p g) s = .next t ∧ t.board = s.board ∧ t.reg 0x5040 6 = (s.reg
    0x5040 6 + 1) % 2 ^ 64 ∧ t.ep = s.ep ∧ t.out = s.out) ∧
  (∀ (s : State) (p : Port) (g : Grain), g.checkOk = true → s.boardTakes g = false → ∃ t, exec (.contrib p g) s =
    .next t ∧ t.board = s.board ∧ t.ep = s.ep) ∧
  (∀ (s : State) (p : Port) (g : Grain), g.checkOk = false → ∃ t, exec (.contrib p g) s = .next t ∧ t.board = s.board
    ∧ t.ep = s.ep) ∧
  (∀ (s : State) (p : Port) (g : Grain), g.op = 2 → s.boardOpen g (inFmt (s.ctx g.context).desc).words → (inFmt (s.ctx
    g.context).desc).long = false → (s.ctx g.context).got.contains (1, g.sender, g.block) = false → ((s.ctx
    g.context).roster.children (s.boardIndex g.context)).contains g.sender = true → hasReserved (s.ctx g.context).desc
    g = false → ∃ t, exec (.carry p g) s = .next t ∧ t.ep = s.ep ∧ t.out = s.out ∧ Carried s t g) ∧
  (∀ (s : State) (p : Port) (g : Grain), g.op = 3 → s.boardOpen g (inFmt (s.ctx g.context).desc).words → (inFmt (s.ctx
    g.context).desc).long = true → (s.ctx g.context).got.contains (1, g.sender, g.block) = false → ((s.ctx
    g.context).roster.children (s.boardIndex g.context)).contains g.sender = true → hasReserved (s.ctx g.context).desc
    g = false → ∃ t, exec (.longCarry p g) s = .next t ∧ t.ep = s.ep ∧ t.out = s.out ∧ Carried s t g) ∧
  (∀ (s : State) (p : Port) (g : Grain) (e seg v : Nat), s.boardOpen g 1 → ((s.ctx g.context).roster.children
    (s.boardIndex g.context)).contains g.sender = true → imagesOf (s.ctx g.context).desc g = [(e, seg, v)] → (s.ctx
    g.context).images.contains (g.sender, e, seg) = false → e < dCount (s.ctx g.context).desc → seg < gangOf (s.ctx
    g.context).desc → ∃ t, exec (.escape p g) s = .next t ∧ (t.ctx g.context).bead e = ((s.ctx g.context).bead e).take
    (gangOf (s.ctx g.context).desc) (opMode (dOp (s.ctx g.context).desc)) (0, (inFmt (s.ctx
    g.context).desc).segmentValue seg v) ∧ (t.ctx g.context).images = (g.sender, e, seg) :: (s.ctx g.context).images ∧
    t.ep = s.ep ∧ (∀ x, x ≠ e → (t.ctx g.context).bead x = (s.ctx g.context).bead x))

/-- Board slots, missing inputs and results. At the end of its slot a ROOT record emits a complete block: each of its
elements rounded once, with the operation's rounding, seed and overflow rule. A block that lacks one contribution is
not emitted and its sender is asked for it, again once per span, until RESEND_LIMIT requests have gone, when the
operation ends with RESEND_EXHAUSTED and names the member. A staged bead that cannot be read ends the operation with
DATA_LOST, a spilled image at the begin of an ESCAPE record with CARRY_EXHAUSTED; in an operation that another cause
has aborted such an image is only recorded. A member of a data primitive whose fingerprint grain has not come is
asked for it too. A slot without a record does nothing. A RESULT or DATA grain is written once at its elements'
place of the member's destination region. -/
def Obligations.BoardSlots : Prop :=
  (∀ (s : State) (lost : Bool), s.boardNow = none → exec (.boardSlotEnd lost) s = .next (s)) ∧
  (∀ (s : State), s.boardNow = none → exec (.escapeRecordBegin) s = .next (s)) ∧
  (∀ (s : State) (b : BoardRec) (per : Nat), s.boardNow = some b → b.role = 1 → (s.ctx b.ctx).state = 2 → dPart (s.ctx
    b.ctx).desc = b.part → isData (s.ctx b.ctx).desc = false → (s.ctx b.ctx).begun = [] → (s.ctx b.ctx).topBefore
    s.slotId = 1 → chunks (s.ctx b.ctx).desc = 1 → per = (outFmt (s.ctx b.ctx).desc).per → chunkBlocks (s.ctx
    b.ctx).desc per 0 = [0] → (s.ctx b.ctx).emitted = [] → (s.ctx b.ctx).lacks (s.boardIndex b.ctx) 0 (min (dCount
    (s.ctx b.ctx).desc) (dChunk (s.ctx b.ctx).desc)) = [] → min (dCount (s.ctx b.ctx).desc) (dChunk (s.ctx
    b.ctx).desc) = min (dCount (s.ctx b.ctx).desc) per → ∃ t, exec (.boardSlotEnd false) s = .next t ∧ (t.ctx
    b.ctx).emitted = [0] ∧ (tget (t.ctx b.ctx).results 0 0 = BitVec.ofNat 2048 ((outFmt (s.ctx
    b.ctx).desc).resultPayload ((List.range (min (dCount (s.ctx b.ctx).desc) per)).map fun i => exactOf (s.ctx
    b.ctx).desc (s.ctx b.ctx).roster.members.length ((s.ctx b.ctx).bead i)) (dRounding (s.ctx b.ctx).desc) (dSeed
    (s.ctx b.ctx).desc) 0 (dWrap (s.ctx b.ctx).desc))) ∧ t.keys = s.keys) ∧
  (∀ (s : State) (b : BoardRec) (per m : Nat), s.boardNow = some b → b.role = 1 → (s.ctx b.ctx).state = 2 → dPart
    (s.ctx b.ctx).desc = b.part → isData (s.ctx b.ctx).desc = false → (s.ctx b.ctx).begun = [] → (s.ctx
    b.ctx).finished = false → (s.ctx b.ctx).emitted = [] → (s.ctx b.ctx).missing = [] → (s.ctx b.ctx).topBefore
    s.slotId = 1 → chunks (s.ctx b.ctx).desc = 1 → per = (outFmt (s.ctx b.ctx).desc).per → chunkBlocks (s.ctx
    b.ctx).desc per 0 = [0] → (s.ctx b.ctx).lacks (s.boardIndex b.ctx) 0 (min (dCount (s.ctx b.ctx).desc) (dChunk
    (s.ctx b.ctx).desc)) = [(0, m, 0)] → min (dCount (s.ctx b.ctx).desc) (dChunk (s.ctx b.ctx).desc) = min (dCount
    (s.ctx b.ctx).desc) per → ∃ t, exec (.boardSlotEnd false) s = .next t ∧ (t.ctx b.ctx).missing =
    [{ kind := 0, sender := m, block := 0, nacks := 1 }] ∧ (t.ctx b.ctx).emitted = (s.ctx b.ctx).emitted ∧ (t.ctx
    b.ctx).beads = (s.ctx b.ctx).beads ∧ t.xbar.claims = s.xbar.claims) ∧
  (∀ (s : State) (b : BoardRec), s.boardNow = some b → (s.ctx b.ctx).state = 2 → dPart (s.ctx b.ctx).desc = b.part →
    isData (s.ctx b.ctx).desc = false → dStaged (s.ctx b.ctx).desc = true → ∃ t, exec (.boardSlotEnd true) s = .next t
    ∧ Ended t b.ctx St.dataLost 0x3FFF ∧ t.keys = s.keys) ∧
  (∀ (s : State) (b : BoardRec) (e : Nat × List BeadImage), s.boardNow = some b → b.role = 2 → (s.ctx b.ctx).state = 2
    → dPart (s.ctx b.ctx).desc = b.part → (s.ctx b.ctx).exhausted = false → (s.ctx b.ctx).works = [] → (s.ctx
    b.ctx).queues.find? (fun e => e.2.any (·.spilled)) = some e → ∃ t, exec (.escapeRecordBegin) s = .next t ∧ Ended t
    b.ctx St.carryExhausted 0x3FFF ∧ (t.ctx b.ctx).exhausted = true ∧ t.keys = s.keys) ∧
  (∀ (s : State) (b : BoardRec) (port block : Nat), s.boardNow = some b → b.role = 2 → (s.ctx b.ctx).state = 3 → dPart
    (s.ctx b.ctx).desc = b.part → (s.ctx b.ctx).left = some (port, block) → ∃ t, exec (.escapeRecordBegin) s = .next t
    ∧ t.reg 0x5040 4 = put port 23 18 + put b.slot 34 24 + put b.ctx 39 35 + put block 63 40 ∧ t.reg 0x5040 5 =
    dOperator (s.ctx b.ctx).desc ∧ t.reg 0x5040 3 = s.reg 0x5040 3 ∧ t.out = s.out) ∧
  (∀ (s : State) (k : Ctx) (m : Nat), (s.ctx k.val).state = 2 → isData (s.ctx k.val).desc = true → dFirst (s.ctx
    k.val).desc < s.clock.span → (s.ctx k.val).missing = [] → (s.ctx k.val).roster.membersAt (s.ctx k.val).me = [m] →
    (s.ctx k.val).got.contains (0, m, 0xFFFFFF) = false → 0 < s.reg 0x3080 2 → ∃ t, exec (.boardNackRepeat k) s =
    .next t ∧ (t.ctx k.val).missing = [{ kind := 0, sender := m, block := 0xFFFFFF, nacks := 1 }] ∧ (t.ctx
    k.val).state = 2) ∧
  (∀ (s : State) (k : Ctx) (m : Missing), (s.ctx k.val).state = 2 → isData (s.ctx k.val).desc = false → (s.ctx
    k.val).missing = [m] → m.nacks < s.reg 0x3080 2 → ∃ t, exec (.boardNackRepeat k) s = .next t ∧ (t.ctx
    k.val).missing = [{ m with nacks := m.nacks + 1 }] ∧ (t.ctx k.val).state = 2 ∧ (t.ctx k.val).beads = (s.ctx
    k.val).beads) ∧
  (∀ (s : State) (k : Ctx) (m : Missing), (s.ctx k.val).state = 2 → isData (s.ctx k.val).desc = false → (s.ctx
    k.val).missing = [m] → s.reg 0x3080 2 ≤ m.nacks → ∃ t, exec (.boardNackRepeat k) s = .next t ∧ (Ended t k.val
    St.resendExhausted (if m.kind = 0 then m.sender else 0x3FFF))) ∧
  (∀ (s : State) (a : Arrival) (g : Grain) (i : MemberInst), ({ g with vc := 5, op := 5 } : Grain).checkOk = true →
    (s.epOf a.ep).inst g.context g.part.toNat = some i → isData i.desc = false → i.needs = [(g.sender, g.block)] →
    i.got = [] → i.status = none → i.okHeld = false → i.mirrored = false → i.wanted true g.sender = (0, 1, 0) →
    g.block = 0 → (outFmt i.desc).isMx = false → 0 < (outFmt i.desc).per → ∃ t, exec (.result a g) s = .next t ∧
    (t.home a.ep).read (entBase (s.homeEntry a.ep i.handle) * 2 ^ 21 + dDestOffset i.desc) ((outFmt i.desc).width / 8)
    = g.bytes.take ((outFmt i.desc).width / 8) ∧ ((t.epOf a.ep).insts.any (fun x => i.same x && x.status == some
    St.ok) = true) ∧ KeepsOutside s t a.ep (entBase (s.homeEntry a.ep i.handle) * 2 ^ 21 + dDestOffset i.desc)
    ((outFmt i.desc).width / 8)) ∧
  (∀ (s : State) (a : Arrival) (g : Grain) (i : MemberInst), ({ g with vc := 5, op := 6 } : Grain).checkOk = true →
    (s.epOf a.ep).inst g.context g.part.toNat = some i → isData i.desc = true → i.needs = [(g.sender, g.block)] →
    i.got = [] → i.status = none → i.mirrored = false → i.wanted false g.sender = (0, 1, 0) → g.block = 0 → (outFmt
    i.desc).isMx = false → 0 < (outFmt i.desc).per → ∃ t, exec (.data a g) s = .next t ∧ (t.home a.ep).read (entBase
    (s.homeEntry a.ep i.handle) * 2 ^ 21 + dDestOffset i.desc) ((outFmt i.desc).width / 8) = g.bytes.take ((outFmt
    i.desc).width / 8) ∧ KeepsOutside s t a.ep (entBase (s.homeEntry a.ep i.handle) * 2 ^ 21 + dDestOffset i.desc)
    ((outFmt i.desc).width / 8))

/-- Admission of an operation. At an anchor alone in its tree an ADMIT that passes the checks makes its context
RESIDENT with its descriptor, fingerprint and roster and answers OK; one that fails them holds no context, counts as
refused and is answered with the status and DETAIL. A PREPARE that passes makes its context PREPARED with its
claims, one that fails leaves the contexts as they were. The last PREPARED of OK makes the anchor's context
RESIDENT. COMMIT makes a PREPARED context RESIDENT, or ends it with ADMISSION_LATE from its deadline on; RELEASE
frees it. CANCEL of the issuer ends a RESIDENT instance with CANCELLED; one of another end-point changes no context.
ADMIT_RESULT reaches the issuer with its four values. -/
def Obligations.Admission : Prop :=
  (∀ (s u : State) (m : Msg) (r : Roster), m.kind = 0x20 → s.takeMsg .internal m .kept = (u, true) → u.coresFA = none
    → u.reg 0x1020 1 ≠ 0 → m.part.toNat = dPart (descOf m.payload) → (u.rosterOf (descOf m.payload)).getD {} = r →
    r.devices = [(u.ownEp, 0x7FF)] → u.prepareCheck (descOf m.payload) = (0, 0, r, 0) → u.clock.span + 1 < dFirst
    (descOf m.payload) → dFirst (descOf m.payload) ≤ u.clock.span + 32767 → u.ep.ended = [] → ∃ t, exec (.admission m)
    s = .next t ∧ (t.ctx (dCtx (descOf m.payload))).state = 2 ∧ (t.ctx (dCtx (descOf m.payload))).desc = descOf
    m.payload ∧ (t.ctx (dCtx (descOf m.payload))).fingerprint = fingerprint (descOf m.payload) ∧ (t.ctx (dCtx (descOf
    m.payload))).roster = r ∧ (t.ctx (dCtx (descOf m.payload))).windows = windowsOf (descOf m.payload) (u.recordsOf
    (descOf m.payload)) ∧ ((tget t.ep.vc6 m.src.toNat []).head?.map (fun x => x.answer) = some (some (0x21, natLe 2 0
    ++ natLe 1 0 ++ natLe 2 0x3FFF ++ natLe 8 (fingerprint (descOf m.payload))))) ∧ t.keys = s.keys) ∧
  (∀ (s u : State) (m : Msg) (st detail : Nat) (x : Roster × Nat), m.kind = 0x20 → s.takeMsg .internal m .kept = (u,
    true) → u.coresFA = none → u.reg 0x1020 1 ≠ 0 → m.part.toNat = dPart (descOf m.payload) → u.partState (dPart
    (descOf m.payload)) = 1 → ((u.rosterOf (descOf m.payload)).getD {}).device u.ownEp = some 0 → u.prepareCheck
    (descOf m.payload) = (st, detail, x.1, x.2) → st ≠ 0 → dFirst (descOf m.payload) ≤ u.clock.span + 32767 →
    u.ep.ended = [] → ∃ t, exec (.admission m) s = .next t ∧ t.board.ctxs = s.board.ctxs ∧ (t.board.refused.map (fun x
    => (x.status, x.detail)) = s.board.refused.map (fun x => (x.status, x.detail)) ++ [(st, detail)]) ∧ t.reg 0x5000 6
    = (u.reg 0x5000 6 + 1) % 2 ^ 64 ∧ ((tget t.ep.vc6 m.src.toNat []).head?.map (fun x => x.answer) = some (some
    (0x21, natLe 2 st ++ natLe 1 detail ++ natLe 2 u.ownEp ++ natLe 8 (fingerprint (descOf m.payload)))))) ∧
  (∀ (s u : State) (m : Msg) (r : Roster) (me : Nat), m.kind = 0x22 → s.takeMsg .internal m .kept = (u, true) →
    u.coresFA = none → u.prepareCheck (descOf m.payload) = (0, 0, r, me) → ∃ t, exec (.prepare m) s = .next t ∧ (t.ctx
    (dCtx (descOf m.payload)) =
    { state := 1, desc := descOf m.payload, fingerprint := fingerprint (descOf m.payload), windows := windowsOf (descOf m.payload) (u.recordsOf (descOf m.payload)), claimed := if dStaged (descOf m.payload) then [] else u.lowWindows (windowsOf (descOf m.payload) (u.recordsOf (descOf m.payload))), roster := r, me })
    ∧ ((tget t.ep.vc6 m.src.toNat []).head?.map (fun x => x.answer) = some (some (0x23, natLe 2 0 ++ natLe 1 0))) ∧
    t.keys = s.keys) ∧
  (∀ (s u : State) (m : Msg) (st detail : Nat) (x : Roster × Nat), m.kind = 0x22 → s.takeMsg .internal m .kept = (u,
    true) → u.coresFA = none → u.prepareCheck (descOf m.payload) = (st, detail, x.1, x.2) → st ≠ 0 → ∃ t, exec
    (.prepare m) s = .next t ∧ t.board = s.board ∧ ((tget t.ep.vc6 m.src.toNat []).head?.map (fun x => x.answer) =
    some (some (0x23, natLe 2 st ++ natLe 1 detail))) ∧ t.reg 0x5000 6 = (u.reg 0x5000 6 + 1) % 2 ^ 64) ∧
  (∀ (s u : State) (m : Msg) (no k ep : Nat), s.takeAnswer .internal m = (u, some no) → u.ep.ended = [(no, 0)] →
    u.keys.now = none → u.prepareOf no = some k → (u.ctx k).awaiting = [(ep, no)] → (u.ctx k).state = 1 → (u.ctx
    k).prepared = [] → leAt m.payload 0 2 = 0 → u.clock.span + (u.ctx k).lead < dFirst (u.ctx k).desc → ∃ t, exec
    (.prepared m) s = .next t ∧ (t.ctx k).state = 2 ∧ (t.ctx k).awaiting = [] ∧ (t.ctx k).desc = (u.ctx k).desc ∧
    t.keys = s.keys) ∧
  (∀ (s u : State) (a : Arrival) (m : Msg) (no : Nat), (s.tookMsg a m).takeAnswer a.ep m = (u, some no) → ∃ t, exec
    (.admitResult a m) s = .next t ∧ .agent "ADMIT_RESULT" [leAt m.payload 0 2, leAt m.payload 2 1, leAt m.payload 3
    2, leAt m.payload 5 8] ∈ t.out) ∧
  (∀ (s u : State) (m : Msg) (k : Nat), m.kind = 0x24 → s.takeMsg .internal m .none = (u, true) → u.preparedBy m =
    some k → u.clock.span + 1 < dFirst (u.ctx k).desc → ∃ t, exec (.commit m) s = .next t ∧ t.ctx k =
    { u.ctx k with state := 2 } ∧ t.reg 0x5000 5 = (u.reg 0x5000 5 + 1) % 2 ^ 64 ∧ t.ep = u.ep ∧ t.keys = s.keys) ∧
  (∀ (s u : State) (m : Msg) (k : Nat), m.kind = 0x24 → s.takeMsg .internal m .none = (u, true) → u.preparedBy m =
    some k → dFirst (u.ctx k).desc ≤ u.clock.span + 1 → ∃ t, exec (.commit m) s = .next t ∧ Ended t k St.admissionLate
    0x3FFF) ∧
  (∀ (s u : State) (m : Msg) (k : Nat), m.kind = 0x25 → s.takeMsg .internal m .none = (u, true) → u.preparedBy m =
    some k → ∃ t, exec (.release m) s = .next t ∧ t.board.ctxs = tdel u.board.ctxs k ∧ t.ep = u.ep ∧ t.keys = s.keys) ∧
  (∀ (s u : State) (m : Msg) (c : Context), m.kind = 0x26 → s.coresFA = none → s.cancelled (leAt m.payload 0 1) (leAt
    m.payload 1 8) = some c → dIssuer c.desc = m.src.toNat → c.state = 2 → s.takeMsg .internal m .none = (u, true) → ∃
    t, exec (.cancel m) s = .next t ∧ Ended t (leAt m.payload 0 1 % 32) St.cancelled 0x3FFF ∧ t.keys = s.keys) ∧
  (∀ (s : State) (m : Msg) (c : Context), m.kind = 0x26 → s.coresFA = none → s.cancelled (leAt m.payload 0 1) (leAt
    m.payload 1 8) = some c → dIssuer c.desc ≠ m.src.toNat → ∃ t, exec (.cancel m) s = .next t ∧ t.board = s.board ∧
    t.keys = s.keys ∧ t.regs = s.regs)

/-- How an instance ends. The first end token of a held instance ends its context with the token's STATUS and SUBJECT
and frees its beads; a later one changes no context. While the context is QUIESCING the token is repeated;
AGEING_LIMIT + 1 spans after it the context is free, and not before. A data primitive ends OK when its time is over,
a reduction with a digest when its results are out, its record carrying the digest. The deadlines end a PREPARED
context with ADMISSION_LATE, not earlier. A completion record that falls due is logged and owed no longer; notes of
dissenters are gathered until then; a record reaches its issuer. -/
def Obligations.EndsOfInstances : Prop :=
  (∀ (s u : State) (p : Port) (x : RawToken) (m : Nat), s.takeUrgent (.port p) x "End" = (u, some m) → (u.ctx (fld m
    57 53)).held = true → dPart (u.ctx (fld m 57 53)).desc = fld m 63 58 → dInst (u.ctx (fld m 57 53)).desc = fld m 52
    37 → ∃ t, exec (.endToken (.port p) x) s = .next t ∧ Ended t (fld m 57 53) (fld m 36 21) (fld m 20 7) ∧ (t.ctx
    (fld m 57 53)).endSpan = s.clock.span ∧ t.keys = s.keys ∧ t.xbar = s.xbar) ∧
  (∀ (s u : State) (p : Port) (x : RawToken) (m : Nat), s.takeUrgent (.port p) x "End" = (u, some m) → (u.ctx (fld m
    57 53)).held = false → ∃ t, exec (.endToken (.port p) x) s = .next t ∧ t.board = s.board ∧ t.ep = s.ep ∧ t.keys =
    s.keys) ∧
  (∀ (s : State) (side : Fin 2) (x : RawToken) (m : Nat) (i : MemberInst), tokenFields (s.rxDisparity (.faette side))
    x "End" = some m → fld m 36 21 = 0 → s.faette.insts = [i] → dPart i.desc = fld m 63 58 → dCtx i.desc = fld m 57 53
    → dInst i.desc = fld m 52 37 → i.stopAt = none → i.status = none → i.complete = true → ∃ t, exec (.endToken
    (.faette side) x) s = .next t ∧ t.out = s.out ++ [.agent "INSTANCE_STATUS" [dCtx i.desc, dFirst i.desc, i.member,
    St.ok]] ∧ t.faette.insts = [] ∧ t.ep = s.ep) ∧
  (∀ (s : State) (k : Ctx) (st sub p : Nat), (s.ctx k.val).state = 3 → (s.ctx k.val).ended = some (st, sub) → (s.ctx
    k.val).tokens = [p] → p ≠ 48 → s.linkUp (linkOf p) = true → ∃ t, exec (.endTokenRepeat k) s = .next t ∧ t.out =
    s.out ++ [s.tokenOut p "End" (endFields (s.ctx k.val).desc st sub)] ∧ t.board = s.board ∧ t.ep = s.ep) ∧
  (∀ (s : State) (k : Ctx), (s.ctx k.val).state ≠ 3 ∨ (s.ctx k.val).ended = none → exec (.endTokenRepeat k) s = .next
    (s)) ∧
  (∀ (s : State) (k : Ctx), (s.ctx k.val).state = 3 → (s.ctx k.val).recordOwed = false → (s.ctx k.val).endSpan + s.reg
    0x3080 3 + 1 ≤ s.clock.span → ∃ t, exec (.quiesceExpiry k) s = .next t ∧ t.board.ctxs = tdel s.board.ctxs k.val ∧
    { t with board := s.board } = s) ∧
  (∀ (s : State) (k : Ctx), (s.ctx k.val).state ≠ 3 ∨ s.clock.span < (s.ctx k.val).endSpan + s.reg 0x3080 3 + 1 → exec
    (.quiesceExpiry k) s = .next (s)) ∧
  (∀ (s : State) (k : Ctx), (s.ctx k.val).state = 2 → (s.ctx k.val).anchor = true → isData (s.ctx k.val).desc = true →
    dFirst (s.ctx k.val).desc + dSpans (s.ctx k.val).desc + s.reg 0x3080 3 ≤ s.clock.span → ∃ t, exec
    (.dataPrimitiveEnd k) s = .next t ∧ Ended t k.val 0 0x3FFF ∧ (t.ctx k.val).recordOwed = false ∧ t.keys = s.keys) ∧
  (∀ (s : State) (k : Ctx), (s.ctx k.val).state = 2 → s.clock.span < dFirst (s.ctx k.val).desc + dSpans (s.ctx
    k.val).desc + s.reg 0x3080 3 → exec (.dataPrimitiveEnd k) s = .next (s)) ∧
  (∀ (s : State) (k : Ctx), (s.ctx k.val).state = 3 → (s.ctx k.val).recordOwed = true → (s.ctx k.val).endSpan + 4 ≤
    s.clock.span → (s.ctx k.val).ring = none → s.board.refused = [] → s.coreStop 3 = none → ∃ t, exec
    (.completionRecordDue k) s = .next t ∧ (t.ctx k.val).recordOwed = false ∧ t.reg 0x5050 1 = (s.reg 0x5050 1 + 1) %
    2 ^ 64 ∧ (t.reg 0x5050 2 = completionRecord (s.ctx k.val).desc (s.ctx k.val).fingerprint 0 (s.ctx k.val).endSpan
    (s.ctx k.val).refusingEp (s.ctx k.val).detail ((s.ctx k.val).ended.getD (0, 0)).1 ((s.ctx k.val).dissent.map fun i
    => (i, ((s.ctx k.val).roster.member i).ep))) ∧ .message (dIssuer (s.ctx k.val).desc) 1 0x28 (natLe 128 (t.reg
    0x5050 2)) ∈ t.out ∧ t.keys = s.keys) ∧
  (∀ (s : State) (k : Ctx), (s.ctx k.val).state = 2 → (s.ctx k.val).anchor = true → (s.ctx k.val).finished = true →
    (s.ctx k.val).ring = none → s.resultsOut k.val = true → dDigest (s.ctx k.val).desc = true → s.comparedEqual k.val
    = true → s.coreStop 3 = none → ∃ t, exec (.operationDigestComplete k) s = .next t ∧ Ended t k.val 0 0x3FFF ∧
    (t.reg 0x5050 2 = completionRecord (s.ctx k.val).desc (s.ctx k.val).fingerprint (s.ctx k.val).digest s.clock.span
    (s.ctx k.val).refusingEp (s.ctx k.val).detail 0 ((s.ctx k.val).dissent.map fun i => (i, ((s.ctx
    k.val).roster.member i).ep))) ∧ t.keys = s.keys) ∧
  (∀ (s : State) (k : Ctx), (s.ctx k.val).state = 1 → (s.ctx k.val).anchor = true → dFirst (s.ctx k.val).desc ≤
    s.clock.span + (s.ctx k.val).lead → ∃ t, exec (.admitDeadline k) s = .next t ∧ Ended t k.val St.admissionLate
    0x3FFF ∧ (t.ctx k.val).refusingEp = s.ownEp ∧ (t.ctx k.val).recordOwed = true) ∧
  (∀ (s : State) (k : Ctx), (s.ctx k.val).state ≠ 1 ∨ s.clock.span + (s.ctx k.val).lead < dFirst (s.ctx k.val).desc →
    exec (.admitDeadline k) s = .next (s)) ∧
  (∀ (s : State) (k : Ctx), (s.ctx k.val).state = 1 → (s.ctx k.val).anchor = false → dFirst (s.ctx k.val).desc ≤
    s.clock.span + 1 → ∃ t, exec (.commitDeadline k) s = .next t ∧ Ended t k.val St.admissionLate 0x3FFF ∧ (t.ctx
    k.val).recordOwed = false) ∧
  (∀ (s : State) (k : Ctx), (s.ctx k.val).state ≠ 1 ∨ s.clock.span + 1 < dFirst (s.ctx k.val).desc → exec
    (.commitDeadline k) s = .next (s)) ∧
  (∀ (s u : State) (m : Msg), m.kind = 0x27 → s.takeOrRefuse .internal m s.coresFA = (u, true) → (u.ctx (leAt
    m.payload 0 1 % 32)).state = 3 → (u.ctx (leAt m.payload 0 1 % 32)).anchor = true → (u.ctx (leAt m.payload 0 1 %
    32)).recordOwed = true → dFirst (u.ctx (leAt m.payload 0 1 % 32)).desc = leAt m.payload 1 8 → u.clock.span ≤
    (u.ctx (leAt m.payload 0 1 % 32)).endSpan + 4 → ∃ t, exec (.mismatchNote m) s = .next t ∧ ((t.ctx (leAt m.payload
    0 1 % 32)).dissent = ((u.ctx (leAt m.payload 0 1 % 32)).dissent ++ (List.range (leAt m.payload 9 2)).map fun i =>
    leAt m.payload (11 + 2 * i) 2).eraseDups) ∧ { t with board := u.board } = u) ∧
  (∀ (s u : State) (a : Arrival) (m : Msg), m.kind = 0x28 → (s.tookMsg a m).takeMsg a.ep m .none = (u, true) → ∃ t,
    exec (.collectiveCompletion a m) s = .next t ∧ t.out = u.out ++ [.agent "COMPLETION" [leAt m.payload 0 128]] ∧
    { t with out := u.out } = u)

/-- Barriers. An ARRIVE at the current epoch from a child port that has not arrived is noted; the last one at the root
releases every child, toggles the epoch and forgets the arrivals; a stray one changes no barrier. A RELEASE counts
at the current epoch only. An end-point's engine sends two ARRIVE tokens on its parent side and waits; a RELEASE
lets the engines of its barrier go, with ABORTED_PEER where it is broken. -/
def Obligations.Barriers : Prop :=
  (∀ (s u : State) (p : Port) (x : RawToken) (m b : Nat), s.takeUrgent (.port p) x "Barrier" = (u, some m) → bit m 22
    = false → bit m 20 = false → b = fld m 13 2 → (u.barrier b).valid = true → (u.barrier b).children.contains
    (halfPort p.val (fld m 23 23)) = true → fld m 19 14 = (u.barrier b).part → bit m 21 = (u.barrier b).epoch →
    (u.barrier b).arrived.contains (halfPort p.val (fld m 23 23)) = false → ∃ t, exec (.barrierArrive (.port p) x) s =
    .next t ∧ (t.barrier b = if (u.barrier b).children.all ((u.barrier b).arrived ++ [halfPort p.val (fld m 23
    23)]).contains && !(u.barrier b).broken && decide ((u.barrier b).parent = 0x3F) then
    { u.barrier b with epoch := !(u.barrier b).epoch, arrived := [], broken := false } else
    { u.barrier b with arrived := (u.barrier b).arrived ++ [halfPort p.val (fld m 23 23)] }) ∧ t.ep = s.ep ∧ t.keys =
    s.keys) ∧
  (∀ (s u : State) (p : Port) (x : RawToken) (m b : Nat), s.takeUrgent (.port p) x "Barrier" = (u, some m) → bit m 22
    = false → b = fld m 13 2 → (u.barrier b).valid = false ∨ fld m 19 14 ≠ (u.barrier b).part ∨ bit m 21 ≠ (u.barrier
    b).epoch ∨ (u.barrier b).arrived.contains (halfPort p.val (fld m 23 23)) = true → ∃ t, exec (.barrierArrive (.port
    p) x) s = .next t ∧ t.board = s.board ∧ t.out = s.out ∧ t.ep = s.ep) ∧
  (∀ (s u : State) (p : Port) (x : RawToken) (m b : Nat), s.takeUrgent (.port p) x "Barrier" = (u, some m) → bit m 22
    = true → b = fld m 13 2 → ∃ t, exec (.barrierRelease (.port p) x) s = .next t ∧ (t.barrier b = if (u.barrier
    b).valid && bit m 21 == (u.barrier b).epoch then
    { u.barrier b with epoch := !(u.barrier b).epoch, arrived := [], broken := false } else u.barrier b) ∧ t.ep = s.ep
    ∧ t.keys = s.keys) ∧
  (∀ (s : State) (side : Fin 2) (x : RawToken) (m b id part : Nat), tokenFields (s.rxDisparity (.faette side)) x
    "Barrier" = some m → bit m 22 = true → b = fld m 13 2 → bit m 21 = tget s.faette.epochs b false →
    s.faette.waitBarrier = [(id, b, part)] → ∃ t, exec (.barrierRelease (.faette side) x) s = .next t ∧ (t.out = s.out
    ++ [.engine id (if bit m 20 then St.abortedPeer else St.ok) []]) ∧ t.faette.waitBarrier = [] ∧ tget
    t.faette.epochs b false = !bit m 21 ∧ t.ep = s.ep) ∧
  (∀ (s : State) (id : Nat) (b : BitVec 12) (part : Part) (f : Nat), s.faette.sideUp.contains s.faette.parent = true →
    f = put (b2n (tget s.faette.epochs b.toNat false)) 21 21 + put part.val 19 14 + put b.toNat 13 2 → ∃ t, exec
    (.engineBarrierArrive id b part) s = .next t ∧ t.out = s.out ++ [s.tokenOut (64 + s.faette.parent) "Barrier" f,
    (s.putToken (64 + s.faette.parent) "Barrier" f).tokenOut (64 + s.faette.parent) "Barrier" f] ∧
    t.faette.waitBarrier = s.faette.waitBarrier ++ [(id, b.toNat, part.val)] ∧
    { t with out := s.out, faette := s.faette, disparity := s.disparity } = s)

/-- Key commands at the key primary. A register of a handle that has no valid entry sends the record to the region's
owner and leaves the table as it is until the owner has accepted; then the entry is in the tile. A revoke clears
VALID in the tile first and tells the owner; a mark-dead sets the dead flag; no other entry changes. A READ asks the
owner for the partner record and then puts entry and record into 6010. An owner that refuses, or does not answer in
64 spans, ends the command and changes no entry; before the 64 spans nothing happens. -/
def Obligations.KeyCommands : Prop :=
  (∀ (s : State) (r : Route) (h : Nat) (e par : Ent), s.passes r 0x6010 4 [1] = true → s.tokenFree r 0x6010 = true →
    s.pair.state = 0 → s.loadRuns = false → s.keys.now = none → s.keys.todo = [] → s.ownPart r = none → h = s.reg
    0x6010 1 % 2 ^ 21 → BitVec.ofNat 128 (s.reg 0x6010 2) = e → BitVec.ofNat 128 (s.reg 0x6010 3) = par →
    s.registerCheck h e = none → entKey e ≠ 0 → entValid (s.keyEntry h) = false → ∃ t, exec (.register r) s = .next t
    ∧ (.message (entOwner e) 0 0x40 (natLe 32 (keyRecord h (BitVec.ofNat 128 (entKey e * 2 ^ 96 + fld e.toNat 95 2 * 4
    + 1)) (if entMirrored e then par else 0))) ∈ t.out) ∧ t.keys.table = s.keys.table ∧ (t.keys.now.map (fun j =>
    (j.phase, j.handle)) = some (3, h)) ∧ t.stepRuns 0x6010 4 = true ∧ t.regs = s.regs) ∧
  (∀ (s u : State) (m : Msg) (no : Nat) (j : KeyJob), s.takeAnswer .internal m = (u, some no) → u.keys.now = some j →
    j.no = no → j.phase = 3 → j.purpose = 0 → u.pair.state = 0 → u.keys.todo = [] → u.ep.ended = [(no, 0)] → leAt
    m.payload 0 2 = 0 → u.coreStop 2 = none → ∃ t, exec (.homeAck m) s = .next t ∧ t.keys.table = tset s.keys.table
    j.handle j.ent ∧ t.keys.now = none ∧ t.home .faette = s.home .faette) ∧
  (∀ (s u : State) (m : Msg) (no : Nat) (j : KeyJob), s.takeAnswer .internal m = (u, some no) → u.keys.now = some j →
    j.no = no → j.phase = 3 → j.purpose = 0 → u.keys.todo = [] → u.ep.ended = [(no, 0)] → leAt m.payload 0 2 ≠ 0 →
    u.coreStop 2 = none → ∃ t, exec (.homeAck m) s = .next t ∧ t.keys.table = s.keys.table ∧ t.keys.now = none) ∧
  (∀ (s : State) (r : Route) (h : Nat), s.passes r 0x6010 4 [2] = true → s.tokenFree r 0x6010 = true → s.pair.state =
    0 → s.loadRuns = false → s.keys.now = none → s.keys.todo = [] → h = s.reg 0x6010 1 % 2 ^ 21 → entValid (s.keyEntry
    h) = true → entDead (s.keyEntry h) = false → ∃ t, exec (.revoke r) s = .next t ∧ t.keyEntry h = entSet (s.keyEntry
    h) 0 false ∧ .message (entOwner (t.keyEntry h)) 0 0x40 (natLe 32 (keyRecord h (t.keyEntry h) 0)) ∈ t.out ∧
    (t.keys.now.map (fun j => (j.phase, j.handle)) = some (2, h)) ∧ t.regs = s.regs ∧ (∀ x, x ≠ h → t.keyEntry x =
    s.keyEntry x)) ∧
  (∀ (s : State) (r : Route) (h : Nat), s.passes r 0x6010 4 [3] = true → s.tokenFree r 0x6010 = true → s.pair.state =
    0 → s.loadRuns = false → s.keys.now = none → s.keys.todo = [] → h = s.reg 0x6010 1 % 2 ^ 21 → entValid (s.keyEntry
    h) = true → ∃ t, exec (.markDead r) s = .next t ∧ t.keyEntry h = entSet (s.keyEntry h) 1 true ∧ .message (entOwner
    (t.keyEntry h)) 0 0x40 (natLe 32 (keyRecord h (t.keyEntry h) 0)) ∈ t.out ∧ t.keys.now = none ∧ (∀ x, x ≠ h →
    t.keyEntry x = s.keyEntry x)) ∧
  (∀ (s : State) (r : Route) (h : Nat), s.passes r 0x6010 4 [4] = true → s.tokenFree r 0x6010 = true → s.pair.state =
    0 → s.loadRuns = false → s.keys.now = none → s.keys.todo = [] → h = s.reg 0x6010 1 % 2 ^ 21 → entValid (s.keyEntry
    h) = true → ∃ t, exec (.keyEntryRead r) s = .next t ∧ t.keys.table = s.keys.table ∧ .message (entOwner (s.keyEntry
    h)) 0 0x42 (natLe 4 h) ∈ t.out ∧ (t.keys.now.map (fun j => (j.phase, j.ent)) = some (6, s.keyEntry h)) ∧ t.regs =
    s.regs) ∧
  (∀ (s u : State) (m : Msg) (no : Nat) (j : KeyJob), s.takeAnswer .internal m = (u, some no) → u.keys.now = some j →
    j.no = no → j.phase = 6 → j.kind = 4 → j.purpose = 0 → u.keys.todo = [] → u.ep.ended = [(no, 0)] → u.coreStop 2 =
    none → ∃ t, exec (.mirrorState m) s = .next t ∧ t.reg 0x6010 2 = j.ent.toNat ∧ t.reg 0x6010 3 = leAt m.payload 4
    16 % 2 ^ 128 ∧ t.keys.table = s.keys.table ∧ t.keys.now = none) ∧
  (∀ (s : State) (j : KeyJob), s.keys.now = some j → j.phase = 2 ∨ j.phase = 3 → j.purpose = 0 → s.keys.todo = [] →
    j.sentSpan + 64 ≤ s.clock.span → s.coreStop 2 = none → ∃ t, exec (.homeAckTimeout) s = .next t ∧ t.keys.now = none
    ∧ t.keys.table = s.keys.table ∧ t.ep.home = s.ep.home) ∧
  (∀ (s : State) (j : KeyJob), s.keys.now = some j → s.clock.span < j.sentSpan + 64 → exec (.homeAckTimeout) s = .next
    (s))

/-- A home's table, and partitions. A HOME_UPDATE of one of an end-point's own switches that registers enters the
record in the home's table, alive, and answers OK; one that the home may not hold leaves the table as it was and is
answered with the reason; VALID 0 clears VALID; both write the partner record, and a tray region tags its units for
its partition. MIRROR_QUERY is answered with the partner record. A partition opens with a fresh memory key, which
changes what no other unit reads as, when the conditions hold and is refused else; closing one with no entry ends at
once with its key destroyed and a scrub owed, one with entries is CLOSING until they are revoked. A scrub starts for
a closed partition and is refused for another. -/
def Obligations.HomeAndPartitions : Prop :=
  (∀ (s u : State) (a : Arrival) (m : Msg) (x : Nat), m.kind = 0x40 → (s.tookMsg a m).isOwnSwitch a.ep m.src.toNat =
    true → (s.tookMsg a m).takeMsg a.ep m .kept = (u, true) → (Machine.pieces 32 (min 8 (m.payload.length / 32))
    m.payload).map leNat = [x] → entValid (recEntry x) = true → u.homeAccepts a.ep (recEntry x) = 0 →
    s.ep.home.tableAt = none → ∃ t, exec (.homeUpdate a m) s = .next t ∧ (t.home a.ep).entry (recHandle x) = entSet
    (recEntry x) 1 false ∧ ((t.home a.ep).partner (recHandle x) = parWith (recPartner x) (if entMirrored (recEntry x)
    then 1 else 0)) ∧ ((tget (t.epOf a.ep).vc6 m.src.toNat []).head?.map (fun x => x.answer) = some (some (0x41, natLe
    2 0))) ∧ t.keys = s.keys ∧ (∀ n, (a.ep = .internal ∧ u.trayExposed (recEntry x) = true → (entUnits (recEntry
    x)).contains (n / 2 ^ 21) = false) → (s.home a.ep).offRecord (recHandle x) n = true → (t.home a.ep).byte n =
    (s.home a.ep).byte n) ∧ (a.ep = .internal → u.trayExposed (recEntry x) = true → ∀ n ∈ entUnits (recEntry x), tget
    t.ep.home.tags n 64 = entPart (recEntry x)) ∧ (∀ h, h ≠ recHandle x → (t.home a.ep).entry h = (s.home a.ep).entry
    h)) ∧
  (∀ (s u : State) (a : Arrival) (m : Msg) (x st : Nat), m.kind = 0x40 → (s.tookMsg a m).isOwnSwitch a.ep m.src.toNat
    = true → (s.tookMsg a m).takeMsg a.ep m .kept = (u, true) → (Machine.pieces 32 (min 8 (m.payload.length / 32))
    m.payload).map leNat = [x] → entValid (recEntry x) = true → u.homeAccepts a.ep (recEntry x) = st → st ≠ 0 → ∃ t,
    exec (.homeUpdate a m) s = .next t ∧ t.home a.ep = s.home a.ep ∧ ((tget (t.epOf a.ep).vc6 m.src.toNat
    []).head?.map (fun x => x.answer) = some (some (0x41, natLe 2 st))) ∧ t.keys = s.keys) ∧
  (∀ (s u : State) (a : Arrival) (m : Msg) (x : Nat), m.kind = 0x40 → (s.tookMsg a m).isOwnSwitch a.ep m.src.toNat =
    true → (s.tookMsg a m).takeMsg a.ep m .kept = (u, true) → (Machine.pieces 32 (min 8 (m.payload.length / 32))
    m.payload).map leNat = [x] → entValid (recEntry x) = false → ∃ t, exec (.homeUpdate a m) s = .next t ∧ (t.home
    a.ep).entry (recHandle x) = entSet ((s.home a.ep).entry (recHandle x)) 0 false ∧ ((t.home a.ep).partner (recHandle
    x) = parWith (recPartner x) (if entMirrored (recEntry x) then 1 else 0)) ∧ (∀ n, (s.home a.ep).offRecord
    (recHandle x) n = true → (t.home a.ep).byte n = (s.home a.ep).byte n) ∧ (∀ h, h ≠ recHandle x → (t.home
    a.ep).entry h = (s.home a.ep).entry h)) ∧
  (∀ (s u : State) (a : Arrival) (m : Msg), m.kind = 0x42 → (s.tookMsg a m).takeMsg a.ep m .reading = (u, true) → ∃ t,
    exec (.mirrorQuery a m) s = .next t ∧ Sent u t a.ep
    { mkMgmt 1 m.part.toNat (s.epId a.ep) m.src.toNat 1 0x43 0 true (natLe 4 (leAt m.payload 0 4) ++ natLe 16 ((s.home a.ep).partner (leAt m.payload 0 4 % 2 ^ 21)).toNat) with tag := m.tag }
    ∧ t.home a.ep = s.home a.ep ∧ t.keys = s.keys) ∧
  (∀ (s : State) (r : Route) (p : Part), s.passes r (0x6100 + p.val) 2 [1] = true → s.mayOpen p.val = true → ∃ t, exec
    (.partitionOpen r p) s = .next t ∧ t.partState p.val = 1 ∧ tget t.keys.memKey p.val 0 = Config.random s.fresh 512
    ∧ t.home .faette = s.home .faette ∧ t.keys.table = s.keys.table ∧ t.board = s.board ∧ (∀ n, (s.ep.home.tags.find?
    (fun e => e.1 == n / 2 ^ 21)).map (fun e => e.2) ≠ some p.val → (t.home .internal).byte n = (s.home
    .internal).byte n)) ∧
  (∀ (s : State) (r : Route) (p : Part), s.passes r (0x6100 + p.val) 2 [1] = true → s.mayOpen p.val = false → ∃ t,
    exec (.partitionOpen r p) s = .next t ∧ Served s t r (0x6100 + p.val) 2 St.contextDenied) ∧
  (∀ (s : State) (r : Route) (p : Part), s.passes r (0x6100 + p.val) 2 [2] = true → s.tokenFree r (0x6100 + p.val) =
    true → s.stepRuns (0x6100 + p.val) 2 = false → s.loadRuns = false → s.pair.state = 0 → s.partState p.val = 1 →
    s.partEntries p.val = [] → ∃ t, exec (.partitionClose r p) s = .next t ∧ t.partState p.val = 0 ∧
    (t.keys.memKey.all (fun e => e.1 != p.val) = true) ∧ bit (t.reg 0x6310 6) p.val = true ∧ t.keys.table =
    s.keys.table ∧ t.home .faette = s.home .faette ∧ (∀ n, (s.ep.home.tags.find? (fun e => e.1 == n / 2 ^ 21)).map
    (fun e => e.2) ≠ some p.val → (t.home .internal).byte n = (s.home .internal).byte n)) ∧
  (∀ (s : State) (r : Route) (p : Part) (h : Nat) (e : Ent), s.passes r (0x6100 + p.val) 2 [2] = true → s.tokenFree r
    (0x6100 + p.val) = true → s.stepRuns (0x6100 + p.val) 2 = false → s.loadRuns = false → s.pair.state = 0 →
    s.partState p.val = 1 → s.partEntries p.val = [(h, e)] → s.keyEntry h = e → entDead e = false → s.keys.now = none
    → s.keys.todo = [] → ∃ t, exec (.partitionClose r p) s = .next t ∧ t.partState p.val = 2 ∧ t.keyEntry h = entSet e
    0 false ∧ p.val ∈ t.keys.closing ∧ t.stepRuns (0x6100 + p.val) 2 = true) ∧
  (∀ (s : State) (r : Route) (v : Bytes), s.passes r 0x6310 2 v = true → s.tokenFree r 0x6310 = true → s.stepRuns
    0x6310 2 = false → s.partState (s.reg 0x6310 1 % 64) = 0 → ∃ t, exec (.partitionScrub r v) s = .next t ∧
    t.stepRuns 0x6310 2 = true ∧ (t.stepOp 0x6310 2).place = s.reg 0x6310 1 % 64 ∧ t.reg 0x6310 3 = 1 ∧ t.reg 0x6310 5
    = 0 ∧ t.ep = s.ep) ∧
  (∀ (s : State) (r : Route) (v : Bytes), s.passes r 0x6310 2 v = true → s.stepRuns 0x6310 2 = false → s.partState
    (s.reg 0x6310 1 % 64) ≠ 0 → ∃ t, exec (.partitionScrub r v) s = .next t ∧ Served (s.setReg 0x6310 3 3) t r 0x6310
    2 St.contextDenied)

/-- Bringing a link up. Light at an enabled link of a READY device puts its port into DETECT; the 64th consecutive
valid beacon into TRAIN, and an invalid one counts from zero again; training passed and TRAINED on both sides into
LOCK; lock and LOCKED into EXCHANGE. CAPS that agree fix the split, the peer and the credits. Once READY has gone
both ways the port becomes ACTIVE at the span boundary and its receive direction at the peer's. An unanswered
exchange message is sent again up to three times; a timeout, a peer beyond its skew, a slip and a lost lane C fail
the attempt, the third failure in a row fences the link; a frequency beyond its limit fences it at once; lost light
makes it DARK. A link of an end-point answers CAPS with its own and keeps them, and is fenced by a version it does
not share, an RSVD KIND or its own ID; side 0 leads to the lower switch. -/
def Obligations.LinkBringUp : Prop :=
  (∀ (s : State) (l : Link), s.linkState l.val = 0 → s.isReady = true → s.boot.thermtrip = false → bit (s.reg 0x1020
    7) l.val = true → bit (s.reg (linkObj l.val) 1) 0 = true → (s.link l.val).hot = false → ∃ t, exec (.portDetect l
    true false true) s = .next t ∧ t.linkState l.val = 1 ∧ t.reg (linkObj l.val) 6 = 0 ∧ t.ep = s.ep ∧ t.keys =
    s.keys) ∧
  (∀ (s : State) (l : Link) (a b : Bool), s.linkState l.val = 0 → s.mayDetect l.val = false → ∃ t, exec (.portDetect l
    a b false) s = .next t ∧ t.linkState l.val = 0 ∧ t.regs = s.regs ∧ t.out = s.out) ∧
  (∀ (s : State) (l : Link), s.linkState l.val = 1 → ∃ t, exec (.beacon l true) s = .next t ∧ (t.linkState l.val = if
    (s.link l.val).beacons + 1 < 64 then 1 else 2) ∧ (t.link l.val).beacons = (s.link l.val).beacons + 1 ∧ t.ep =
    s.ep) ∧
  (∀ (s : State) (l : Link), s.linkState l.val = 1 → ∃ t, exec (.beacon l false) s = .next t ∧ (t.link l.val).beacons
    = 0 ∧ t.linkState l.val = 1 ∧ t.out = s.out) ∧
  (∀ (s : State) (l : Link) (mask : BitVec 8), s.linkState l.val = 2 → 7 ≤ popcount mask.toNat 8 → (s.link
    l.val).myLanes = none → ∃ t, exec (.laneTrainPass l mask) s = .next t ∧ (t.link l.val).myLanes = some mask.toNat ∧
    .exchange (2 * l.val) 1 [mask] ∈ t.out ∧ (t.linkState l.val = if (s.link l.val).peerLanes.isSome then 3 else 2) ∧
    t.ep = s.ep) ∧
  (∀ (s : State) (l : Link) (x : Exch) (b : Bytes), s.linkState l.val = 2 → exBody (s.disparity.rx.contains l.val) x 1
    = some b → b.length = 1 → 7 ≤ popcount (leAt b 0 1) 8 → ∃ t, exec (.trained l x) s = .next t ∧ (t.link
    l.val).peerLanes = some (leAt b 0 1) ∧ (t.linkState l.val = if (s.link l.val).myLanes.isSome then 3 else 2) ∧ t.ep
    = s.ep) ∧
  (∀ (s : State) (l : Link) (units : List (List (BitVec 300))), s.linkState l.val = 3 → s.lanesLocked l.val units =
    true → (s.link l.val).hasSaid 2 = false → ∃ t, exec (.lockAchieved l ⟨units, true⟩ true) s = .next t ∧ .exchange
    (2 * l.val) 2 [] ∈ t.out ∧ (t.linkState l.val = if (s.link l.val).heard.contains 2 then 4 else 3) ∧ thas
    t.clock.depth l.val = false ∧ t.ep = s.ep) ∧
  (∀ (s : State) (l : Link) (units : List (List (BitVec 300))) (freq skew : Bool), s.linkState l.val ≠ 3 ∨
    s.lanesLocked l.val units = false → exec (.lockAchieved l ⟨units, freq⟩ skew) s = .next (s)) ∧
  (∀ (s : State) (l : Link) (units : List (List (BitVec 300))) (skew : Bool), s.linkState l.val = 3 → s.lanesLocked
    l.val units = true → ∃ t, exec (.lockAchieved l ⟨units, false⟩ skew) s = .next t ∧ t.linkState l.val = 8 ∧ t.reg
    (linkObj l.val) 6 = 7) ∧
  (∀ (s : State) (l : Link) (units : List (List (BitVec 300))), s.linkState l.val = 3 → s.lanesLocked l.val units =
    true → ∃ t, exec (.lockAchieved l ⟨units, true⟩ false) s = .next t ∧ AttemptFailed s t l.val) ∧
  (∀ (s : State) (l : Link) (x : Exch) (b : Bytes), s.linkState l.val = 3 → exBody (s.disparity.rx.contains l.val) x 2
    = some b → (s.link l.val).hasSaid 2 = true → ∃ t, exec (.locked l x) s = .next t ∧ t.linkState l.val = 4 ∧
    .exchange (2 * l.val) 3 (s.ownCaps l.val) ∈ t.out ∧ t.ep = s.ep) ∧
  (∀ (s : State) (l : Link) (x : Exch) (v : Nat) (b : Bytes), s.linkState l.val = 4 → exBody (s.disparity.rx.contains
    l.val) x 3 = some b → b.length = 48 → (s.link l.val).heard.contains 3 = false → capsVersion (leNat b) = some v →
    s.capsIdentity l.val (leNat b) = false → s.randomFailed = false → ∃ t, exec (.caps (.link l) x) s = .next t ∧
    (t.link l.val).split = some (bit (s.reg (linkObj l.val) 1) 2 && capsSplit (leNat b)) ∧ (t.link l.val).peerOwn =
    capsOwn (leNat b) ∧ (t.link l.val).peerCredit = capsCredits (leNat b) ∧ t.reg (linkObj l.val) 9 = v ∧ t.linkState
    l.val = 4 ∧ t.ep = s.ep) ∧
  (∀ (s : State) (l : Link) (x : Exch) (v : Nat) (b : Bytes), s.linkState l.val = 4 → exBody (s.disparity.rx.contains
    l.val) x 3 = some b → b.length = 48 → (s.link l.val).heard.contains 3 = false → capsVersion (leNat b) = some v →
    s.capsIdentity l.val (leNat b) = true → ∃ t, exec (.caps (.link l) x) s = .next t ∧ t.linkState l.val = 8 ∧ t.reg
    (linkObj l.val) 6 = 4) ∧
  (∀ (s : State) (k : Fin 2) (x : Exch) (v : Nat) (b : Bytes), exBody (s.disparity.rx.contains (64 + k.val)) x 3 =
    some b → b.length = 48 → capsVersion (leNat b) = some v → s.faette.switches = [] → s.faette.fencedLinks.contains
    k.val = false → capsKind (leNat b) < 2 → s.faette.id = 0x3FFF ∨ capsOwn (leNat b) ≠ s.faette.id → ∃ t, exec (.caps
    (.side k) x) s = .next t ∧ tget t.faette.caps k.val [] = [capsAssigned (leNat b), capsOwn (leNat b), capsPartner
    (leNat b)] ++ capsCredits (leNat b) ++ [v % 256] ∧ t.faette.id = s.faette.id ∧ .exchange (64 + s.faette.sideOf
    k.val) 3 s.faetteCaps ∈ t.out ∧ t.ep = s.ep) ∧
  (∀ (s : State) (k : Fin 2) (x : Exch) (b : Bytes), exBody (s.disparity.rx.contains (64 + k.val)) x 3 = some b →
    b.length = 48 → s.faette.fencedLinks.contains k.val = false → capsVersion (leNat b) = none ∨ 2 ≤ capsKind (leNat
    b) ∨ (s.faette.id ≠ 0x3FFF ∧ capsOwn (leNat b) = s.faette.id) → ∃ t, exec (.caps (.side k) x) s = .next t ∧
    t.faette.fencedLinks = s.faette.fencedLinks ++ [k.val] ∧ (t.faette.sideUp = s.faette.sideUp.filter (fun y => y !=
    s.faette.sideOf k.val)) ∧ thas t.faette.caps k.val = false ∧ t.faette.id = s.faette.id ∧ t.ep = s.ep) ∧
  (∀ (s : State) (l : Link) (x : Exch) (b : Bytes), s.linkState l.val = 4 → exBody (s.disparity.rx.contains l.val) x
    0x20 = some b → b.length = 2 → ∃ t, exec (.ready l x) s = .next t ∧ (t.link l.val).heard.contains 0x20 = true ∧
    t.linkState l.val = 4 ∧ t.ep = s.ep) ∧
  (∀ (s : State) (l : Link), s.bothReady l.val = true → s.linkState l.val = 4 → (s.link l.val).split ≠ some true →
    (s.link l.val).myLanes.getD 0xFF = 0xFF → (s.link l.val).peerLanes.getD 0xFF = 0xFF → ∃ t, exec (.portActivate
    (.link l) true) s = .next t ∧ (t.linkState l.val = if bit (s.reg (linkObj l.val) 1) 1 then 5 else 9) ∧ t.reg
    (linkObj l.val) 0xB = 0 ∧ (t.port (2 * l.val)).sent = [] ∧ t.ep = s.ep) ∧
  (∀ (s : State) (l : Link), s.bothReady l.val = true → (s.link l.val).split ≠ some true → s.linkState l.val ≠ 8 →
    holdsKeys (s.port (2 * l.val)).rx = false → ∃ t, exec (.portActivate (.link l) false) s = .next t ∧ ((t.port (2 *
    l.val)).rx = if bit (s.reg (linkObj l.val) 1) 1 then 5 else 9) ∧ (t.port (2 * l.val)).state = (s.port (2 *
    l.val)).state ∧ t.out = s.out ∧ t.ep = s.ep) ∧
  (∀ (s : State) (k : Fin 2) (c : List Nat), s.faette.caps.find? (fun e => e.1 == k.val) = some (k.val, c) →
    s.faette.switches = [] → s.faette.fencedLinks.contains k.val = false → ∃ t, exec (.portActivate (.side k) true) s
    = .next t ∧ t.faette.id = c.getD 0 0 ∧ t.faette.switches = [min (c.getD 1 0) (c.getD 2 0), max (c.getD 1 0)
    (c.getD 2 0)] ∧ t.faette.switches.getD (t.faette.sideOf k.val) 0x3FFF = c.getD 1 0 ∧ t.faette.sideUp.contains
    (t.faette.sideOf k.val) = true ∧ t.ep = s.ep) ∧
  (∀ (s : State) (l : Link), s.linkState l.val = 2 ∨ s.linkState l.val = 3 → ∃ t, exec (.trainLockTimeout l) s = .next
    t ∧ AttemptFailed s t l.val) ∧
  (∀ (s : State) (l : Link), s.linkState l.val ≠ 2 → s.linkState l.val ≠ 3 → exec (.trainLockTimeout l) s = .next (s)) ∧
  (∀ (s : State) (l : Link), s.linkState l.val = 4 → ∃ t, exec (.exchangeTimeout l) s = .next t ∧ AttemptFailed s t
    l.val) ∧
  (∀ (s : State) (l : Link), s.linkState l.val ≠ 4 → exec (.exchangeTimeout l) s = .next (s)) ∧
  (∀ (s : State) (l : Link) (type : BitVec 8) (m : ExMsg), (s.link l.val).waiting.find? (fun m => m.type ==
    type.toNat) = some m → m.sends < 3 → ∃ t, exec (.exchangeResend l type) s = .next t ∧ .exchange (2 * l.val)
    type.toNat m.body ∈ t.out ∧ t.out = (s.sendEx (2 * l.val) type.toNat m.body).out ∧ (((t.link l.val).waiting.find?
    (fun m => m.type == type.toNat)).map (fun m => m.sends) = some (m.sends + 1)) ∧ t.linkState l.val = s.linkState
    l.val ∧ t.regs = s.regs) ∧
  (∀ (s : State) (l : Link) (type : BitVec 8) (m : ExMsg), (s.link l.val).waiting.find? (fun m => m.type ==
    type.toNat) = some m → 3 ≤ m.sends → s.linkState l.val = 4 → ∃ t, exec (.exchangeResend l type) s = .next t ∧
    AttemptFailed s t l.val) ∧
  (∀ (s : State) (l : Link), s.linkState l.val = 5 → ∃ t, exec (.rxFifoSlip l) s = .next t ∧ AttemptFailed s t l.val) ∧
  (∀ (s : State) (l : Link), s.linkState l.val = 5 → ∃ t, exec (.laneCLockLost l) s = .next t ∧ AttemptFailed s t
    l.val ∧ (t.link l.val).laneC = false) ∧
  (∀ (s : State) (l : Link) (rx : Bool), (s.link l.val).split ≠ some true → ∃ t, exec (.portLightLost (.link l) rx) s
    = .next t ∧ t.linkState l.val = 0 ∧ (t.link l.val).session = none ∧ ((if rx then (t.link l.val).light = false else
    (t.link l.val).laser0 = false ∧ (t.link l.val).laser1 = false)) ∧ ((t.link l.val).laneC = if rx then false else
    (s.link l.val).laneC)) ∧
  (∀ (s : State) (k : Fin 2) (rx : Bool), ∃ t, exec (.portLightLost (.side k) rx) s = .next t ∧ (t.faette.sideUp =
    s.faette.sideUp.filter (fun x => x != s.faette.sideOf k.val)) ∧ t.faette.caps = tdel s.faette.caps k.val ∧
    (t.faette.fencedLinks = s.faette.fencedLinks.filter (fun x => x != k.val)) ∧
    { t with faette := s.faette, disparity := s.disparity } = s)

/-- Lost data lanes. A receiver that declares one lane of a full link failed sends DOWN and waits; a second lane
fences the link with reason 5. DOWN is answered once with DOWN_ACK that names the switch span; the transmit
direction goes on without the lane from that span on and not before, and the port is DEGRADED. A receiver without
DOWN_ACK at the boundary fails the attempt. -/
def Obligations.LostLanes : Prop :=
  (∀ (s : State) (p : Port) (lane : Fin 8), p.val < 48 → s.isHalf p.val = false → keeps (s.port p.val).state = true →
    (s.port p.val).lostRx = none → (s.port p.val).downWait = none → (s.port p.val).laneRx = none → ∃ t, exec
    (.laneFailure p lane) s = .next t ∧ (t.port p.val).downWait = some lane.val ∧ s.tokenOut p.val "Lane" (laneFields
    0 0 lane.val 0) ∈ t.out ∧ (t.port p.val).state = (s.port p.val).state ∧ t.ep = s.ep) ∧
  (∀ (s : State) (p : Port) (lane : Fin 8) (k : Nat), p.val < 48 → s.isHalf p.val = false → keeps (s.port p.val).state
    = true → (s.port p.val).lostRx = some k → k ≠ lane.val → (s.port p.val).downWait = none → (s.port p.val).laneRx =
    none → ∃ t, exec (.laneFailure p lane) s = .next t ∧ (t.port p.val).state = 8 ∧ t.reg (linkObj (linkOf p.val)) 6 =
    5) ∧
  (∀ (s : State) (p : Port) (lane : Nat), (s.port p.val).downWait = some lane → s.isHalf p.val = false → ∃ t, exec
    (.laneDownRepeat p) s = .next t ∧ t.out = s.out ++ [s.tokenOut p.val "Lane" (laneFields 0 0 lane 0)] ∧ t.ports =
    s.ports ∧ t.ep = s.ep) ∧
  (∀ (s : State) (p : Port), (s.port p.val).downWait = none → exec (.laneDownRepeat p) s = .next (s)) ∧
  (∀ (s u : State) (p : Port) (x : RawToken) (m q : Nat), s.takeUrgent (.port p) x "Lane" = (u, some m) → p.val < 48 →
    fld m 31 29 = 0 → fld m 28 28 = 0 → fld m 27 24 < 8 → q = 2 * linkOf p.val → s.isHalf q = false → keeps (s.port
    q).state = true → (s.port q).lostTx = none → (s.port q).laneTx = none → ∃ t, exec (.down (.port p) x) s = .next t
    ∧ (t.port q).laneTx = some ⟨s.downSpan s.clock.span, fld m 27 24⟩ ∧ s.tokenOut q "Lane" (laneFields 1 0 (fld m 27
    24) (s.downSpan s.clock.span)) ∈ t.out ∧ (t.port q).state = (s.port q).state ∧ t.ep = s.ep) ∧
  (∀ (s u : State) (p : Port) (x : RawToken) (m q : Nat), s.takeUrgent (.port p) x "Lane" = (u, some m) → fld m 31 29
    = 1 → q = halfPort p.val (fld m 28 28) → (s.port q).downWait = some (fld m 27 24) → ∃ t, exec (.downAck (.port p)
    x) s = .next t ∧ (t.port q).downWait = none ∧ (t.port q).laneRx = some ⟨fld m 15 0, fld m 27 24⟩ ∧ t.out = s.out ∧
    t.ep = s.ep) ∧
  (∀ (s : State) (p : Port) (w : Switch), (s.port p.val).laneTx = some w → w.span ≤ s.clock.span → (s.port
    p.val).state = 5 → ∃ t, exec (.sevenLaneSwitch p true) s = .next t ∧ (t.port p.val).lostTx = some w.what ∧ (t.port
    p.val).laneTx = none ∧ (t.port p.val).state = 7) ∧
  (∀ (s : State) (p : Port) (w : Switch), (s.port p.val).laneTx = some w → s.clock.span < w.span → exec
    (.sevenLaneSwitch p true) s = .next (s)) ∧
  (∀ (s : State) (p : Port) (w : Switch), (s.port p.val).laneRx = some w → ∃ t, exec (.sevenLaneSwitch p false) s =
    .next t ∧ (t.port p.val).lostRx = some w.what ∧ (t.port p.val).laneRx = none ∧ ((t.port p.val).state = if (s.port
    p.val).state = 5 then 7 else (s.port p.val).state)) ∧
  (∀ (s : State) (p : Port) (lane : Nat), (s.port p.val).laneRx = none → (s.port p.val).downWait = some lane →
    s.linkState (linkOf p.val) ≠ 0 → ∃ t, exec (.sevenLaneSwitch p false) s = .next t ∧ AttemptFailed s t (linkOf
    p.val))

/-- MODE and the control of a link. A MODE of the peer is answered and names the spans at which each direction
changes; a direction changes at its named span and not before. Enabling and a split request only change
LINK_CONTROL; clearing ENABLE makes the link DARK at once; clearing and setting ADMIT ask the peer by MODE for SPARE
and ACTIVE, setting and clearing MARGIN for MARGIN and SPARE. RETRAIN takes a link back to DETECT and clears the
reason and the count of failures; FENCE fences it with reason 1. -/
def Obligations.ModesAndControl : Prop :=
  (∀ (s : State) (l : Link) (x : Exch) (b : Bytes), exBody (s.disparity.rx.contains l.val) x 0x50 = some b → b.length
    = 9 → holdsKeys (leAt b 0 1) = true → s.linkAny l.val holdsKeys = true → (s.link l.val).waiting = [] → (s.link
    l.val).txSwitch = none → ∃ t, exec (.mode l x) s = .next t ∧ (t.link l.val).rxSwitch = some ⟨leAt b 1 8, leAt b 0
    1⟩ ∧ (t.link l.val).txSwitch = some ⟨s.clock.span + 3, leAt b 0 1⟩ ∧ .exchange (2 * l.val) 0x50 (modeBody (leAt b
    0 1) (s.clock.span + 3)) ∈ t.out ∧ t.out = (s.sendEx (2 * l.val) 0x50 (modeBody (leAt b 0 1) (s.clock.span +
    3))).out ∧ t.ports = s.ports ∧ t.ep = s.ep) ∧
  (∀ (s : State) (l : Link) (w : Switch), (s.link l.val).txSwitch = some w → s.clock.span < w.span → exec (.modeSwitch
    l true) s = .next (s)) ∧
  (∀ (s : State) (l : Link) (w : Switch), (s.link l.val).txSwitch = some w → w.span ≤ s.clock.span → (s.link
    l.val).split ≠ some true → holdsKeys (s.linkState l.val) = true → ∃ t, exec (.modeSwitch l true) s = .next t ∧
    (t.linkState l.val = if runs w.what then (s.port (2 * l.val)).runState else w.what) ∧ (t.link l.val).txSwitch =
    none) ∧
  (∀ (s : State) (l : Link) (w : Switch), (s.link l.val).rxSwitch = some w → (s.link l.val).split ≠ some true →
    holdsKeys (s.linkState l.val) = true → ∃ t, exec (.modeSwitch l false) s = .next t ∧ ((t.port (2 * l.val)).rx = if
    runs w.what then (if (s.port (2 * l.val)).lostRx.isSome then 7 else 5) else w.what) ∧ t.linkState l.val =
    s.linkState l.val ∧ (t.link l.val).rxSwitch = none ∧ t.out = s.out) ∧
  (∀ (s : State) (r : Route) (l : Link) (v : Bytes), s.passes r (linkObj l.val) 1 v = true → bit (s.reg (linkObj
    l.val) 1) 0 = false → bit (leNat v) 0 = true → bit (s.reg 0xF000 2) l.val = false → bit (leNat v) 3 = bit (s.reg
    (linkObj l.val) 1) 3 → s.linkAny l.val (fun st => runs st || st == 9 || st == 6) = false → ∃ t, exec (.linkEnable
    r l v) s = .next t ∧ Served (s.setReg (linkObj l.val) 1 (leNat v % 16)) t r (linkObj l.val) 1 St.ok) ∧
  (∀ (s : State) (r : Route) (l : Link) (v : Bytes), s.passes r (linkObj l.val) 1 v = true → bit (s.reg (linkObj
    l.val) 1) 0 = true → bit (leNat v) 0 = false → bit (leNat v) 3 = false → (s.link l.val).split ≠ some true → ∃ t,
    exec (.linkDisable r l v) s = .next t ∧ t.linkState l.val = 0 ∧ t.reg (linkObj l.val) 1 = leNat v % 16 ∧ (t.link
    l.val).said = []) ∧
  (∀ (s : State) (r : Route) (l : Link) (v : Bytes), s.passes r (linkObj l.val) 1 v = true → leNat v = s.reg (linkObj
    l.val) 1 - 2 → bit (s.reg (linkObj l.val) 1) 1 = true → s.reg (linkObj l.val) 1 < 16 → bit (s.reg 0xF000 2) l.val
    = false → s.linkState l.val = 5 → bit (s.reg (linkObj l.val) 1) 3 = false → (s.link l.val).txSwitch = none → ∃ t,
    exec (.admitClear r l v) s = .next t ∧ .exchange (2 * l.val) 0x50 (modeBody 9 (s.clock.span + 3)) ∈ t.out ∧
    (t.link l.val).txSwitch = some ⟨s.clock.span + 3, 9⟩ ∧ t.reg (linkObj l.val) 1 = leNat v ∧ t.ports = s.ports) ∧
  (∀ (s : State) (r : Route) (l : Link) (v : Bytes), s.passes r (linkObj l.val) 1 v = true → leNat v = s.reg (linkObj
    l.val) 1 + 2 → bit (s.reg (linkObj l.val) 1) 1 = false → leNat v < 16 → bit (s.reg 0xF000 2) l.val = false →
    s.linkState l.val = 9 → bit (s.reg (linkObj l.val) 1) 3 = false → (s.link l.val).txSwitch = none → s.linkAny l.val
    (fun st => st == 6) = false → ∃ t, exec (.admitSet r l v) s = .next t ∧ .exchange (2 * l.val) 0x50 (modeBody 5
    (s.clock.span + 3)) ∈ t.out ∧ (t.link l.val).txSwitch = some ⟨s.clock.span + 3, 5⟩ ∧ t.reg (linkObj l.val) 1 =
    leNat v ∧ t.ports = s.ports) ∧
  (∀ (s : State) (r : Route) (l : Link) (v : Bytes), s.passes r (linkObj l.val) 1 v = true → leNat v = s.reg (linkObj
    l.val) 1 + 4 → bit (s.reg (linkObj l.val) 1) 2 = false → leNat v < 16 → bit (s.reg 0xF000 2) l.val = false → (bit
    (leNat v) 1 = true ∧ s.linkAny l.val (fun st => st == 9) = false) ∨ (bit (leNat v) 1 = false ∧ s.linkAny l.val
    runs = false) → (bit (leNat v) 3 = true ∧ s.linkAny l.val keeps = false) ∨ (bit (leNat v) 3 = false ∧ s.linkAny
    l.val (fun st => st == 6) = false) → ∃ t, exec (.splitRequest r l v) s = .next t ∧ Served (s.setReg (linkObj
    l.val) 1 (leNat v)) t r (linkObj l.val) 1 St.ok) ∧
  (∀ (s : State) (r : Route) (l : Link) (v : Bytes), s.passes r (linkObj l.val) 1 v = true → leNat v = s.reg (linkObj
    l.val) 1 + 8 → bit (s.reg (linkObj l.val) 1) 3 = false → leNat v < 16 → bit (s.reg 0xF000 2) l.val = false →
    s.linkAny l.val keeps = true → (s.link l.val).txSwitch = none → ∃ t, exec (.marginSet r l v) s = .next t ∧
    .exchange (2 * l.val) 0x50 (modeBody 6 (s.clock.span + 3)) ∈ t.out ∧ (t.link l.val).txSwitch = some ⟨s.clock.span
    + 3, 6⟩ ∧ t.reg (linkObj l.val) 1 = leNat v ∧ t.ports = s.ports) ∧
  (∀ (s : State) (r : Route) (l : Link) (v : Bytes), s.passes r (linkObj l.val) 1 v = true → leNat v = s.reg (linkObj
    l.val) 1 - 8 → bit (s.reg (linkObj l.val) 1) 3 = true → s.reg (linkObj l.val) 1 < 16 → bit (s.reg 0xF000 2) l.val
    = false → s.linkState l.val = 6 → (s.link l.val).txSwitch = none → ∃ t, exec (.marginClear r l v) s = .next t ∧
    .exchange (2 * l.val) 0x50 (modeBody 9 (s.clock.span + 3)) ∈ t.out ∧ (t.link l.val).txSwitch = some ⟨s.clock.span
    + 3, 9⟩ ∧ t.reg (linkObj l.val) 1 = leNat v ∧ t.ports = s.ports) ∧
  (∀ (s : State) (r : Route) (l : Link) (v : Bytes), s.passes r (linkObj l.val) 1 v = true → bit (leNat v) 0 = true →
    bit (s.reg 0xF000 2) l.val = true → ∃ t, exec (.linkEnable r l v) s = .next t ∧ Served s t r (linkObj l.val) 1
    St.valueRefused) ∧
  (∀ (s : State) (r : Route) (l : Link) (v : Bytes), s.passes r (linkObj l.val) 2 v = true → s.linkState l.val ≠ 0 → ∃
    t, exec (.retrain r l v) s = .next t ∧ t.linkState l.val = 1 ∧ t.reg (linkObj l.val) 0xB = 0 ∧ t.reg (linkObj
    l.val) 6 = 0) ∧
  (∀ (s : State) (r : Route) (l : Link) (v : Bytes), s.passes r (linkObj l.val) 3 v = true → s.linkState l.val ≠ 0 →
    s.linkState l.val ≠ 8 → ∃ t, exec (.fence r l v) s = .next t ∧ t.linkState l.val = 8 ∧ t.reg (linkObj l.val) 6 =
    1)

/-- Tests of a link. TEST_START asks the peer for a test from the second span on and is refused where none may run;
the peer's request is agreed to unless a test holds the direction, and its answer decides TEST_STATE. A maintenance
grain adds to the lanes of its LANE_MASK the raw bit decisions that came out wrong, whether or not its hop tag
passes; in MARGIN the counts of every lane are added. At its end a test is over; before it nothing happens; the
checker reports what it counted, and a report is taken as it comes. -/
def Obligations.LinkTestsRun : Prop :=
  (∀ (s : State) (r : Route) (l : Link) (v : Bytes), s.passes r (linkObj l.val) 0x0C v = true → s.mayTest l.val (fld
    (leNat v) 31 28) = true → ∃ t, exec (.testStartRequest r l v) s = .next t ∧ (t.link l.val).tests = (s.link
    l.val).tests ++
    [{ kind := fld (leNat v) 31 28, mask := fld (leNat v) 27 20, spans := fld (leNat v) 19 0, start := s.clock.span + 2 }]
    ∧ t.reg (linkObj l.val) 0xD = 1 ∧ .exchange (2 * l.val) 0x40 (natLe 1 (fld (leNat v) 31 28) ++ natLe 1 (fld (leNat
    v) 27 20) ++ natLe 8 (s.clock.span + 2) ++ natLe 4 (fld (leNat v) 19 0)) ∈ t.out ∧ t.ports = s.ports) ∧
  (∀ (s : State) (r : Route) (l : Link) (v : Bytes), s.passes r (linkObj l.val) 0x0C v = true → s.mayTest l.val (fld
    (leNat v) 31 28) = false → ∃ t, exec (.testStartRequest r l v) s = .next t ∧ Served s t r (linkObj l.val) 0x0C
    St.valueRefused) ∧
  (∀ (s : State) (l : Link) (x : Exch) (y : LinkTest) (b : Bytes), exBody (s.disparity.rx.contains l.val) x 0x40 =
    some b → b.length = 14 → y =
    { kind := leAt b 0 1, mask := leAt b 1 1, start := leAt b 2 8, spans := leAt b 10 4, mine := false, agreed := true }
    → 1 ≤ y.kind → y.kind ≤ 3 → s.linkAny l.val keeps = true → (s.link l.val).tests.any (fun z => z.onTx == y.onTx) =
    false → ∃ t, exec (.testStart l x) s = .next t ∧ (t.link l.val).tests = (s.link l.val).tests ++ [y] ∧ .exchange (2
    * l.val) 0x41 (natLe 2 St.ok) ∈ t.out ∧ t.ports = s.ports) ∧
  (∀ (s : State) (l : Link) (x : Exch) (y : LinkTest) (b : Bytes), exBody (s.disparity.rx.contains l.val) x 0x40 =
    some b → b.length = 14 → y =
    { kind := leAt b 0 1, mask := leAt b 1 1, start := leAt b 2 8, spans := leAt b 10 4, mine := false, agreed := true }
    → 1 ≤ y.kind → y.kind ≤ 3 → s.linkAny l.val keeps = true → (s.link l.val).tests.contains y = false → (s.link
    l.val).tests.any (fun z => z.onTx == y.onTx) = true → ∃ t, exec (.testStart l x) s = .next t ∧ (t.link
    l.val).tests = (s.link l.val).tests ∧ .exchange (2 * l.val) 0x41 (natLe 2 St.loadBusy) ∈ t.out ∧ t.regs = s.regs) ∧
  (∀ (s : State) (l : Link) (x : Exch) (y : LinkTest) (b : Bytes), exBody (s.disparity.rx.contains l.val) x 0x41 =
    some b → b.length = 2 → leNat b = 0 → (s.link l.val).tests = [y] → y.mine = true → y.agreed = false → s.linkAny
    l.val (fun st => !isDown st) = true → ∃ t, exec (.testAck l x) s = .next t ∧ (t.link l.val).tests =
    [{ y with agreed := true }] ∧ t.reg (linkObj l.val) 0xD = 2 ∧ (∀ k ∈ List.range 11, t.reg (linkObj l.val) (0xE +
    k) = 0) ∧ t.out = s.out) ∧
  (∀ (s : State) (l : Link) (x : Exch) (y : LinkTest) (b : Bytes), exBody (s.disparity.rx.contains l.val) x 0x41 =
    some b → b.length = 2 → leNat b ≠ 0 → (s.link l.val).tests = [y] → y.mine = true → y.agreed = false → s.linkAny
    l.val (fun st => !isDown st) = true → ∃ t, exec (.testAck l x) s = .next t ∧ (t.link l.val).tests = [] ∧ t.reg
    (linkObj l.val) 0xD = 3 ∧ t.out = s.out) ∧
  (∀ (s : State) (l : Link) (x : Exch) (b : Bytes), exBody (s.disparity.rx.contains l.val) x 0x43 = some b → b.length
    = 88 → 1 ≤ (s.link l.val).minor → s.linkAny l.val (fun st => !isDown st) = true → ∃ t, exec (.laneReport l x) s =
    .next t ∧ (∀ k ∈ List.range 11, t.reg (linkObj l.val) (0xE + k) = leAt b (8 * k) 8) ∧ t.links = s.links ∧ t.ports
    = s.ports) ∧
  (∀ (s : State) (p : Port) (i : IngressLine) (c : LaneCounts) (y : LinkTest), p.val < 48 → (s.port p.val).rx ≠ 6 →
    (s.link (linkOf p.val)).tests = [y] → y.agreed = true → y.onTx = false → y.start ≤ s.clock.span → s.clock.span <
    y.start + y.spans → i.grain.vc = 7 → i.grain.legal = true → ∃ t, exec (.maintenanceGrain p ⟨i, c⟩) s = .next t ∧
    (∀ k ∈ List.range 8, t.reg (linkObj (linkOf p.val)) (0xE + k) = if bit i.grain.laneMask k then (s.reg (linkObj
    (linkOf p.val)) (0xE + k) + (s.checkGrain p.val i).errors.getD k 0) % 2 ^ 64 else s.reg (linkObj (linkOf p.val))
    (0xE + k)) ∧ t.reg (linkObj (linkOf p.val)) 0x16 = (s.reg (linkObj (linkOf p.val)) 0x16 + 2048 / (s.activeLanes
    p.val).length) % 2 ^ 64 ∧ t.links = s.links ∧ t.ep = s.ep ∧ t.out = s.out) ∧
  (∀ (s : State) (p : Port) (i : IngressLine) (c : LaneCounts), (s.port p.val).rx ≠ 6 → (s.link (linkOf
    p.val)).tests.any (fun y => s.holdsNow y false) = false ∨ i.grain.vc ≠ 7 ∨ i.grain.legal = false → exec
    (.maintenanceGrain p ⟨i, c⟩) s = .next (s)) ∧
  (∀ (s : State) (p : Port) (i : IngressLine) (c : LaneCounts), p.val < 48 → (s.port p.val).rx = 6 → ∃ t, exec
    (.maintenanceGrain p ⟨i, c⟩) s = .next t ∧ (∀ k ∈ List.range 8, t.reg (linkObj (linkOf p.val)) (0xE + k) = (s.reg
    (linkObj (linkOf p.val)) (0xE + k) + c.errors.getD k 0) % 2 ^ 64) ∧ t.reg (linkObj (linkOf p.val)) 0x17 =
    c.left.toNat ∧ t.reg (linkObj (linkOf p.val)) 0x18 = c.right.toNat ∧ t.links = s.links ∧ t.ep = s.ep) ∧
  (∀ (s : State) (l : Link) (tx : Bool) (c : LaneCounts) (y : LinkTest), (s.link l.val).tests = [y] → s.clock.span <
    y.start + y.spans → exec (.testEnd l tx c) s = .next (s)) ∧
  (∀ (s : State) (l : Link) (c : LaneCounts) (y : LinkTest), (s.link l.val).tests = [y] → y.agreed = true → y.onTx =
    true → y.mine = true → y.start + y.spans ≤ s.clock.span → ∃ t, exec (.testEnd l true c) s = .next t ∧ (t.link
    l.val).tests = [] ∧ (t.link l.val).ended = some y ∧ t.reg (linkObj l.val) 0xD = 5 ∧ t.out = s.out) ∧
  (∀ (s : State) (l : Link) (c : LaneCounts) (y : LinkTest), (s.link l.val).tests = [y] → y.agreed = true → y.onTx =
    false → y.mine = false → y.start + y.spans ≤ s.clock.span → 1 ≤ (s.link l.val).minor → ∃ t, exec (.testEnd l false
    c) s = .next t ∧ (t.link l.val).tests = [] ∧ .exchange (2 * l.val) 0x43 (t.laneReport l.val) ∈ t.out ∧ t.ports =
    s.ports)

/-- Sessions of a link. An offer that passes the checks is answered with a response, and one that fails them fails the
attempt; a response whose signature holds is taken, another fails the attempt. A confirmation whose tag is right
completes the agreement: the session's keys are in force, the peer's identity and measurement are shown, and READY
follows. A rekey, asked for, due or tried again, begins with a new offer; its keys come into force in a direction at
its named span with the grain counters at zero. A key at its limit fails the attempt and destroys the session. -/
def Obligations.LinkSessions : Prop :=
  (∀ (s : State) (l : Link) (x : Exch) (a : Agreement) (b : Bytes), exBody (s.disparity.rx.contains l.val) x 0x10 =
    some b → s.linkState l.val = 4 → (s.link l.val).split ≠ some true → (s.link l.val).agree = some a → a.rekey =
    false → a.peerOffer ≠ b → a.peerResponse = [] → s.coreStop 0 = none → s.randomFailed = false → ∃ t, exec (.kaOffer
    l x) s = .next t ∧ ((if s.offerFault l.val b false = none then (t.link l.val).agree.map (fun a => a.peerOffer) =
    some b ∧ t.linkState l.val = 4 ∧ t.out = (s.sendEx (2 * l.val) 0x11 (((t.link l.val).agree.map (fun a =>
    a.ownResponse)).getD [])).out else AttemptFailed s t l.val))) ∧
  (∀ (s : State) (l : Link) (x : Exch) (a : Agreement) (b : Bytes), exBody (s.disparity.rx.contains l.val) x 0x10 =
    some b → s.linkState l.val = 4 → (s.link l.val).agree = some a → a.peerOffer = b → a.ownResponse ≠ [] → s.coreStop
    0 = none → ∃ t, exec (.kaOffer l x) s = .next t ∧ .exchange (2 * l.val) 0x11 a.ownResponse ∈ t.out ∧ t.out =
    (s.sendEx (2 * l.val) 0x11 a.ownResponse).out ∧ t.links = s.links ∧ t.ports = s.ports ∧ t.regs = s.regs ∧ t.ep =
    s.ep) ∧
  (∀ (s : State) (l : Link) (x : Exch) (a : Agreement) (b : Bytes), exBody (s.disparity.rx.contains l.val) x 0x11 =
    some b → s.linkState l.val = 4 → (s.link l.val).agree = some a → a.rekey = false → a.ownOffer ≠ [] →
    a.peerResponse = [] → a.ownResponse = [] → s.coreStop 0 = none → ∃ t, exec (.kaResponse l x) s = .next t ∧ ((if
    b.length = 6195 ∧ a.peerOffer ≠ [] ∧ Config.mldsaVerify (offerIdentity a.peerOffer) "OBXUS-KA" (responseCover
    a.ownOffer (b.take 1568)) (b.drop 1568) = true then (t.link l.val).agree = some
    { a with peerResponse := b, peerSecret := Config.mlkemDecaps a.draw (leNat (b.take 1568)) } ∧ t.linkState l.val =
    4 else AttemptFailed s t l.val))) ∧
  (∀ (s : State) (l : Link) (x : Exch) (a : Agreement) (k : Session) (b : Bytes), exBody (s.disparity.rx.contains
    l.val) x 0x12 = some b → s.linkState l.val = 4 → (s.link l.val).agree = some a → a.rekey = false → a.confirmSent =
    true → a.confirmGot = false → a.keys = some k → s.coreStop 0 = none → ∃ t, exec (.kaConfirm l x) s = .next t ∧
    ((if b.length = 40 ∧ b.take 32 = confirmTag a.confirmKey a.transcript (offerEp a.peerOffer) then (t.link
    l.val).session = some k ∧ (t.link l.val).agree = none ∧ t.reg (0x9040 + l.val) 1 = (s.reg (0x9040 + l.val) 1 + 1)
    % 2 ^ 32 ∧ t.reg (0x9040 + l.val) 2 = k.identity ∧ t.reg (0x9040 + l.val) 3 = k.measurement ∧ .exchange (2 *
    l.val) 0x20 (natLe 2 (s.reg (linkObj l.val) 9)) ∈ t.out else AttemptFailed s t l.val))) ∧
  (∀ (s : State) (r : Route) (l : Link) (v : Bytes), s.passes r (0x9040 + l.val) 5 v = true → s.linkAny l.val
    holdsKeys = true → (s.link l.val).agree = none → (s.link l.val).session ≠ none → s.randomFailed = false →
    s.coreStop 0 = none → ∃ t, exec (.rekey r l v) s = .next t ∧ ((t.link l.val).agree.map (fun a => (a.rekey,
    a.ownOffer)) = some (true, s.offer true s.fresh)) ∧ .exchange (2 * l.val) 0x10 (s.offer true s.fresh) ∈ t.out ∧
    (t.link l.val).session = (s.link l.val).session ∧ t.ports = s.ports) ∧
  (∀ (s : State) (r : Route) (l : Link) (v : Bytes), s.passes r (0x9040 + l.val) 5 v = true → s.linkAny l.val
    holdsKeys = false → ∃ t, exec (.rekey r l v) s = .next t ∧ Served s t r (0x9040 + l.val) 5 St.valueRefused) ∧
  (∀ (s : State) (l : Link), s.linkAny l.val holdsKeys = true → (s.link l.val).agree = none → (s.link l.val).session ≠
    none → s.coreStop 0 = none → s.randomFailed = false → ∃ t, exec (.rekeyDue l) s = .next t ∧ ((t.link
    l.val).agree.map (fun a => (a.rekey, a.ownOffer)) = some (true, s.offer true s.fresh)) ∧ .exchange (2 * l.val)
    0x10 (s.offer true s.fresh) ∈ t.out ∧ t.out = (s.sendEx (2 * l.val) 0x10 (s.offer true s.fresh)).out ∧ (t.link
    l.val).session = (s.link l.val).session ∧ t.ports = s.ports) ∧
  (∀ (s : State) (l : Link), s.linkAny l.val holdsKeys = true → (s.link l.val).agree = none → (s.link l.val).session ≠
    none → (s.link l.val).retry = true → s.coreStop 0 = none → s.randomFailed = false → ∃ t, exec (.rekeyRetry l) s =
    .next t ∧ ((t.link l.val).agree.map (fun a => (a.rekey, a.ownOffer)) = some (true, s.offer true s.fresh)) ∧
    .exchange (2 * l.val) 0x10 (s.offer true s.fresh) ∈ t.out ∧ t.out = (s.sendEx (2 * l.val) 0x10 (s.offer true
    s.fresh)).out ∧ (t.link l.val).retry = false ∧ t.ports = s.ports) ∧
  (∀ (s : State) (l : Link), (s.link l.val).retry = false → exec (.rekeyRetry l) s = .next (s)) ∧
  (∀ (s : State) (l : Link) (a : Agreement) (k new : Session) (span : Nat), (s.link l.val).agree = some a → (s.link
    l.val).session = some k → a.keys = some new → a.txSpan = some span → span ≤ s.clock.span → ∃ t, exec (.keySwitch l
    true) s = .next t ∧ (t.link l.val).session = some
    { k with keyTx := new.keyTx, saltTx := new.saltTx, saltTxB := new.saltTxB } ∧ (t.port (2 * l.val)).txCount = 0 ∧
    (t.port (2 * l.val)).rxCount = (s.port (2 * l.val)).rxCount ∧ t.out = s.out ∧ t.ep = s.ep) ∧
  (∀ (s : State) (l : Link) (a : Agreement) (k new : Session) (span : Nat), (s.link l.val).agree = some a → (s.link
    l.val).session = some k → a.keys = some new → a.txSpan = some span → s.clock.span < span → exec (.keySwitch l
    true) s = .next (s)) ∧
  (∀ (s : State) (l : Link), s.linkState l.val = 5 → (s.link l.val).split ≠ some true → ∃ t, exec (.keyLimit l) s =
    .next t ∧ AttemptFailed s t l.val ∧ (t.link l.val).session = none) ∧
  (∀ (s : State) (l : Link), s.linkAny l.val holdsKeys = false → exec (.keyLimit l) s = .next (s))

/-- Refresh and patrol of the HBM3E stacks. A refresh window begins one refresh of every fitted stack under an active
table, and the timer does so without one or without alignment; each leaves a refresh that runs alone. At its end no
request is held any more and every fitted stack has been patrolled 16 chunks further. LPDDR5X is patrolled 64 chunks
of a fitted half at a time. A stack above 85 degrees Celsius enters the doubled rate, with its bit in 6320:0B and a
fault report; extra refreshes of it are counted in 6320:0A as exceptions of kind 3; it leaves the rate at 83 degrees
Celsius or below, with a report. -/
def Obligations.RefreshAndPatrol : Prop :=
  (∀ (s : State), s.onTimer = false → ∃ t, exec (.refreshWindow) s = .next t ∧ t.refresh.running = true ∧
    t.refresh.window = true ∧ t.refresh.patrol = s.refresh.patrol ∧ (∀ k ∈ s.stacks, s.confidential = false →
    t.tallyOf (3004 + 32 * k) = (s.tallyOf (3004 + 32 * k) + 1) % 2 ^ 64) ∧ t.ep = s.ep ∧ t.regs = s.regs ∧ t.out =
    s.out) ∧
  (∀ (s : State), s.onTimer = true → exec (.refreshWindow) s = .next (s)) ∧
  (∀ (s : State), s.onTimer = true → ∃ t, exec (.refreshTimer) s = .next t ∧ t.refresh.running = true ∧
    t.refresh.window = false ∧ t.refresh.patrol = s.refresh.patrol ∧ (∀ k ∈ s.stacks, s.confidential = false →
    t.tallyOf (3004 + 32 * k) = (s.tallyOf (3004 + 32 * k) + 1) % 2 ^ 64) ∧ t.ep = s.ep ∧ t.regs = s.regs ∧ t.out =
    s.out) ∧
  (∀ (s : State), s.onTimer = false → exec (.refreshTimer) s = .next (s)) ∧
  (∀ (s : State) (evs : List MemEv), s.refresh.running = true → ∃ t, exec (.refreshEnd evs) s = .next t ∧
    t.refresh.running = false ∧ t.refresh.window = false ∧ t.ep.home.held = [] ∧ (∀ k ∈ s.stacks, tget
    t.refresh.patrol k 0 = (tget s.refresh.patrol k 0 + 16) % stackChunks) ∧ (∀ k ∈ ([4, 5] : List Nat), tget
    t.refresh.patrol k 0 = tget s.refresh.patrol k 0) ∧ t.links = s.links ∧ t.board = s.board ∧ t.keys = s.keys) ∧
  (∀ (s : State) (evs : List MemEv), s.refresh.running = false → exec (.refreshEnd evs) s = .next (s)) ∧
  (∀ (s : State) (half : Fin 2) (ev : MemEv), half.val ∈ s.halves → ∃ t, exec (.patrol half ev) s = .next t ∧ tget
    t.refresh.patrol (4 + half.val) 0 = (tget s.refresh.patrol (4 + half.val) 0 + 64) % halfChunks ∧ (∀ k ∈ List.range
    6, k ≠ 4 + half.val → tget t.refresh.patrol k 0 = tget s.refresh.patrol k 0) ∧ t.refresh.running =
    s.refresh.running ∧ t.ports = s.ports ∧ t.links = s.links ∧ t.board = s.board ∧ t.out = s.out) ∧
  (∀ (s : State) (half : Fin 2) (ev : MemEv), half.val ∉ s.halves → exec (.patrol half ev) s = .next (s)) ∧
  (∀ (s : State) (k : Fin 4) (reading : Nat), k.val ∈ s.stacks → k.val ∉ s.refresh.hot → 85 < reading → ∃ t, exec
    (.hotStackEntry k reading) s = .next t ∧ t.refresh.hot = s.refresh.hot ++ [k.val] ∧ t.reg 0x6320 0xB = maskOf
    (s.refresh.hot ++ [k.val]) ∧ Reported t 0x0D 7 k.val ∧ t.ep = s.ep ∧ t.ports = s.ports ∧ t.out = s.out) ∧
  (∀ (s : State) (k : Fin 4) (reading : Nat), k.val ∈ s.refresh.hot → reading ≤ 83 → ∃ t, exec (.hotStackExit k
    reading) s = .next t ∧ k.val ∉ t.refresh.hot ∧ Reported t 0x0D 7 k.val true ∧ t.reg 0x6320 0xB = maskOf
    t.refresh.hot ∧ t.ep = s.ep ∧ t.ports = s.ports ∧ t.out = s.out ∧ (∀ j, j ≠ k.val → (j ∈ t.refresh.hot ↔ j ∈
    s.refresh.hot))) ∧
  (∀ (s : State) (k : Fin 4), k.val ∈ s.refresh.hot → ∃ t, exec (.extraRefresh k) s = .next t ∧ t.reg 0x6320 0xA =
    (s.reg 0x6320 0xA + 1) % 2 ^ 64 ∧ t.excCount 3 = (s.excCount 3 + 1) % 2 ^ 64 ∧ t.exc.lastSpan = s.clock.span ∧
    t.refresh = s.refresh ∧ t.ep = s.ep ∧ t.out = s.out) ∧
  (∀ (s : State) (k : Fin 4), k.val ∉ s.refresh.hot → exec (.extraRefresh k) s = .next (s))

/-- Rings, their doorbells and the fetching of commands. ENABLE of a described, disabled ring makes it run from entry
0 with phase 1, and after an error posts what was held; ENABLE of another ring changes nothing. Clearing ENABLE
disables a ring that owes nothing and drains one that owes entries. A doorbell sets SQ_TAIL or frees CQ entries, and
a value past the ring's end puts the ring into error; writes of BAR0 reach the same registers. A command is fetched
from the ring whose turn it is; one with an opcode that is RSVD completes with FEATURE_NOT_NEGOTIATED; a failed
fetch is a ring error. Unmasking a pending vector signals it once. -/
def Obligations.RingsAndDoorbells : Prop :=
  (∀ (s : State) (f : Fn), s.fnOffered f.val = true → (s.fn f.val).enable = false → (s.fn f.val).ringOk = true → (s.fn
    f.val).state = 0 → (s.fn f.val).posts = [] → ∃ t, exec (.ringEnable f) s = .next t ∧ t.fn f.val =
    { s.fn f.val with enable := true, state := 1, error := 0, sqHead := 0, sqTail := 0, cqHead := 0, cqTail := 0, cqUsed := 0, phase := true }
    ∧ { t with host := s.host } = s ∧ (∀ g, g ≠ f.val → t.fn g = s.fn g)) ∧
  (∀ (s : State) (f : Fn) (id status result detail : Nat) (second : Bool), s.fnOffered f.val = true → (s.fn
    f.val).enable = false → (s.fn f.val).ringOk = true → (s.fn f.val).state = 2 → (s.fn f.val).error ≠ 0 → (s.fn
    f.val).posts = [(id, status, result, detail, second)] → ∃ t, exec (.ringEnable f) s = .next t ∧ (t.fn
    f.val).enable = true ∧ (t.fn f.val).state = 1 ∧ (t.fn f.val).error = 0 ∧ (t.fn f.val).posts = [] ∧ (t.fn
    f.val).cqTail = 1 ∧ .hostWrite f.val (s.fn f.val).cqBase (({ s.fn f.val with phase := true, sqHead := 0 } :
    FnState).entry id status result detail second) ∈ t.out ∧ t.regs = s.regs ∧ t.ep = s.ep) ∧
  (∀ (s : State) (f : Fn), s.fnOffered f.val = false ∨ (s.fn f.val).enable = true ∨ (s.fn f.val).ringOk = false → exec
    (.ringEnable f) s = .next (s)) ∧
  (∀ (s : State) (f : Fn), s.fnOffered f.val = true → (s.fn f.val).enable = true → ∃ t, exec (.ringDisable f) s =
    .next t ∧ (t.fn f.val = { s.fn f.val with enable := false, state := if (s.fn f.val).owes = 0 then 0 else 2 }) ∧
    { t with host := s.host } = s ∧ (∀ g, g ≠ f.val → t.fn g = s.fn g)) ∧
  (∀ (s : State) (f : Fn) (v : BitVec 32), s.fnOffered f.val = true → (s.fn f.val).state = 1 → ∃ t, exec (.sqTail f v)
    s = .next t ∧ ((if v.toNat < (s.fn f.val).sqSize ∨ v.toNat = (s.fn f.val).sqTail then t.fn f.val =
    { s.fn f.val with sqTail := v.toNat } ∧ t.regs = s.regs else (t.fn f.val).state = 3 ∧ (t.fn f.val).error = 1 ∧
    t.reg 0xA100 6 = (s.reg 0xA100 6 + 1) % 2 ^ 32)) ∧ t.out = s.out ∧ t.ep = s.ep ∧ t.host.turn = s.host.turn ∧ (∀ g,
    g ≠ f.val → t.fn g = s.fn g)) ∧
  (∀ (s : State) (f : Fn) (v : BitVec 32), s.fnOffered f.val = true → (s.fn f.val).state = 1 → ∃ t, exec (.cqHead f v)
    s = .next t ∧ ((if v.toNat < (s.fn f.val).cqSize ∨ v.toNat = (s.fn f.val).cqHead then (t.fn f.val).cqHead =
    v.toNat ∧ (t.fn f.val).cqTail = (s.fn f.val).cqTail ∧ t.regs = s.regs else (t.fn f.val).state = 3 ∧ (t.fn
    f.val).error = 3 ∧ t.reg 0xA100 6 = (s.reg 0xA100 6 + 1) % 2 ^ 32)) ∧ (((s.fn f.val).cqHead < v.toNat ∧ v.toNat <
    (s.fn f.val).cqSize → (t.fn f.val).cqUsed = (s.fn f.val).cqUsed - (v.toNat - (s.fn f.val).cqHead))) ∧ t.out =
    s.out ∧ t.ep = s.ep ∧ t.host.turn = s.host.turn ∧ (∀ g, g ≠ f.val → t.fn g = s.fn g)) ∧
  (∀ (s : State) (f : Fn) (v : BitVec 32), (s.fn f.val).state ≠ 1 → exec (.sqTail f v) s = .next (s)) ∧
  (∀ (s : State) (f : Fn) (v : BitVec 32), (s.fn f.val).state ≠ 1 → exec (.cqHead f v) s = .next (s)) ∧
  (∀ (s : State) (f : Fn) (data : Bytes), s.fnOffered f.val = true → data.length = 8 → (s.fn f.val).state = 0 → ∃ t,
    exec (.bar0RegisterWrite f 0x1000 data) s = .next t ∧ (t.fn f.val).sqBase = leNat data ∧ (t.fn f.val).cqSize =
    (s.fn f.val).cqSize % 2 ^ 32 ∧ (t.fn f.val).state = 0 ∧ (t.fn f.val).aps = (s.fn f.val).aps ∧
    { t with host := s.host } = s ∧ (∀ g, g ≠ f.val → t.fn g = s.fn g)) ∧
  (∀ (s : State) (f : Fn) (data : Bytes), s.fnOffered f.val = true → data.length = 8 → (s.fn f.val).state ≠ 0 → ∃ t,
    exec (.bar0RegisterWrite f 0x1000 data) s = .next t ∧ (t.fn f.val).sqBase = (s.fn f.val).sqBase ∧ (t.fn
    f.val).state = (s.fn f.val).state ∧ { t with host := s.host } = s) ∧
  (∀ (s : State) (f : Fn) (data : Bytes), s.fnOffered f.val = true → data.length = 4 → (s.fn f.val).state = 1 → leNat
    data < (s.fn f.val).sqSize → ∃ t, exec (.bar0RegisterWrite f 0x2000 data) s = .next t ∧ (t.fn f.val).sqTail =
    leNat data ∧ (t.fn f.val).state = 1 ∧ (t.fn f.val).cqHead = (s.fn f.val).cqHead ∧ { t with host := s.host } = s) ∧
  (∀ (s : State) (f : Fn) (data : Bytes) (a : Fin 16), s.fnOffered f.val = true → data.length = 64 → ∃ t, exec
    (.bar0RegisterWrite f (BitVec.ofNat 26 (0x10000 + 64 * a.val)) data) s = .next t ∧ tget (t.fn f.val).aps a.val 0 =
    BitVec.ofNat 512 (apertureMask f.val (leNat data)) ∧ { t with host := s.host } = s ∧ (∀ b < 16, b ≠ a.val → tget
    (t.fn f.val).aps b 0 = tget (s.fn f.val).aps b 0)) ∧
  (∀ (s : State) (f : Fn) (v : Fin 64), s.fnOffered f.val = true → f.val = 0 ∨ v.val < 31 → v.val ∈ (s.fn
    f.val).pendingVec → ∃ t, exec (.vectorUnmask f v) s = .next t ∧ t.out = s.out ++ [.vector f.val v.val] ∧ v.val ∉
    (t.fn f.val).pendingVec ∧ v.val ∈ (t.fn f.val).unmasked ∧ t.regs = s.regs ∧ t.ep = s.ep) ∧
  (∀ (s : State) (f : Fn) (v : Fin 64), s.fnOffered f.val = true → f.val = 0 ∨ v.val < 31 → v.val ∉ (s.fn
    f.val).pendingVec → ∃ t, exec (.vectorUnmask f v) s = .next t ∧ t.out = s.out ∧ v.val ∈ (t.fn f.val).unmasked ∧
    (t.fn f.val).pendingVec = (s.fn f.val).pendingVec ∧ t.regs = s.regs ∧ t.ep = s.ep) ∧
  (∀ (s : State) (f : Nat) (b : BitVec 512), s.nextRing = some f → ({ bits := b } : RingCmd).opcode ≤ 7 →
    ({ bits := b } : RingCmd).opcode ≠ 6 ∨ 2 ≤ (s.fn f).room → ∃ t, exec (.commandFetch (some b)) s = .next t ∧
    t.host.turn = (f + 1) % 65 ∧ t.fn f =
    { s.fn f with sqHead := ((s.fn f).sqHead + 1) % (s.fn f).sqSize, cmds := (s.fn f).cmds ++ [{ bits := b, second := ({ bits := b } : RingCmd).opcode == 6 }] }
    ∧ t.out = s.out ∧ t.ep = s.ep ∧ t.regs = s.regs ∧ (∀ g, g ≠ f → t.fn g = s.fn g)) ∧
  (∀ (s : State) (f : Nat) (b : BitVec 512), s.nextRing = some f → 7 < ({ bits := b } : RingCmd).opcode → (s.fn
    f).posts = [] → (s.fn f).cmds = [] ∧ (s.fn f).orphans = [] → ∃ t, exec (.commandFetch (some b)) s = .next t ∧
    t.host.turn = (f + 1) % 65 ∧ Posted (s.setFn f { s.fn f with sqHead := ((s.fn f).sqHead + 1) % (s.fn f).sqSize })
    t f ({ bits := b } : RingCmd).id St.featureNotNegotiated 0 0 ∧ t.ep = s.ep ∧ t.regs = s.regs) ∧
  (∀ (s : State) (f : Nat), s.nextRing = some f → ∃ t, exec (.commandFetch none) s = .next t ∧ t.host.turn = (f + 1) %
    65 ∧ (t.fn f).state = 3 ∧ (t.fn f).error = 2 ∧ (t.fn f).sqHead = (s.fn f).sqHead ∧ t.reg 0xA100 6 = (s.reg 0xA100
    6 + 1) % 2 ^ 32 ∧ t.out = s.out ∧ t.ep = s.ep) ∧
  (∀ (s : State) (b : Option (BitVec 512)), s.nextRing = none → exec (.commandFetch b) s = .next (s))

/-- Commands of a ring. A command that starts takes its effect and its completion entry is posted: NOP at once; a read
of the dictionary with the value written to host memory before; a write with the value set, and STEP_PENDING with
its token where it starts an operation; a query with the state of the token, or later under WAIT; a copy, once every
grain of it has been acknowledged, with the octets of a copy from the tray written before. A cancel of no instance
completes with OK. A command that is refused completes with its status and has no other effect. A failed DMA puts
the ring into error and holds its completion back. -/
def Obligations.RingCommands : Prop :=
  (∀ (s : State) (f : Fn) (c : RingCmd), s.starts f.val 0 c → ∃ t, exec (.nop f) s = .next t ∧ Posted s t f.val c.id
    St.ok 0 0 ∧ t.regs = s.regs ∧ t.nv = s.nv ∧ t.ep = s.ep ∧ t.board = s.board) ∧
  (∀ (s : State) (f : Fn), (s.nextCmd f.val).all (fun p => p.1.opcode != 0 && decide (p.1.opcode ≤ 7)) = true → exec
    (.nop f) s = .next (s)) ∧
  (∀ (s : State) (f : Fn) (c : RingCmd) (st : Nat), s.nextCmd f.val = some (c, c.id) → c.opcode = 0 → s.cmdRefused
    f.val c = some st → (s.fn f.val).waits c.id false = true → (s.fn f.val).holds = false → ∃ t, exec (.nop f) s =
    .next t ∧ Posted s t f.val c.id st 0 0 ∧ t.regs = s.regs ∧ t.nv = s.nv ∧ t.ep = s.ep ∧ t.board = s.board) ∧
  (∀ (s : State) (f : Fn) (c : RingCmd), s.starts f.val 1 c → s.readable (fnRoute f) (c.operand 143 128) (c.operand
    151 144) = true → plainRead (c.operand 143 128) (c.operand 151 144) = true → (s.shown (c.operand 143 128)
    (c.operand 151 144)).length ≤ c.len → ∃ t, exec (.dictRead f true) s = .next t ∧ .hostWrite f.val c.hostAddr
    (s.shown (c.operand 143 128) (c.operand 151 144)) ∈ t.out ∧ Posted s t f.val c.id St.ok (s.shown (c.operand 143
    128) (c.operand 151 144)).length 0 ∧ t.regs = s.regs ∧ t.nv = s.nv ∧ t.ep = s.ep ∧ t.board = s.board) ∧
  (∀ (s : State) (f : Fn) (c : RingCmd), s.starts f.val 1 c → s.readable (fnRoute f) (c.operand 143 128) (c.operand
    151 144) = true → plainRead (c.operand 143 128) (c.operand 151 144) = true → c.len < (s.shown (c.operand 143 128)
    (c.operand 151 144)).length → ∃ t, exec (.dictRead f true) s = .next t ∧ Posted s t f.val c.id St.bounds 0 0 ∧
    t.regs = s.regs ∧ t.nv = s.nv ∧ t.ep = s.ep ∧ t.board = s.board) ∧
  (∀ (s : State) (f : Fn) (c : RingCmd), s.starts f.val 1 c → s.readable (fnRoute f) (c.operand 143 128) (c.operand
    151 144) = true → plainRead (c.operand 143 128) (c.operand 151 144) = true → (s.shown (c.operand 143 128)
    (c.operand 151 144)).length ≤ c.len → (s.fn f.val).state = 1 → ∃ t, exec (.dictRead f false) s = .next t ∧ (t.fn
    f.val).state = 3 ∧ (t.fn f.val).error = 2 ∧ (t.fn f.val).cqTail = (s.fn f.val).cqTail ∧ ((t.fn f.val).posts.map
    (fun p => (p.1, p.2.2)) = (s.fn f.val).posts.map (fun p => (p.1, p.2.2)) ++ [(c.id, 0, 0, false)]) ∧ t.out = s.out
    ∧ t.ep = s.ep) ∧
  (∀ (s : State) (f : Fn) (c : RingCmd) (data : Bytes), s.starts f.val 2 c → (c.operand 143 128, c.operand 151 144) ∈
    plainCells → c.len ≤ data.length → s.passes (fnRoute f) (c.operand 143 128) (c.operand 151 144) (data.take c.len)
    = true → s.clock.running = true → s.boot.startDue = none → ∃ t, exec (.dictWrite f (some data)) s = .next t ∧
    t.reg (c.operand 143 128) (c.operand 151 144) = leNat (data.take c.len) ∧ Posted s t f.val c.id St.ok 0 0 ∧ t.nv =
    s.nv ∧ t.ep = s.ep ∧ t.board = s.board) ∧
  (∀ (s : State) (f : Fn) (c : RingCmd) (data : Bytes) (st : Nat), s.starts f.val 2 c → c.len ≤ data.length →
    s.receiver (fnRoute f) = none → s.check (fnRoute f) (c.operand 143 128) (c.operand 151 144) true (data.take c.len)
    = some st → s.clock.running = true → s.boot.startDue = none → ∃ t, exec (.dictWrite f (some data)) s = .next t ∧
    Posted s t f.val c.id st 0 0 ∧ t.regs = s.regs ∧ t.nv = s.nv ∧ t.ep = s.ep ∧ t.board = s.board) ∧
  (∀ (s : State) (f : Fn) (c : RingCmd), s.starts f.val 3 c → c.operand 192 192 = 0 ∨ (s.queryToken f.val 0 (c.operand
    191 128) false).1 ≠ St.stepPending → ∃ t, exec (.ringStepQuery f) s = .next t ∧ Posted s t f.val c.id
    (s.queryToken f.val 0 (c.operand 191 128) false).1 (leNat (s.queryToken f.val 0 (c.operand 191 128) false).2) 0 ∧
    t.tokens = s.tokens ∧ t.regs = s.regs ∧ t.ep = s.ep) ∧
  (∀ (s : State) (f : Fn) (c : RingCmd), s.starts f.val 3 c → c.operand 192 192 = 1 → (s.queryToken f.val 0 (c.operand
    191 128) false).1 = St.stepPending → ∃ t, exec (.ringStepQuery f) s = .next t ∧ ((t.tokenTable f.val).held = lmod
    (s.tokenTable f.val).held (fun k => k.serial == fld (c.operand 191 128) 31 0) (fun k =>
    { k with waiters := k.waiters ++ [(f.val, c.id)] })) ∧ t.out = s.out ∧ t.regs = s.regs ∧ t.ep = s.ep) ∧
  (∀ (s : State) (f : Fn) (c : RingCmd) (data : Bytes), s.starts f.val 4 c → c.len ≤ data.length → ∃ t, exec
    (.copyToTray f (some data)) s = .next t ∧ (t.ep.transfers.map (fun x => (x.fn, x.req.kind, x.req.cmd, x.req.addr,
    x.req.data)) = s.ep.transfers.map (fun x => (x.fn, x.req.kind, x.req.cmd, x.req.addr, x.req.data)) ++ [(f.val, 6,
    c.id, c.hostAddr, data.take c.len)]) ∧ t.ep.nextReq = s.ep.nextReq + 1 ∧ (t.fn f.val).cqTail = (s.fn f.val).cqTail
    ∧ t.regs = s.regs ∧ t.board = s.board) ∧
  (∀ (s : State) (f : Fn) (c : RingCmd), s.starts f.val 5 c → ∃ t, exec (.copyFromTray f) s = .next t ∧
    (t.ep.transfers.map (fun x => (x.fn, x.req.kind, x.req.cmd, x.req.addr, x.req.len)) = s.ep.transfers.map (fun x =>
    (x.fn, x.req.kind, x.req.cmd, x.req.addr, x.req.len)) ++ [(f.val, 7, c.id, c.hostAddr, c.len)]) ∧ t.ep.nextReq =
    s.ep.nextReq + 1 ∧ (t.fn f.val).cqTail = (s.fn f.val).cqTail ∧ t.regs = s.regs ∧ t.board = s.board) ∧
  (∀ (s : State) (f : Fn) (x : Transfer), s.ep.transfers.find? (fun t => t.fn == f.val && t.answered && (t.req.kind ==
    6 || t.req.kind == 7)) = some x → (s.fn f.val).waits x.req.cmd false = true → (s.fn f.val).holds = false → x.fails
    = [] → ∃ t, exec (.copyComplete f true) s = .next t ∧ Posted s t f.val x.req.cmd x.status 0 0 ∧ ((x.req.kind = 7 →
    ∀ e ∈ x.hostWrites, e ∈ t.out)) ∧ (t.ep.transfers = s.ep.transfers.filter (fun y => y.req.id != x.req.id)) ∧
    t.regs = s.regs ∧ t.board = s.board) ∧
  (∀ (s : State) (f : Fn) (written : Bool), s.ep.transfers.find? (fun t => t.fn == f.val && t.answered && (t.req.kind
    == 6 || t.req.kind == 7)) = none → exec (.copyComplete f written) s = .next (s)) ∧
  (∀ (s : State) (f : Fn) (c : RingCmd), s.starts f.val 7 c → s.cancelled (c.operand 135 128) (c.operand 199 136) =
    none → ∃ t, exec (.ringCancel f) s = .next t ∧ Posted s t f.val c.id St.ok 0 0 ∧ t.board = s.board ∧ t.regs =
    s.regs ∧ t.ep = s.ep) ∧
  (∀ (s : State) (f : Fn) (c : RingCmd) (x : Context), s.starts f.val 7 c → s.cancelled (c.operand 135 128) (c.operand
    199 136) = some x → dIssuer x.desc = s.ownEp → x.state = 2 → x.ring = none → s.ep.ended = [] → ∃ t, exec
    (.ringCancel f) s = .next t ∧ Ended t (c.operand 135 128 % 32) St.cancelled 0x3FFF ∧ Posted s t f.val c.id St.ok 0
    0 ∧ t.keys = s.keys) ∧
  (∀ (s : State) (f : Fn) (c : RingCmd) (x : Context), s.starts f.val 7 c → s.cancelled (c.operand 135 128) (c.operand
    199 136) = some x → dIssuer x.desc ≠ s.ownEp → ∃ t, exec (.ringCancel f) s = .next t ∧ Posted s t f.val c.id
    St.contextDenied 0 0 ∧ t.board = s.board ∧ t.regs = s.regs ∧ t.ep = s.ep) ∧
  (∀ (s : State) (f : Fn) (c : RingCmd) (data : Bytes) (d : Desc) (r : Roster), s.starts f.val 6 c → d = descOf
    (data.take c.len) → c.len ≤ data.length → s.reg 0x1020 1 ≠ 0 → s.fnPart f.val = dPart d → (s.rosterOf d).getD {} =
    r → r.devices = [(s.ownEp, 0x7FF)] → s.prepareCheck d = (0, 0, r, 0) → s.clock.span + 1 < dFirst d → dFirst d ≤
    s.clock.span + 32767 → s.ep.ended = [] → ∃ t, exec (.ringAdmit f (some data)) s = .next t ∧ (t.ctx (dCtx d)).state
    = 2 ∧ (t.ctx (dCtx d)).desc = d ∧ (t.ctx (dCtx d)).ring = some (f.val, c.id) ∧ Posted s t f.val c.id St.ok
    (fingerprint d) 0 ∧ t.keys = s.keys) ∧
  (∀ (s : State) (f : Fn) (c : RingCmd) (data : Bytes) (d : Desc) (st detail : Nat) (x : Roster × Nat), s.starts f.val
    6 c → d = descOf (data.take c.len) → c.len ≤ data.length → s.reg 0x1020 1 ≠ 0 → s.fnPart f.val = dPart d →
    ((s.rosterOf d).getD {}).device s.ownEp = some 0 → s.prepareCheck d = (st, detail, x.1, x.2) → st ≠ 0 → dFirst d ≤
    s.clock.span + 32767 → s.ep.ended = [] → ∃ t, exec (.ringAdmit f (some data)) s = .next t ∧ Posted s t f.val c.id
    st (fingerprint d) detail ∧ t.board.ctxs = s.board.ctxs ∧ t.reg 0x5000 6 = (s.reg 0x5000 6 + 1) % 2 ^ 64 ∧ t.keys
    = s.keys)

/-- The host link and the resets of functions. Training brings the host link up with its rate and width while the host
engine has light and the device is out of reset. Its loss, a hot reset and a Function Level Reset of the PF reset
every function and withdraw the virtual functions; a reset of one function leaves the others. Enabling virtual
functions sets their number and resets those withdrawn. -/
def Obligations.HostLink : Prop :=
  (∀ (s : State) (rate : BitVec 8) (width : Fin 3), s.hostLight = true → s.boot.phase ≠ .off → s.boot.phase ≠ .inReset
    → exec (.hostLinkTrained rate width) s = .next
    ({ s with host := { s.host with up := true, rate := rate.toNat, width := 2 ^ (4 - width.val) } })) ∧
  (∀ (s : State) (rate : BitVec 8) (width : Fin 3), s.hostLight = false ∨ s.boot.phase = .off ∨ s.boot.phase =
    .inReset → exec (.hostLinkTrained rate width) s = .next (s)) ∧
  (∀ (s : State) (kind : Fin 3), s.host.up = true → ∃ t, exec (.hostLinkDown kind) s = .next t ∧ t.host.up = decide
    (kind.val = 2) ∧ t.host.numVfs = 0 ∧ ((∀ f ∈ List.range 65, (t.fn f).state = 0 ∧ (t.fn f).enable = false ∧ (t.fn
    f).cmds = [] ∧ (t.fn f).aps = [] ∧ (t.fn f).fences = [])) ∧ (t.reg 0xA100 4 = (if kind.val = 2 then s.reg 0xA100 4
    else (s.reg 0xA100 4 + 1) % 2 ^ 32)) ∧ (t.reg 0xA100 5 = (if kind.val = 2 then (s.reg 0xA100 5 + 1) % 2 ^ 32 else
    s.reg 0xA100 5)) ∧ t.out = s.out ∧ t.keys = s.keys ∧ t.ep.home = s.ep.home ∧ t.ports = s.ports) ∧
  (∀ (s : State) (kind : Fin 3), s.host.up = false → kind.val ≠ 2 → exec (.hostLinkDown kind) s = .next (s)) ∧
  (∀ (s : State) (p : Part) (flr : Bool), ∃ t, exec (.vfReset p flr) s = .next t ∧ (t.fn (p.val + 1)).state = 0 ∧
    (t.fn (p.val + 1)).enable = false ∧ (t.fn (p.val + 1)).cmds = [] ∧ (t.fn (p.val + 1)).aps = [] ∧ (t.reg 0xA100 5 =
    (if flr then (s.reg 0xA100 5 + 1) % 2 ^ 32 else s.reg 0xA100 5)) ∧ t.host.up = s.host.up ∧ t.host.numVfs =
    s.host.numVfs ∧ t.out = s.out ∧ t.keys = s.keys ∧ t.ep.home = s.ep.home ∧ (∀ g, g ≠ p.val + 1 → t.fn g = s.fn g) ∧
    (∀ g, g ≠ p.val + 1 → t.tokenTable g = s.tokenTable g)) ∧
  (∀ (s : State) (n : Fin 65), s.host.up = true → n.val ≤ s.totalVfs → ∃ t, exec (.numvfsSet n) s = .next t ∧
    t.host.numVfs = n.val ∧ t.host.up = true ∧ ((∀ f ∈ List.range 65, n.val < f → (t.fn f).state = 0 ∧ (t.fn f).enable
    = false ∧ (t.fn f).cmds = [] ∧ (t.fn f).aps = [])) ∧ ((∀ f ∈ List.range 65, f ≤ n.val → t.fn f = s.fn f)) ∧ t.regs
    = s.regs ∧ t.out = s.out ∧ t.keys = s.keys ∧ t.ep.home = s.ep.home) ∧
  (∀ (s : State) (n : Fin 65), s.host.up = false ∨ s.totalVfs < n.val → exec (.numvfsSet n) s = .next (s))

/-- The dictionary window and the host window. The dictionary window answers a read with the value and a write with
its status in its registers. A host window access that its aperture grants goes out as a request of the device's own
end-point; one that is refused fills WINDOW_ERROR, a read or AtomicOp then answers the host at once. A fence waits
for the writes and AtomicOps posted before it, and answers at once when there are none, with the first failure since
the one before. -/
def Obligations.HostWindows : Prop :=
  (∀ (s : State) (f : Fn) (idx : BitVec 16) (sub : BitVec 8), s.fnOffered f.val = true → s.readable (fnRoute f)
    idx.toNat sub.toNat = true → plainRead idx.toNat sub.toNat = true → ∃ t, exec (.windowRead f idx sub) s = .next t
    ∧ (t.fn f.val).wIndex = idx.toNat ∧ (t.fn f.val).wSub = sub.toNat ∧ (t.fn f.val).wState = 2 ∧ (t.fn f.val).wStatus
    = St.ok ∧ (t.fn f.val).wData = s.shown idx.toNat sub.toNat ∧ (t.fn f.val).wLength = (s.shown idx.toNat
    sub.toNat).length ∧ (t.fn f.val).wToken = 0 ∧ t.regs = s.regs ∧ t.nv = s.nv ∧ t.out = s.out ∧ t.ep = s.ep) ∧
  (∀ (s : State) (f : Fn) (idx : BitVec 16) (sub : BitVec 8) (st : Nat), s.fnOffered f.val = true → s.receiver
    (fnRoute f) = none → s.check (fnRoute f) idx.toNat sub.toNat false [] = some st → ∃ t, exec (.windowRead f idx
    sub) s = .next t ∧ (t.fn f.val).wIndex = idx.toNat ∧ (t.fn f.val).wSub = sub.toNat ∧ (t.fn f.val).wState = 2 ∧
    (t.fn f.val).wStatus = st ∧ (t.fn f.val).wLength = 0 ∧ t.regs = s.regs ∧ t.nv = s.nv ∧ t.out = s.out ∧ t.ep =
    s.ep) ∧
  (∀ (s : State) (f : Fn) (idx : BitVec 16) (sub : BitVec 8) (v : Bytes), s.fnOffered f.val = true → (idx.toNat,
    sub.toNat) ∈ plainCells → s.passes (fnRoute f) idx.toNat sub.toNat v = true → s.clock.running = true →
    s.boot.startDue = none → ∃ t, exec (.windowWrite f idx sub v) s = .next t ∧ t.reg idx.toNat sub.toNat = leNat v ∧
    (t.fn f.val).wIndex = idx.toNat ∧ (t.fn f.val).wSub = sub.toNat ∧ (t.fn f.val).wState = 2 ∧ (t.fn f.val).wStatus =
    St.ok ∧ (t.fn f.val).wToken = 0 ∧ t.nv = s.nv ∧ t.out = s.out ∧ t.ep = s.ep) ∧
  (∀ (s : State) (f : Fn) (off : BitVec 34) (len : BitVec 13), s.fnOffered f.val = true → len ≠ 0 → s.windowRefusal
    f.val off.toNat len.toNat false = 0 → ∃ t, exec (.hostWindowRead f off len) s = .next t ∧ (t.ep.transfers.map (fun
    x => (x.fn, x.req.kind, x.req.len)) = s.ep.transfers.map (fun x => (x.fn, x.req.kind, x.req.len)) ++ [(f.val, 8,
    len.toNat)]) ∧ t.ep.nextReq = s.ep.nextReq + 1 ∧ t.host = s.host ∧ t.regs = s.regs ∧ t.ep.home = s.ep.home) ∧
  (∀ (s : State) (f : Fn) (off : BitVec 34) (len : BitVec 13), s.fnOffered f.val = true → len ≠ 0 → s.windowRefusal
    f.val off.toNat len.toNat false = 3 → ∃ t, exec (.hostWindowRead f off len) s = .next t ∧ .pcie f.val St.bounds []
    ∈ t.out ∧ (t.fn f.val).winErr = put St.bounds 63 48 + put (off.toNat / 2 ^ 30) 47 44 + min ((s.fn f.val).winErr %
    2 ^ 14 + 1) (2 ^ 14 - 1) ∧ t.ep = s.ep ∧ t.regs = s.regs) ∧
  (∀ (s : State) (f : Fn) (off : BitVec 34) (data : Bytes), s.fnOffered f.val = true → data ≠ [] → s.windowRefusal
    f.val off.toNat data.length true = 0 → ∃ t, exec (.hostWindowWrite f off data) s = .next t ∧ (t.ep.transfers.map
    (fun x => (x.fn, x.req.kind, x.req.len, x.req.data)) = s.ep.transfers.map (fun x => (x.fn, x.req.kind, x.req.len,
    x.req.data)) ++ [(f.val, 9, data.length, data)]) ∧ t.ep.nextReq = s.ep.nextReq + 1 ∧ t.host = s.host ∧ t.regs =
    s.regs ∧ t.ep.home = s.ep.home) ∧
  (∀ (s : State) (f : Fn) (off : BitVec 34) (data : Bytes), s.fnOffered f.val = true → data ≠ [] → s.windowRefusal
    f.val off.toNat data.length true = 1 → (s.fn f.val).fences = [] → ∃ t, exec (.hostWindowWrite f off data) s =
    .next t ∧ (t.fn f.val).winErr = put St.featureNotNegotiated 63 48 + put (off.toNat / 2 ^ 30) 47 44 + min ((s.fn
    f.val).winErr % 2 ^ 14 + 1) (2 ^ 14 - 1) ∧ ((t.fn f.val).fenceStatus = (if (s.fn f.val).fenceStatus = 0 then
    St.featureNotNegotiated else (s.fn f.val).fenceStatus)) ∧ t.ep = s.ep ∧ t.regs = s.regs) ∧
  (∀ (s : State) (f : Fn) (off : BitVec 34) (op : Fin 3) (wide : Bool) (a b : BitVec 64), s.fnOffered f.val = true →
    s.windowRefusal f.val off.toNat (if wide then 8 else 4) true = 0 → ∃ t, exec (.hostWindowAtomic f off op wide a b)
    s = .next t ∧ (t.ep.transfers.map (fun x => (x.fn, x.req.kind, x.req.len, x.req.atomicOp)) = s.ep.transfers.map
    (fun x => (x.fn, x.req.kind, x.req.len, x.req.atomicOp)) ++ [(f.val, 10, if wide then 8 else 4, if op.val = 0 then
    0 else if op.val = 1 then 6 else 7)]) ∧ t.ep.nextReq = s.ep.nextReq + 1 ∧ t.host = s.host ∧ t.regs = s.regs ∧
    t.ep.home = s.ep.home) ∧
  (∀ (s : State) (f : Fn), s.fnOffered f.val = true → (s.fn f.val).fences = [] → s.ep.transfers.all (fun t => t.fn !=
    f.val || t.answered || (t.req.kind != 9 && t.req.kind != 10)) = true → ∃ t, exec (.windowFence f) s = .next t ∧
    t.out = s.out ++ [.pcie f.val 0 (natLe 2 (s.fn f.val).fenceStatus)] ∧ (t.fn f.val).fenceStatus = 0 ∧ (t.fn
    f.val).fences = [] ∧ t.ep = s.ep ∧ t.regs = s.regs) ∧
  (∀ (s : State) (f : Fn), s.fnOffered f.val = true → s.ep.transfers.any (fun t => t.fn == f.val && !t.answered &&
    (t.req.kind == 9 || t.req.kind == 10)) = true → (s.fn f.val).fences = [] → ∃ t, exec (.windowFence f) s = .next t
    ∧ ((t.fn f.val).fences = [(s.ep.transfers.filter fun t => t.fn == f.val && !t.answered && (t.req.kind == 9 ||
    t.req.kind == 10)).map (fun t => t.req.id)]) ∧ t.out = s.out ∧ t.ep = s.ep ∧ t.regs = s.regs ∧ (t.fn
    f.val).fenceStatus = (s.fn f.val).fenceStatus)

/-- The management port and dictionary messages. The port answers ARP requests and neighbour solicitations for its
addresses with its MAC address, echo requests with their data, and a dictionary message once: READ with the octets
of the value from OFFSET on, STEP_QUERY with the state of the token, DESCRIBE with the description record, a WRITE
outside its set with CONTEXT_DENIED; the answer is kept and both frames are counted. A frame for another station is
ignored, an authenticated request without a key is dropped and counted. In management grains the management
partition's WRITE takes effect and is answered. -/
def Obligations.ManagementPort : Prop :=
  (∀ (s : State) (f : Frame), s.hears { f with v6 := false } → ∃ t, exec (.arpRequest f) s = .next t ∧ t.out = s.out
    ++ [.frame "ARP" f.fromMac.toNat false f.src.toNat f.srcPort.toNat (natLe 6 Config.mac.toNat)] ∧ t.reg 0xA110 2 =
    (s.reg 0xA110 2 + 1) % 2 ^ 64 ∧ t.nv = s.nv ∧ t.mgmt = s.mgmt ∧ t.ep = s.ep) ∧
  (∀ (s : State) (f : Frame), s.hears { f with v6 := true } → ∃ t, exec (.neighborSolicitation f) s = .next t ∧ t.out
    = s.out ++ [.frame "NEIGHBOR" f.fromMac.toNat true f.src.toNat f.srcPort.toNat (natLe 6 Config.mac.toNat)] ∧ t.reg
    0xA110 2 = (s.reg 0xA110 2 + 1) % 2 ^ 64 ∧ t.nv = s.nv ∧ t.mgmt = s.mgmt ∧ t.ep = s.ep) ∧
  (∀ (s : State) (f : Frame), s.hears f → ∃ t, exec (.echoRequest f) s = .next t ∧ t.out = s.out ++ [.frame "ECHO"
    f.fromMac.toNat f.v6 f.src.toNat f.srcPort.toNat f.data] ∧ t.reg 0xA110 2 = (s.reg 0xA110 2 + 1) % 2 ^ 64 ∧ t.nv =
    s.nv ∧ t.mgmt = s.mgmt ∧ t.ep = s.ep) ∧
  (∀ (s : State) (f : Frame), s.awake = false ∨ s.mgmt.port ≠ 3 → exec (.echoRequest f) s = .next (s)) ∧
  (∀ (s : State) (f : Frame), s.awake = true → s.mgmt.port = 3 → f.toMac = Config.mac ∨ f.toMac.toNat % 2 = 1 → f.odd
    = true → ∃ t, exec (.echoRequest f) s = .next t ∧ t.out = s.out ∧ t.nv = s.nv ∧ t.mgmt = s.mgmt ∧ t.ep = s.ep ∧
    t.reg 0xA110 2 = (s.reg 0xA110 2 + 1) % 2 ^ 64 ∧ t.reg 0xA110 4 = (s.reg 0xA110 4 + 1) % 2 ^ 64) ∧
  (∀ (s : State) (state : Fin 4), s.awake = true → s.host.laser0 = true ∨ s.host.laser1 = true → s.host.hot = false →
    exec (.managementPortLink state) s = .next ({ s with mgmt := { s.mgmt with port := state.val } })) ∧
  (∀ (s : State) (state : Fin 4), s.host.hot = true ∨ (s.host.laser0 = false ∧ s.host.laser1 = false) → exec
    (.managementPortLink state) s = .next (s)) ∧
  (∀ (s : State) (f : Frame) (q : DictMsg), s.hearsMessage f q 1 → q.authOn = false → s.readable .mgmtOpen q.idx q.sub
    = true → plainRead q.idx q.sub = true → s.boot.startDue = none → ∃ t, exec (.read (.port f)) s = .next t ∧
    PortAnswered s t f (q.answer St.ok (s.shown q.idx q.sub).length (((s.shown q.idx q.sub).drop q.offset).take 1024))
    ∧ t.nv = s.nv ∧ t.ep = s.ep ∧ t.ports = s.ports ∧ t.boot = s.boot) ∧
  (∀ (s : State) (f : Frame) (q : DictMsg) (st : Nat), s.hearsMessage f q 1 → q.authOn = false → s.receiver .mgmtOpen
    = none → s.check .mgmtOpen q.idx q.sub false [] = some st → st ≠ St.ok → s.boot.startDue = none → ∃ t, exec (.read
    (.port f)) s = .next t ∧ PortAnswered s t f (q.answer st) ∧ t.nv = s.nv ∧ t.ep = s.ep ∧ t.ports = s.ports ∧ t.boot
    = s.boot) ∧
  (∀ (s : State) (f : Frame) (q : DictMsg), s.hearsMessage f q 2 → q.authOn = false → s.receiver .mgmtOpen = none →
    s.mgmt.staging = [] → q.offset = 0 → q.last = true → q.total = q.body.length → s.check .mgmtOpen q.idx q.sub true
    q.body = some St.contextDenied → s.clock.running = true → s.boot.startDue = none → ∃ t, exec (.write (.port f)) s
    = .next t ∧ PortAnswered s t f (q.answer St.contextDenied) ∧ t.nv = s.nv ∧ t.ep = s.ep ∧ t.ports = s.ports ∧
    t.boot = s.boot) ∧
  (∀ (s u : State) (m : Msg) (q : DictMsg), m.kind = 1 → m.target = 1 → q = parseDict m.payload → q.unlisted = false →
    q.kind = 2 → 32 ≤ m.payload.length → q.len = q.body.length → q.len ≤ 4096 → s.takeMsg .internal m .kept = (u,
    true) → u.coreStop 2 = none → u.mgmt.staging = [] → q.offset = 0 → q.last = true → q.total = q.body.length →
    (q.idx, q.sub) ∈ plainCells → u.passes (.vc6 ⟨m.part.toNat, m.part.isLt⟩ m.src) q.idx q.sub q.body = true →
    u.clock.running = true → u.boot.startDue = none → ∃ t, exec (.write (.fabric .internal m)) s = .next t ∧ t.reg
    q.idx q.sub = leNat q.body ∧ ((tget t.ep.vc6 m.src.toNat []).head?.map (fun x => x.answer) = some (some (1,
    (q.answer St.ok).bytes))) ∧ t.nv = s.nv ∧ t.keys = s.keys ∧ t.board = s.board ∧ t.boot = s.boot) ∧
  (∀ (s : State) (f : Frame) (q : DictMsg), s.hearsMessage f q 2 → q.authOn = true → s.sec.mgmtKey = none →
    s.boot.startDue = none → ∃ t, exec (.write (.port f)) s = .next t ∧ t.out = s.out ∧ t.nv = s.nv ∧ t.ep = s.ep ∧
    t.boot = s.boot ∧ t.mgmt = s.mgmt ∧ t.reg 0xA110 6 = (s.reg 0xA110 6 + 1) % 2 ^ 64 ∧ t.reg 0xA110 2 = (s.reg
    0xA110 2 + 1) % 2 ^ 64) ∧
  (∀ (s : State) (f : Frame) (q : DictMsg), s.hearsMessage f q 3 → q.authOn = false → q.body.length = 8 →
    s.boot.startDue = none → ∃ t, exec (.stepQuery (.port f)) s = .next t ∧ PortAnswered s t f (q.answer (s.queryToken
    0x80 0 (leNat q.body) false).1 0 (s.queryToken 0x80 0 (leNat q.body) false).2) ∧ t.tokens = s.tokens ∧ t.nv = s.nv
    ∧ t.ep = s.ep ∧ t.boot = s.boot) ∧
  (∀ (s : State) (f : Frame) (q : DictMsg), s.hearsMessage f q 4 → q.authOn = false → s.receiver .mgmtOpen = none →
    s.checkName .mgmtOpen q.idx q.sub false 0 = none → s.boot.startDue = none → ∃ t, exec (.describe (.port f)) s =
    .next t ∧ PortAnswered s t f (q.answer St.ok 0 (description s.boot.variant q.idx q.sub)) ∧ t.tokens = s.tokens ∧
    t.nv = s.nv ∧ t.ep = s.ep ∧ t.boot = s.boot) ∧
  (∀ (s : State) (who : Asker), ∃ t, exec (.stagingIdleTimeout who) s = .next t ∧ { t with mgmt := s.mgmt } = s ∧
    (t.mgmt.kept = s.mgmt.kept ∧ t.mgmt.staging.all (fun x => x.who != who) = true) ∧ (∀ x : Staging, x.who ≠ who → (x
    ∈ t.mgmt.staging ↔ x ∈ s.mgmt.staging))) ∧
  (∀ (s : State) (who : Asker) (seq : BitVec 32), ∃ t, exec (.answerCacheExpiry who seq) s = .next t ∧
    { t with mgmt := s.mgmt } = s ∧ (t.mgmt.staging = s.mgmt.staging ∧ t.mgmt.kept.all (fun x => x.who != who || x.seq
    != seq.toNat) = true) ∧ (∀ x : Kept, (x.who ≠ who ∨ x.seq ≠ seq.toNat) → (x ∈ t.mgmt.kept ↔ x ∈ s.mgmt.kept)))

/-- Writes of the dictionary, negotiation and RESTORE. A write that passes the checks to a sub-index that just holds
its value sets it and is answered with OK; one that a check refuses is answered with the status and changes nothing.
DRIVER_INTERFACE negotiates the lower minor version and the features both sides have when the majors agree and
nothing otherwise, and is refused while a virtual function's ring is enabled. RESTORE starts a stepped operation.
CLEAR destroys the management key. -/
def Obligations.DictionaryWrites : Prop :=
  (∀ (s : State) (r : Route) (idx : BitVec 16) (sub : BitVec 8) (v : Bytes), (idx.toNat, sub.toNat) ∈ plainCells →
    s.passes r idx.toNat sub.toNat v = true → s.clock.running = true → s.boot.startDue = none → ∃ t, exec
    (.dictionaryWrite r idx sub v) s = .next t ∧ Served (s.setReg idx.toNat sub.toNat (leNat v)) t r idx.toNat
    sub.toNat St.ok) ∧
  (∀ (s : State) (r : Route) (idx : BitVec 16) (sub : BitVec 8) (v : Bytes) (st : Nat), s.awake = true → s.receiver r
    = none → s.check r idx.toNat sub.toNat true v = some st → s.clock.running = true → s.boot.startDue = none → ∃ t,
    exec (.dictionaryWrite r idx sub v) s = .next t ∧ Served s t r idx.toNat sub.toNat st) ∧
  (∀ (s : State) (r : Route) (v : Bytes), s.passes r 0x1030 3 v = true → s.isReady = true → s.host.fns.any (fun e =>
    e.1 != 0 && e.2.state != 0) = false → leNat v / 256 = s.reg 0x1030 1 / 256 → ∃ t, exec (.driverInterface r v) s =
    .next t ∧ t.reg 0x1030 3 = leNat v ∧ t.reg 0x1030 5 = 256 * (s.reg 0x1030 1 / 256) + min (leNat v % 256) (s.reg
    0x1030 1 % 256) ∧ t.reg 0x1030 6 = s.reg 0x1030 4 &&& s.reg 0x1030 2 ∧ t.out = s.out ++ [.answer r 0x1030 3 St.ok
    0 []] ∧ t.host = s.host ∧ t.nv = s.nv) ∧
  (∀ (s : State) (r : Route) (v : Bytes), s.passes r 0x1030 3 v = true → s.isReady = true → s.host.fns.any (fun e =>
    e.1 != 0 && e.2.state != 0) = false → leNat v / 256 ≠ s.reg 0x1030 1 / 256 → ∃ t, exec (.driverInterface r v) s =
    .next t ∧ t.reg 0x1030 3 = leNat v ∧ t.reg 0x1030 5 = 0 ∧ t.reg 0x1030 6 = 0 ∧ t.out = s.out ++ [.answer r 0x1030
    3 St.ok 0 []] ∧ t.host = s.host ∧ t.nv = s.nv) ∧
  (∀ (s : State) (r : Route) (v : Bytes), s.passes r 0x1030 3 v = true → s.isReady = false ∨ s.host.fns.any (fun e =>
    e.1 != 0 && e.2.state != 0) = true → ∃ t, exec (.driverInterface r v) s = .next t ∧ Served s t r 0x1030 3
    St.valueRefused) ∧
  (∀ (s : State) (r : Route) (v : Bytes), s.passes r 0x2000 4 v = true → s.tokenFree r 0x2000 = true → s.stepRuns
    0x2000 4 = false → ∃ t, exec (.restore r v) s = .next t ∧ Started s t r 0x2000 4) ∧
  (∀ (s : State) (r : Route) (v : Bytes), s.passes r 0x2000 4 v = true → s.stepRuns 0x2000 4 = true → ∃ t, exec
    (.restore r v) s = .next t ∧ Served s t r 0x2000 4 St.loadBusy) ∧
  (∀ (s : State) (r : Route) (v : Bytes), s.passes r 0x9070 3 v = true → ∃ t, exec (.managementKeyClear r v) s = .next
    t ∧ Served { s with sec := { s.sec with mgmtKey := none }, mgmt := { s.mgmt with highSeq := none } } t r 0x9070 3
    St.ok)

/-- The random source, attestation, sealed keys and the management key. A failed health test stops new keys and is
reported; a passed retest clears it. An attestation request is a stepped operation; a mailbox request of 96 octets
is answered with the report over its nonce and data and with the report's signature, and uses a report number. A
release request for a region that this device seals is a stepped operation, one for another is refused; an install
needs a pending release of the last 60 s. DISCARD destroys the slot of a handle. An INSTALL whose CHECK holds sets
the management key, another fails. -/
def Obligations.Attestation : Prop :=
  (∀ (s : State), s.reg 0x9000 6 ≠ 1 → ∃ t, exec (.randomHealthFail) s = .next t ∧ t.reg 0x9000 6 = 1 ∧ Reported t
    0x11 0 0 ∧ t.out = s.out ∧ t.links = s.links ∧ t.sec = s.sec) ∧
  (∀ (s : State), s.reg 0x9000 6 = 1 → exec (.randomHealthFail) s = .next (s)) ∧
  (∀ (s : State), exec (.randomRetest true) s = .next (s.setReg 0x9000 6 0)) ∧
  (∀ (s : State), exec (.randomRetest false) s = .next (s)) ∧
  (∀ (s : State) (r : Route) (v : Bytes), s.passes r 0x9020 1 v = true → s.tokenFree r 0x9020 = true → s.stepRuns
    0x9020 1 = false → ∃ t, exec (.attestationRequest r v) s = .next t ∧ Started s t r 0x9020 1) ∧
  (∀ (s : State) (d : Bytes), d.length = 96 → s.coreStop 0 = none → ∃ t, exec (.doeRequest d) s = .next t ∧ t.out =
    s.out ++ [.pcie 0 St.ok (natLe 512 (s.report 1 (s.sec.reports + 1) (leNat (d.take 32)) (leNat (d.drop 32))) ++
    natLe 4627 (Config.mldsaSign "OBXUS-ATTEST" (natLe 512 (s.report 1 (s.sec.reports + 1) (leNat (d.take 32)) (leNat
    (d.drop 32))))))] ∧ t.sec.reports = s.sec.reports + 1 ∧ { t with sec := s.sec, out := s.out } = s) ∧
  (∀ (s : State) (d : Bytes), d.length ≠ 96 → exec (.doeRequest d) s = .next (s)) ∧
  (∀ (s : State) (r : Route) (v : Bytes) (e : Ent), s.passes r 0x9080 1 v = true → s.releaseRuns = false →
    s.randomFailed = false → leAt v 40 4 < 2 ^ 21 → tget s.keys.table (leAt v 40 4) 0 = e → bit e.toNat 0 = true → bit
    e.toNat 3 = true → fld e.toNat 95 82 = s.ownEp → s.tokenFree r 0x9080 = true → ∃ t, exec (.releaseRequest r v) s =
    .next t ∧ Started s t r 0x9080 1) ∧
  (∀ (s : State) (r : Route) (v : Bytes) (e : Ent), s.passes r 0x9080 1 v = true → s.releaseRuns = false →
    s.randomFailed = false → leAt v 40 4 < 2 ^ 21 → tget s.keys.table (leAt v 40 4) 0 = e → bit e.toNat 0 = false ∨
    bit e.toNat 3 = false ∨ fld e.toNat 95 82 ≠ s.ownEp → ∃ t, exec (.releaseRequest r v) s = .next t ∧ Served s t r
    0x9080 1 St.contextDenied) ∧
  (∀ (s : State) (r : Route) (v : Bytes) (rel : Release), s.passes r 0x9080 7 v = true → s.releaseRuns = false →
    s.sec.release = some rel → s.ns ≤ rel.at_ + 60000000000 → s.tokenFree r 0x9080 = true → ∃ t, exec (.releaseInstall
    r v) s = .next t ∧ Started s t r 0x9080 7) ∧
  (∀ (s : State) (r : Route) (v : Bytes), s.passes r 0x9080 7 v = true → s.releaseRuns = false → s.sec.release = none
    → ∃ t, exec (.releaseInstall r v) s = .next t ∧ Served s t r 0x9080 7 St.attestationRequired) ∧
  (∀ (s : State) (r : Route) (v : Bytes), s.passes r 0x9080 8 v = true → ∃ t, exec (.discard r v) s = .next t ∧
    (Served
    { s with ep := { s.ep with home := { s.ep.home with seals := s.ep.home.seals.filter fun x => x.handle != leNat v } } }
    t r 0x9080 8 St.ok)) ∧
  (∀ (s : State) (r : Route) (v : Bytes), s.passes r 0x9070 2 v = true → ∃ t, exec (.install r v) s = .next t ∧ ((if
    sliceB v 1600 16 = kmac256 (natLe 32 (Config.installDecaps (leAt v 0 1568))) (xorBytes (sliceB v 1568 32) (kmac256
    (natLe 32 (Config.installDecaps (leAt v 0 1568))) (natLe 1568 Config.installPublic.toNat) 32 (ascii
    "OBXUS-MGMT-WRAP"))) 16 (ascii "OBXUS-MGMT-CHECK") then t.sec.mgmtKey = some (leNat (xorBytes (sliceB v 1568 32)
    (kmac256 (natLe 32 (Config.installDecaps (leAt v 0 1568))) (natLe 1568 Config.installPublic.toNat) 32 (ascii
    "OBXUS-MGMT-WRAP")))) ∧ t.mgmt.highSeq = none ∧ t.reg 0x9070 4 = 0 ∧ t.out = s.out ++ [.answer r 0x9070 2 St.ok 0
    []] else Served s t r 0x9070 2 St.unwrapFailed)))

/-- Power samples, control intervals and the steps of the rails. Where every rail has a reading, a sample's power is
the sum of voltage times current over the rails and the always-on power. Of samples of at most 900 W, the first
above the cap begins a run of the descent, is counted and reported; each further one of the run lowers open
acceptance by 64/256 and goes on with the step time; the first at or below the cap ends the run and closes the
report. Where one record stands in the phase set, a control interval gives OPEN as its ceiling what the cap leaves
after FIXED and the needs of the other classes, and no ceiling of VBOARD below 0.850 V where BOARD's need is met; in
the adaptive mode it raises the setpoint by 5 mV after an overrun with room below the cap; in mode 0 it takes a
written voltage. VCORE moves by at most 5 mV toward its target unless the setpoint holds, and VBOARD by 2 mV in its
direction. -/
def Obligations.PowerSampling : Prop :=
  (∀ (s : State) (x : PowerInputs) (l : List (Nat × Nat)), s.boot.phase ≠ .off → x.rails = l.map some → l.length = 7 →
    ∃ t, exec (.powerSample x) s = .next t ∧ t.ns = s.ns + 6144 ∧ (t.power.samples = (l.foldl (fun n e => n + e.1 *
    e.2) x.vaon :: s.power.samples).take 160) ∧ t.reg 0x7020 8 = (s.reg 0x7020 8 + x.failed) % 2 ^ 32 ∧ t.ep = s.ep ∧
    t.ports = s.ports ∧ t.out = s.out) ∧
  (∀ (s : State) (x : PowerInputs) (l : List (Nat × Nat)), s.boot.phase ≠ .off → x.rails = l.map some → l.length = 7 →
    l.foldl (fun n e => n + e.1 * e.2) x.vaon ≤ 9000000 → 10000 * s.reg 0x7000 2 < l.foldl (fun n e => n + e.1 * e.2)
    x.vaon → s.power.run = false → ∃ t, exec (.powerSample x) s = .next t ∧ t.power.run = true ∧ t.power.acc =
    s.power.acc ∧ t.reg 0x7000 4 = 1 ∧ t.reg 0x7000 7 = (s.reg 0x7000 7 + 1) % 2 ^ 32 ∧ Reported t 0x17 0 0) ∧
  (∀ (s : State) (x : PowerInputs) (l : List (Nat × Nat)), s.boot.phase ≠ .off → x.rails = l.map some → l.length = 7 →
    l.foldl (fun n e => n + e.1 * e.2) x.vaon ≤ 9000000 → 10000 * s.reg 0x7000 2 < l.foldl (fun n e => n + e.1 * e.2)
    x.vaon → s.power.run = true → ∃ t, exec (.powerSample x) s = .next t ∧ t.power.run = true ∧ t.power.acc =
    s.power.acc - 64 ∧ t.reg 0x7000 7 = s.reg 0x7000 7 ∧ (t.reg 0x7000 4 = (if s.power.runAt + 2000000 ≤ s.ns + 6144
    then 3 else 1))) ∧
  (∀ (s : State) (x : PowerInputs) (l : List (Nat × Nat)), s.boot.phase ≠ .off → x.rails = l.map some → l.length = 7 →
    l.foldl (fun n e => n + e.1 * e.2) x.vaon ≤ 9000000 → l.foldl (fun n e => n + e.1 * e.2) x.vaon ≤ 10000 * s.reg
    0x7000 2 → s.power.run = true → ∃ t, exec (.powerSample x) s = .next t ∧ t.power.run = false ∧ (t.reg 0x7000 4 =
    (if s.power.floorClamp then 2 else 0)) ∧ Reported t 0x17 0 0 true) ∧
  (∀ (s : State) (p : Phaseset), s.coreP = true → s.power.written = false → s.phaseSet = [p] → 0 < p.open_ → ∃ t, exec
    (.controlInterval) s = .next t ∧ t.power.ceilA = 256 * min (10000 * p.open_) (10000 * s.reg 0x7000 2 -
    s.classPower 0 - 10000 * p.link - 10000 * p.memory - 10000 * p.board) / (10000 * p.open_) ∧ ((10000 * p.board ≤
    10000 * s.reg 0x7000 2 - s.classPower 0 - 10000 * p.link - 10000 * p.memory → t.power.ceilV = 850)) ∧
    t.power.overruns = 0 ∧ t.power.slackMin = 32 ∧ t.ep = s.ep ∧ t.ports = s.ports ∧ t.out = s.out) ∧
  (∀ (s : State), s.coreP = true → s.power.written = false → s.power.mode = 1 → 0 < s.power.overruns → s.windowPower +
    400000 ≤ 10000 * s.reg 0x7000 2 → s.power.run = false → s.power.low = false → s.power.target + 5 ≤ s.reg 0x7020 3
    → ∃ t, exec (.controlInterval) s = .next t ∧ t.power.target = s.power.target + 5 ∧ t.reg 0x7020 5 = (s.reg 0x7020
    5 + 1) % 2 ^ 32 ∧ t.reg 0x7020 6 = s.stampSpan ∧ t.power.overruns = 0 ∧ t.power.slackMin = 32) ∧
  (∀ (s : State), s.coreP = true → s.power.written = true → s.reg 0x7020 1 = 0 → ∃ t, exec (.controlInterval) s =
    .next t ∧ t.power.mode = 0 ∧ t.power.vset = s.reg 0x7020 2 ∧ t.power.target = s.reg 0x7020 2 ∧ t.power.written =
    false ∧ (((s.power.mode ≠ 0 ∨ s.power.vset ≠ s.reg 0x7020 2) → t.reg 0x7020 6 = s.stampSpan)) ∧ t.ep = s.ep ∧
    t.ports = s.ports ∧ t.out = s.out) ∧
  (∀ (s : State), s.coreP = true → s.setpointHeld = false → 600 ≤ s.power.target → s.power.target ≤ 850 →
    s.power.vcore ≠ s.power.target → ∃ t, exec (.vcoreStep) s = .next t ∧ (t.power.vcore = (if s.power.vcore <
    s.power.target then min s.power.target (s.power.vcore + 5) else max s.power.target (s.power.vcore - 5))) ∧ t.out =
    s.out ++ [.avs 0 t.power.vcore] ∧ t.regs = s.regs ∧ t.ep = s.ep) ∧
  (∀ (s : State), s.setpointHeld = true ∨ s.coreP = false → exec (.vcoreStep) s = .next (s)) ∧
  (∀ (s : State) (thermal : Bool), (if thermal then s.power.dirT else s.power.dirV) = 1 → ∃ t, exec (.vboardStep
    thermal) s = .next t ∧ ((if thermal then t.power.vbT else t.power.vb) = max 600 (min (if thermal then s.power.vbT
    else s.power.vb) s.power.vcore - 2)) ∧ ((if thermal then t.power.vb else t.power.vbT) = (if thermal then
    s.power.vb else s.power.vbT)) ∧ t.regs = s.regs ∧ t.ep = s.ep ∧ t.out = s.out) ∧
  (∀ (s : State) (thermal : Bool), (if thermal then s.power.dirT else s.power.dirV) = 2 → (if thermal then s.power.vbT
    else s.power.vb) + 2 < min s.power.vcore s.power.ceilV → ∃ t, exec (.vboardStep thermal) s = .next t ∧ ((if
    thermal then t.power.vbT else t.power.vb) = (if thermal then s.power.vbT else s.power.vb) + 2) ∧ ((if thermal then
    t.power.vb else t.power.vbT) = (if thermal then s.power.vb else s.power.vbT)) ∧ t.regs = s.regs ∧ t.ep = s.ep ∧
    t.out = s.out)

/-- The cap, board quarters, hot engines and the learned table. A write of the cap sets the cap in force, at least 420
W, and answers CAP_CLAMPED below that. A write of BOARD_QUARTERS powers a quarter up or off and is refused while a
board record or a held context uses one it would switch off; a powered-up quarter is then on. An engine above 80
degrees Celsius stops: its port goes DARK, or the host engine's PCIe and management port go down; it may carry light
again once cooled. FORGET empties the learned table. -/
def Obligations.PowerSettings : Prop :=
  (∀ (s : State) (r : Route) (v : Bytes), s.passes r 0x7000 1 v = true → ∃ t, exec (.cap r v) s = .next t ∧ t.reg
    0x7000 1 = leNat v ∧ t.reg 0x7000 2 = max 420 (leNat v) ∧ (t.out = s.out ++ [.answer r 0x7000 1 (if leNat v < 420
    then St.capClamped else St.ok) 0 []]) ∧ t.ep = s.ep ∧ t.ports = s.ports ∧ t.nv = s.nv) ∧
  (∀ (s : State) (r : Route) (v : Bytes), s.passes r 0x7010 2 v = true → s.hasBoard = true → (∀ q ∈ List.range 4, bit
    (s.reg 0x7010 2) q = true → bit (leNat v) q = false → s.quarterUsed q = false) → ∃ t, exec (.boardQuarters r v) s
    = .next t ∧ t.reg 0x7010 2 = leNat v % 16 ∧ (∀ q ∈ List.range 4, tget t.power.quarters q 0 = (if bit (leNat v) q =
    bit (s.reg 0x7010 2) q then tget s.power.quarters q 0 else if bit (leNat v) q then 2 else 0)) ∧ t.out = s.out ++
    [.answer r 0x7010 2 St.ok 0 []] ∧ t.ep = s.ep ∧ t.board = s.board) ∧
  (∀ (s : State) (r : Route) (v : Bytes) (q : Quarter), s.passes r 0x7010 2 v = true → s.hasBoard = true → bit (s.reg
    0x7010 2) q.val = true → bit (leNat v) q.val = false → s.quarterUsed q.val = true → ∃ t, exec (.boardQuarters r v)
    s = .next t ∧ Served s t r 0x7010 2 St.valueRefused) ∧
  (∀ (s : State) (q : Quarter), tget s.power.quarters q.val 0 = 2 → ∃ t, exec (.boardDomainUp q) s = .next t ∧ tget
    t.power.quarters q.val 0 = 1 ∧ { t with power := s.power } = s ∧ (∀ p, p ≠ q.val → tget t.power.quarters p 0 =
    tget s.power.quarters p 0)) ∧
  (∀ (s : State) (q : Quarter), tget s.power.quarters q.val 0 ≠ 2 → exec (.boardDomainUp q) s = .next (s)) ∧
  (∀ (s : State) (engine : Fin 25) (reading : Int), 1280 < reading → engine.val ∉ s.power.stopped → ∃ t, exec
    (.engineOverheat engine reading) s = .next t ∧ t.power.stopped = s.power.stopped ++ [engine.val] ∧ t.reg 0x7040 5
    = maskOf (s.power.stopped ++ [engine.val]) ∧ ((if engine.val = 24 then t.host.hot = true ∧ t.host.up = false ∧
    t.mgmt.port = 0 else (t.link engine.val).hot = true ∧ t.linkState engine.val = 0)) ∧ Reported t 0x19 9 engine.val) ∧
  (∀ (s : State) (engine : Fin 25) (reading : Int), reading ≤ 1280 ∨ engine.val ∈ s.power.stopped → exec
    (.engineOverheat engine reading) s = .next (s)) ∧
  (∀ (s : State) (engine : Fin 25) (reading : Int), reading ≤ 1200 → engine.val ∈ s.power.stopped → ∃ t, exec
    (.engineCooled engine reading) s = .next t ∧ engine.val ∉ t.power.stopped ∧ t.reg 0x7040 5 = maskOf
    t.power.stopped ∧ ((if engine.val = 24 then t.host.hot = false else (t.link engine.val).hot = false)) ∧ t.out =
    s.out ∧ t.ports = s.ports ∧ t.ep = s.ep) ∧
  (∀ (s : State) (r : Route) (v : Bytes), s.passes r 0x7030 4 v = true → ∃ t, exec (.forget r v) s = .next t ∧ Served
    { s with power := { s.power with learned := [] } } t r 0x7030 4 St.ok)

/-- Region digests, exports and exception entries. A region digest and an export of journal entries are stepped
operations, started when the range lies inside the region, is retained, or is mirrored here, and refused otherwise
with the status of the rule. At a span boundary the exception counts that have changed are journalled in an entry of
KIND 10, at most once in 1,024 spans. -/
def Obligations.Journal : Prop :=
  (∀ (s : State) (r : Route) (v : Bytes) (e : Ent), s.passes r 0xB130 4 v = true → s.stepRuns 0xB130 4 = false →
    s.tokenFree r 0xB130 = true → s.homeEntry .internal (s.reg 0xB130 1 % 2 ^ 21) = e → entValid e = true → entOwner e
    = s.ownEp → entDead e = false → s.reg 0xB130 2 % 256 = 0 ∧ s.reg 0xB130 3 % 256 = 0 ∧ s.reg 0xB130 3 ≠ 0 ∧ s.reg
    0xB130 2 + s.reg 0xB130 3 ≤ entLen e → ∃ t, exec (.regionDigest r v) s = .next t ∧ Started s t r 0xB130 4) ∧
  (∀ (s : State) (r : Route) (v : Bytes) (e : Ent), s.passes r 0xB130 4 v = true → s.stepRuns 0xB130 4 = false →
    s.homeEntry .internal (s.reg 0xB130 1 % 2 ^ 21) = e → entValid e = true → entOwner e = s.ownEp → entDead e = false
    → entLen e < s.reg 0xB130 2 + s.reg 0xB130 3 → ∃ t, exec (.regionDigest r v) s = .next t ∧ Served s t r 0xB130 4
    St.bounds) ∧
  (∀ (s : State) (r : Route) (v : Bytes), s.passes r 0xB100 9 v = true → s.stepRuns 0xB100 9 = false → s.tokenFree r
    0xB100 = true → s.journalOldest ≤ s.reg 0xB100 7 → s.reg 0xB100 7 + s.reg 0xB100 8 ≤ s.journal.next → s.reg 0xB100
    8 ≠ 0 → ∃ t, exec (.journalExport r v) s = .next t ∧ Started s t r 0xB100 9) ∧
  (∀ (s : State) (r : Route) (v : Bytes), s.passes r 0xB100 9 v = true → s.stepRuns 0xB100 9 = false → s.journal.next
    < s.reg 0xB100 7 + s.reg 0xB100 8 → ∃ t, exec (.journalExport r v) s = .next t ∧ Served s t r 0xB100 9
    St.valueRefused) ∧
  (∀ (s : State) (r : Route) (v : Bytes), s.passes r 0xB010 0x0B v = true → s.stepRuns 0xB010 0x0B = false →
    s.tokenFree r 0xB010 = true → s.reg 0xB100 8 ≠ 0 → (s.journal.partner.filter fun e => decide (s.reg 0xB100 7 ≤
    e.1) && decide (e.1 < s.reg 0xB100 7 + s.reg 0xB100 8)).length = s.reg 0xB100 8 → ∃ t, exec (.exportPartner r v) s
    = .next t ∧ Started s t r 0xB010 0x0B) ∧
  (∀ (s : State), s.clock.slot = 0 → s.exc.wait = 0 → s.excCounts ≠ s.exc.base → s.journal.gap = 0 → s.journalRoom =
    true → (s.journal.next + 1) % 65536 ≠ 0 → 0 < s.journalCap → ∃ t, exec (.exceptionsEntry) s = .next t ∧
    t.journal.next = s.journal.next + 1 ∧ (t.journal.entries.getLast?.map (fun e => (e.kind, e.seq, e.digest)) = some
    (10, s.journal.next, leNat s.excSince)) ∧ t.exc.base = s.excCounts ∧ t.exc.wait = 1024 ∧ t.exc.counts =
    s.exc.counts ∧ t.exc.log = s.exc.log ∧ t.ep = s.ep ∧ t.out = s.out) ∧
  (∀ (s : State), s.clock.slot ≠ 0 ∨ s.exc.wait ≠ 0 ∨ s.excCounts = s.exc.base → exec (.exceptionsEntry) s = .next
    (s))

/-- Lock-step comparison. CONTEXTS is set where both sides can compare and no named context is held. Side 0 compares
each received digest with its own of the same slot: equal ones count, a different one is counted as a divergence,
recorded, reported, and its place sought. A digest that is missing too long is a divergence of KIND 1. Side 1
answers with the CHECK words of a record and with one of its grains; from them side 0 finds the first grain that
differs, and then the rod. -/
def Obligations.LockStepCompares : Prop :=
  (∀ (s : State) (r : Route) (v : Bytes), s.passes r 0xB110 1 v = true → s.reg 0x1020 5 = 1 → s.pair.partner ≠ 0x3FFF
    → (∀ k ∈ List.range 32, bit (leNat v) k = s.mirrored k ∨ (s.ctx k).state = 0) → ∃ t, exec (.lockstep r v) s =
    .next t ∧ ((if Config.lockstepCapable s.pair.partner = true then Served (s.setReg 0xB110 1 (leNat v)) t r 0xB110 1
    St.ok else Served s t r 0xB110 1 St.featureAbsent))) ∧
  (∀ (s u : State) (m : Msg) (d : SlotDigest), m.kind = 0x61 → m.src.toNat = s.pair.partner → m.payload.length = 32 →
    s.takeMsg .internal m .none = (u, true) → u.lock.own.find? (SlotDigest.same
    { ctx := leAt m.payload 26 6, span := leAt m.payload 16 8, slot := leAt m.payload 24 2, digest := leAt m.payload 0 16 })
    = some d → d.digest = leAt m.payload 0 16 → ∃ t, exec (.slotDigests m) s = .next t ∧ t.reg 0xB110 4 = (u.reg
    0xB110 4 + 1) % 2 ^ 64 ∧ t.reg 0xB110 5 = u.reg 0xB110 5 ∧ t.reg 0xB110 6 = u.reg 0xB110 6 ∧ t.keys = s.keys ∧
    t.links = s.links) ∧
  (∀ (s u : State) (m : Msg) (d : SlotDigest), m.kind = 0x61 → m.src.toNat = s.pair.partner → m.payload.length = 32 →
    s.takeMsg .internal m .none = (u, true) → u.lock.own.find? (SlotDigest.same
    { ctx := leAt m.payload 26 6, span := leAt m.payload 16 8, slot := leAt m.payload 24 2, digest := leAt m.payload 0 16 })
    = some d → d.digest ≠ leAt m.payload 0 16 → u.reg 0xB110 5 = 0 → ∃ t, exec (.slotDigests m) s = .next t ∧ t.reg
    0xB110 4 = (u.reg 0xB110 4 + 1) % 2 ^ 64 ∧ t.reg 0xB110 5 = 1 ∧ t.reg 0xB110 6 = put 0 18 17 + put 0xFFFF 34 19 +
    put 0x1FFF 47 35 + put d.ctx 52 48 + put d.slot 63 53 + put d.span 127 64 ∧ Reported t 0x15 5 d.ctx ∧ t.keys =
    s.keys) ∧
  (∀ (s : State) (d : SlotDigest), s.isSide0 = true → s.lock.own = [d] → d.span + s.reg 0xB110 8 ≤ s.clock.span →
    s.reg 0xB110 5 = 0 → ∃ t, exec (.digestWaitExpiry) s = .next t ∧ t.lock.own = [] ∧ t.reg 0xB110 5 = 1 ∧ t.reg
    0xB110 4 = s.reg 0xB110 4 ∧ t.reg 0xB110 6 = put 1 18 17 + put 0xFFFF 34 19 + put 0x1FFF 47 35 + put d.ctx 52 48 +
    put d.slot 63 53 + put d.span 127 64 ∧ Reported t 0x15 5 d.ctx ∧ t.keys = s.keys) ∧
  (∀ (s : State), (∀ d ∈ s.lock.own, s.clock.span < d.span + s.reg 0xB110 8) → ∃ t, exec (.digestWaitExpiry) s = .next
    t ∧ t.lock.own = s.lock.own ∧ t.regs = s.regs ∧ t.faults = s.faults ∧ t.board = s.board) ∧
  (∀ (s u : State) (m : Msg) (d : SlotDigest), m.kind = 0x62 → s.takeMsg .internal m .reading = (u, true) →
    u.keptRecord m.payload = some d → (d.checks.flatMap (natLe 4)).length ≤ 256 → d.checks ≠ [] → ∃ t, exec
    (.checkWordsRequest m) s = .next t ∧ Sent u t .internal
    { mkMgmt 1 m.part.toNat (u.epId .internal) m.src.toNat 1 0x63 0 true (d.checks.flatMap (natLe 4)) with tag := m.tag }
    ∧ t.lock = s.lock ∧ t.regs = s.regs) ∧
  (∀ (s u : State) (m : Msg) (d : SlotDigest), m.kind = 0x64 → s.takeMsg .internal m .reading = (u, true) →
    u.keptRecord m.payload = some d → leAt m.payload 11 2 < d.payloads.length → ∃ t, exec (.grainFetchRequest m) s =
    .next t ∧ Sent u t .internal
    { mkMgmt 1 m.part.toNat (u.epId .internal) m.src.toNat 1 0x65 0 true (natLe 256 (d.payloads.getD (leAt m.payload 11 2) 0).toNat) with tag := m.tag }
    ∧ t.lock = s.lock ∧ t.regs = s.regs) ∧
  (∀ (s u : State) (m : Msg) (no : Nat) (d : SlotDigest) (q : Nat), s.takeAnswer .internal m = (u, some no) →
    u.lock.seeking = some d → (List.range d.checks.length).find? (fun q => d.checks.getD q 0 != leAt m.payload (4 * q)
    4) = some q → m.payload.length = 4 * d.checks.length → u.ep.ended = [(no, 0)] → u.keys.now = none → ∃ t, exec
    (.checkWordsAnswer m) s = .next t ∧ t.lock.grainAt = q ∧ t.lock.seeking = some d ∧ .message u.pair.partner 1 0x64
    (natLe 1 d.ctx ++ natLe 8 d.span ++ natLe 2 d.slot ++ natLe 2 q) ∈ t.out ∧ t.reg 0xB110 6 = u.reg 0xB110 6) ∧
  (∀ (s u : State) (m : Msg) (no : Nat) (d : SlotDigest), s.takeAnswer .internal m = (u, some no) → u.lock.seeking =
    some d → u.lock.grainAt < d.payloads.length → u.lock.grainAt < 65536 → u.ep.ended = [(no, 0)] → u.keys.now = none
    → ∃ t, exec (.grainFetchAnswer m) s = .next t ∧ t.lock.seeking = none ∧ fld (t.reg 0xB110 6) 34 19 =
    u.lock.grainAt ∧ fld (t.reg 0xB110 6) 47 35 = rodOf d.quarters (d.firstDiff u.lock.grainAt m.payload) ∧ t.reg
    0xB110 5 = u.reg 0xB110 5)

/-- What the partner of a pair sends. A pair-state grain of the partner with the expected TAG is acknowledged and
applied: the first heartbeat on the pair link joins two fresh members, one that finds a survivor begins the
resynchronisation, and each heartbeat is noted on its path; a KEY record sets its entry in the own tile; a ROSTER is
gathered and loaded when it is whole; a SPAN_TABLE is held unused; JOURNAL entries are held; OWNER_DEAD marks every
valid entry of the owner; PARTITION opens or closes a partition. When everything sent has been acknowledged the
resynchronisation ends. -/
def Obligations.PairStreams : Prop :=
  (∀ (s u : State) (m : Msg), m.kind = 0x60 → m.src.toNat = s.pair.partner → s.takeMsg .internal m .none = (u, true) →
    exec (.heartbeat (.message m)) s = .next ({ u with pair := { u.pair with beatVc6 := u.clock.span } })) ∧
  (∀ (s : State) (g : Grain), s.takesPair 0 g → s.reg 0xB010 2 ≠ 0xFF → s.pair.state = 0 → leAt (pairData g) 24 1 ≤ 1
    → ∃ t, exec (.heartbeat (.grain g)) s = .next t ∧ t.pair.state = 1 ∧ t.pair.beatLink = s.clock.span ∧
    t.pair.beatVc6 = s.clock.span ∧ Sent s t .internal (completion s.ownEp g) ∧ t.keys = s.keys ∧ t.regs = s.regs ∧
    t.board = s.board) ∧
  (∀ (s : State) (g : Grain), s.takesPair 0 g → s.reg 0xB010 2 ≠ 0xFF → s.pair.state = 1 → leAt (pairData g) 24 1 = 1
    ∨ leAt (pairData g) 24 1 = 2 → ∃ t, exec (.heartbeat (.grain g)) s = .next t ∧ t.pair =
    { s.pair with beatLink := s.clock.span } ∧ Sent s t .internal (completion s.ownEp g) ∧ t.keys = s.keys ∧ t.regs =
    s.regs ∧ t.board = s.board) ∧
  (∀ (s : State) (g : Grain), s.takesPair 0 g → s.reg 0xB010 2 ≠ 0xFF → s.pair.state = 0 → leAt (pairData g) 24 1 = 3
    → ∃ t, exec (.heartbeat (.grain g)) s = .next t ∧ t.pair.state = 4 ∧ t.pair.beatLink = s.clock.span ∧ t.keys.table
    = [] ∧ t.board = s.board) ∧
  (∀ (s : State) (g : Grain) (k : Nat), s.takesPair 1 g → (((Machine.pieces 32 8 (pairData g)).map leNat).filter (· !=
    0)) = [k] → entValid (recEntry k) = true → ∃ t, exec (.key g) s = .next t ∧ t.keys =
    { s.keys with table := tset s.keys.table (recHandle k) (recEntry k) } ∧ Sent s t .internal (completion s.ownEp g)
    ∧ t.regs = s.regs ∧ t.board = s.board ∧ t.pair = s.pair) ∧
  (∀ (s : State) (g : Grain), s.takesPair 2 g → g.chunk = 0 → 192 < leAt (pairData g) 2 4 → ∃ t, exec (.roster g) s =
    .next t ∧ t.pair.rosterBytes = pairData g ∧ Sent s t .internal (completion s.ownEp g) ∧ t.board = s.board ∧ t.keys
    = s.keys ∧ t.regs = s.regs) ∧
  (∀ (s : State) (g : Grain), s.takesPair 2 g → g.chunk = 0 → leAt (pairData g) 2 4 ≤ 192 → ∃ t, exec (.roster g) s =
    .next t ∧ t.pair.rosterBytes = [] ∧ ((if rosterOk (((pairData g).drop 64).take (leAt (pairData g) 2 4)) ∧
    s.rosterInUse (leAt (pairData g) 0 2) = false then tget t.board.rosters (leAt (pairData g) 0 2) {} = parseRoster
    (((pairData g).drop 64).take (leAt (pairData g) 2 4)) else t.board = s.board ∨ s.rosterInUse (leAt (pairData g) 0
    2) = true)) ∧ t.keys = s.keys ∧ t.board.ctxs = s.board.ctxs) ∧
  (∀ (s : State) (g : Grain), s.takesPair 3 g → g.chunk = 0 → leAt (pairData g) 12 4 ≤ 256 → ∃ t, exec (.spanTable g)
    s = .next t ∧ t.pair.partnerTable = some (parseTable ((pairData g).take (leAt (pairData g) 12 4))).1 ∧
    t.pair.tableBytes = [] ∧ t.sched = s.sched ∧ t.keys = s.keys ∧ Sent s t .internal (completion s.ownEp g)) ∧
  (∀ (s : State) (g : Grain), s.takesPair 3 g → g.chunk = 0 → 256 < leAt (pairData g) 12 4 → ∃ t, exec (.spanTable g)
    s = .next t ∧ t.pair.tableBytes = pairData g ∧ t.pair.partnerTable = s.pair.partnerTable ∧ t.sched = s.sched ∧
    t.keys = s.keys ∧ Sent s t .internal (completion s.ownEp g)) ∧
  (∀ (s : State) (g : Grain), s.takesPair 4 g → ∃ t, exec (.journal g) s = .next t ∧ tget t.journal.partner.reverse (2
    * g.chunk) [] = (pairData g).take 128 ∧ tget t.journal.partner.reverse (2 * g.chunk + 1) [] = (pairData g).drop
    128 ∧ t.journal.entries = s.journal.entries ∧ t.journal.next = s.journal.next ∧ t.keys = s.keys ∧ t.regs = s.regs
    ∧ Sent s t .internal (completion s.ownEp g)) ∧
  (∀ (s : State) (g : Grain), s.takesPair 5 g → ∃ t, exec (.ownerDead g) s = .next t ∧ (t.keys.table.map (fun x =>
    x.1) = s.keys.table.map (fun x => x.1)) ∧ t.board = s.board ∧ t.regs = s.regs ∧ Sent s t .internal (completion
    s.ownEp g) ∧ (∀ h, t.keyEntry h = if entValid (s.keyEntry h) = true ∧ entOwner (s.keyEntry h) = leAt (pairData g)
    0 2 then entSet (s.keyEntry h) 1 true else s.keyEntry h)) ∧
  (∀ (s : State) (g : Grain), s.takesPair 6 g → leAt (pairData g) 1 1 = 1 → s.partState (leAt (pairData g) 0 1 % 64) ≠
    1 → ∃ t, exec (.partition g) s = .next t ∧ t.partState (leAt (pairData g) 0 1 % 64) = 1 ∧ thas t.keys.memKey (leAt
    (pairData g) 0 1 % 64) = true ∧ t.keys.table = s.keys.table ∧ t.fresh = s.fresh + 1 ∧ t.board = s.board) ∧
  (∀ (s : State) (g : Grain), s.takesPair 6 g → leAt (pairData g) 1 1 = 0 → s.partState (leAt (pairData g) 0 1 % 64) ≠
    0 → ∃ t, exec (.partition g) s = .next t ∧ t.partState (leAt (pairData g) 0 1 % 64) = 0 ∧ thas t.keys.memKey (leAt
    (pairData g) 0 1 % 64) = false ∧ t.keys.table = s.keys.table ∧ ((t.ep.home.seals.all fun x => x.part != leAt
    (pairData g) 0 1 % 64) = true)) ∧
  (∀ (s : State), s.pair.state = 4 → s.pairQuiet = true → exec (.resyncComplete) s = .next
    ({ s with pair := { s.pair with state := 1 } })) ∧
  (∀ (s : State), s.pair.state ≠ 4 ∨ s.pairQuiet = false → exec (.resyncComplete) s = .next (s))

/-- Losing the partner and owners. When only the pair link is silent a joined member becomes DETACHED, and when both
paths are it becomes the SURVIVOR, counts the failover with its span, ends the instances that need the partner and
takes the partner for a lost owner; each is reported. An isolated member stops admitting traffic of the tray's
end-points. An owner that neither member has reached for LOSS_HOLD spans is lost; at the next boundary the key
primary marks all its entries dead, counts and reports it. -/
def Obligations.PairLosses : Prop :=
  (∀ (s : State), s.joined = true → s.linkSilent = true → s.vc6Silent = false → ∃ t, exec (.pairLinkLost) s = .next t
    ∧ t.pair.state = 2 ∧ Reported t 0x1D 3 s.pair.partner ∧ t.board = s.board ∧ t.ports = s.ports) ∧
  (∀ (s : State), s.joined = false ∨ s.linkSilent = false ∨ s.vc6Silent = true → exec (.pairLinkLost) s = .next (s)) ∧
  (∀ (s : State), s.joined = true ∨ s.pair.state = 2 → s.linkSilent = true → s.vc6Silent = true → ∃ t, exec
    (.pairFailover) s = .next t ∧ t.pair.state = 3 ∧ s.pair.partner ∈ t.pair.lostOwners ∧ t.reg 0xB010 5 = (s.reg
    0xB010 5 + 1) % 2 ^ 32 ∧ t.reg 0xB010 6 = s.clock.span ∧ Reported t 0x1E 3 s.pair.partner) ∧
  (∀ (s : State), s.linkSilent = false ∨ s.vc6Silent = false → exec (.pairFailover) s = .next (s)) ∧
  (∀ (s : State), s.pair.state ≠ 0 → s.linkUsable (s.reg 0xB010 2) = false → s.activeOf (s.group (s.reg 0xB010 3)) =
    [] → s.linkSilent = true → ∃ t, exec (.pairIsolation) s = .next t ∧ (∀ n ∈ List.range 24, bit (t.reg (linkObj n)
    1) 1 = (bit (s.reg (linkObj n) 1) 1 && !s.isDownlink n)) ∧ t.keys = s.keys ∧ t.board = s.board ∧ t.pair = s.pair) ∧
  (∀ (s : State), s.pair.state = 0 ∨ s.linkSilent = false → exec (.pairIsolation) s = .next (s)) ∧
  (∀ (s : State) (ep : EpId) (since : Nat), s.pair.lostSince.find? (fun e => e.1 == ep.toNat) = some (ep.toNat, since)
    → since + s.reg 0xB050 1 ≤ s.clock.span → ep.toNat ∉ s.pair.lostOwners → ∃ t, exec (.ownerLossHold ep) s = .next t
    ∧ t.pair.lostOwners = s.pair.lostOwners ++ [ep.toNat] ∧ thas t.pair.lostSince ep.toNat = false ∧
    { t with pair := s.pair } = s) ∧
  (∀ (s : State) (ep : EpId), s.pair.lostSince.find? (fun e => e.1 == ep.toNat) = none → exec (.ownerLossHold ep) s =
    .next (s)) ∧
  (∀ (s : State) (ep : Nat), s.isPrimary = true → s.pair.lostOwners = [ep] → ∃ t, exec (.ownerLost) s = .next t ∧
    t.pair.lostOwners = [] ∧ t.reg 0xB050 2 = (s.reg 0xB050 2 + 1) % 2 ^ 32 ∧ t.reg 0xB050 3 = ep ∧ Reported t 0x1C 3
    ep ∧ t.board = s.board ∧ (∀ h, t.keyEntry h = if entValid (s.keyEntry h) = true ∧ entOwner (s.keyEntry h) = ep
    then entSet (s.keyEntry h) 1 true else s.keyEntry h)) ∧
  (∀ (s : State), s.isPrimary = false → exec (.ownerLost) s = .next
    ({ s with pair := { s.pair with lostOwners := [] } }))

/-- Folding and sending fault reports. A fault report of an end-point is folded as an event of its kind and subject; a
message of another kind is not. Windows that are due close into the queue. While the bucket allows, the first queued
report leaves with the next sequence number, is counted, and stands first in the log where the log is enabled. -/
def Obligations.FaultReports : Prop :=
  (∀ (s : State) (p : Port) (m : Msg), m.kind = 0x70 → m.payload.length = 64 → m.target = 2 → 1 ≤ (parseReport (leNat
    m.payload)).kind ∧ (parseReport (leNat m.payload)).kind ≤ 0x22 → (parseReport (leNat m.payload)).count ≠ 0 → ∃ t,
    exec (.faultReport p m) s = .next t ∧ Reported t (parseReport (leNat m.payload)).kind (parseReport (leNat
    m.payload)).subjType (parseReport (leNat m.payload)).subjId (parseReport (leNat m.payload)).closing ∧ t.out =
    s.out ∧ t.ep = s.ep ∧ t.keys = s.keys) ∧
  (∀ (s : State) (p : Port) (m : Msg), m.kind ≠ 0x70 ∨ m.payload.length ≠ 64 ∨ m.target ≠ 2 → exec (.faultReport p m)
    s = .next (s)) ∧
  (∀ (s : State), s.coreStop 4 = none → (∀ f ∈ s.faults.windows, s.windowDue f = true) → s.faults.queue.length +
    s.faults.windows.length ≤ 1024 → ∃ t, exec (.foldWindowClose) s = .next t ∧ t.faults =
    { s.faults with windows := [], queue := s.faults.queue ++ s.faults.windows } ∧ { t with faults := s.faults } = s) ∧
  (∀ (s : State), (∀ f ∈ s.faults.windows, s.windowDue f = false) → exec (.foldWindowClose) s = .next (s)) ∧
  (∀ (s : State) (f : FaultRep) (r : List FaultRep), s.faults.queue = f :: r → reportCost ≤ s.faults.bucket →
    s.coreStop 4 = none → ∃ t, exec (.reportSend) s = .next t ∧ t.faults.queue = r ∧ t.faults.bucket = s.faults.bucket
    - reportCost ∧ t.faults.seq = s.faults.seq + 1 ∧ t.faults.loss = false ∧ ((bit (s.reg 0xB000 2) 0 = true →
    t.faults.log.head? = some (s.maskReport { f with seq := s.faults.seq, ep := s.ownEp, loss := s.faults.loss }))) ∧
    t.reg 0xB000 8 = (s.reg 0xB000 8 + 1) % 2 ^ 64 ∧ t.keys = s.keys ∧ t.board = s.board) ∧
  (∀ (s : State), s.faults.queue = [] ∨ s.faults.bucket < reportCost → exec (.reportSend) s = .next (s))

/-- Health evaluations and periodic tests. An evaluation scores every quarter and every link in service, and gives
0xFF to a link that is not; a candidate link is fenced with reason 8 while the budget allows. Periodic tests pass
over a link that is not in service, count one that may not be tested, and ask for a margin probe of one that may. -/
def Obligations.HealthAndTests : Prop :=
  (∀ (s : State) (links : List LinkInputs) (quarters : List QuarterInputs), s.coreStop 4 = none → ∃ t, exec
    (.healthEvaluation links quarters) s = .next t ∧ (∀ q ∈ List.range 4, (tget t.health.quarters q {}).score =
    quarterScore (quarters.getD q {})) ∧ (∀ n ∈ List.range 24, (tget t.health.links n {}).score = (if s.linkAny n
    keeps then s.linkScore n (links.getD n {}) else 0xFF)) ∧ t.keys = s.keys ∧ t.board.rosters = s.board.rosters) ∧
  (∀ (s : State) (links : List LinkInputs) (quarters : List QuarterInputs) (n : Nat), s.coreStop 4 = none → n < 24 →
    s.linkAny n keeps = true → keeps (s.linkState n) = true → (∀ m ∈ List.range 24, m ≠ n → s.linkAny m keeps = false)
    → (tget s.health.links n {}).state = 1 → s.linkScore n (links.getD n {}) < s.reg 0xB030 0x21 → s.reg 0xB030 0x22 ≤
    (tget s.health.links n {}).bad + 1 → s.healthFenced < s.reg 0xB020 1 → ∃ t, exec (.healthEvaluation links
    quarters) s = .next t ∧ t.linkState n = 8 ∧ t.reg (linkObj n) 6 = 8 ∧ (tget t.health.links n {}).state = 3) ∧
  (∀ (s : State), s.reg 0xB040 1 ≠ 1 ∨ (s.coreStop 2).isSome = true → exec (.periodicTest) s = .next (s)) ∧
  (∀ (s : State), s.reg 0xB040 1 = 1 → s.coreStop 2 = none → s.linkAny s.health.nextLink keeps = false → exec
    (.periodicTest) s = .next
    ({ s with health := { s.health with nextLink := (s.health.nextLink + 1) % 24, second := false } })) ∧
  (∀ (s : State), s.reg 0xB040 1 = 1 → s.coreStop 2 = none → s.linkAny s.health.nextLink keeps = true → s.mayTest
    s.health.nextLink (if s.health.second then 1 else 3) = false → ∃ t, exec (.periodicTest) s = .next t ∧ t.reg
    0xB040 5 = (s.reg 0xB040 5 + 1) % 2 ^ 32 ∧ t.health.nextLink = (s.health.nextLink + 1) % 24 ∧ t.health.second =
    false ∧ t.ports = s.ports ∧ t.out = s.out) ∧
  (∀ (s : State), s.reg 0xB040 1 = 1 → s.coreStop 2 = none → s.health.nextLink < 24 → s.health.second = false →
    s.mayTest s.health.nextLink 3 = true → ∃ t, exec (.periodicTest) s = .next t ∧ (t.link s.health.nextLink).tests =
    (s.link s.health.nextLink).tests ++
    [{ kind := 3, mask := 0xFF, spans := s.reg 0xB040 3, start := s.clock.span + 2, periodic := true }] ∧
    t.health.second = true ∧ t.health.nextLink = s.health.nextLink ∧ t.ports = s.ports)

/-- Reading tallies, windows, tagged sets and the trace. A read of the tallies, of a tagged set or of a partition's
counts answers with the values that stand on its edge and stamps them. A window's end turns its counts into rates
with a stamp and begins the next at zero. A tagged set closes its interval where an instance of its context begins,
and takes the instance's tags with zero counts. RESTART empties the trace ring; an export of a range that is held is
a stepped operation, one of another range is refused. -/
def Obligations.TallyReads : Prop :=
  (∀ (s : State) (r : Route) (off : BitVec 14), s.readable r 0x8010 2 = true → ∃ t, exec (.tallyRead r off) s = .next
    t ∧ t.out = s.out ++ [.answer r 0x8010 2 St.ok 0 s.tallyValues] ∧ t.reg 0x8010 3 = s.stampSpan ∧ t.reg 0x8010 4 =
    s.edge off.toNat ∧ t.ep = s.ep ∧ t.board = s.board ∧ t.nv = s.nv) ∧
  (∀ (s : State), ∃ t, exec (.bandwidthWindowEnd) s = .next t ∧ t.reg 0x8030 2 = ratesOf s.tallies.winTx
    s.tallies.winLen ∧ t.reg 0x8030 3 = ratesOf s.tallies.winRx s.tallies.winLen ∧ t.reg 0x8030 4 = s.stampSpan ∧
    t.reg 0x8030 5 = s.stampOffset ∧ t.tallies = { s.tallies with winTx := [], winRx := [] } ∧ t.ep = s.ep ∧ t.out =
    s.out) ∧
  (∀ (s : State) (k : Fin 64), (s.tagSet k.val).ctx < 32 → s.clock.running = true → s.clock.slot = 0 → (s.ctx
    (s.tagSet k.val).ctx).state = 2 → dFirst (s.ctx (s.tagSet k.val).ctx).desc = s.clock.span → (s.tagSet
    k.val).switchSpan ≠ some s.clock.span → ∃ t, exec (.taggedIntervalSwitch k) s = .next t ∧ (t.tagSet k.val).closed
    = (s.tagSet k.val).record s.clock.span 0 ∧ (t.tagSet k.val).counts = [] ∧ (t.tagSet k.val).startSpan =
    s.clock.span ∧ (t.tagSet k.val).opTag = dOperator (s.ctx (s.tagSet k.val).ctx).desc ∧ (t.tagSet k.val).valid =
    true ∧ { t with tallies := s.tallies } = s ∧ (∀ j, j ≠ k.val → t.tagSet j = s.tagSet j)) ∧
  (∀ (s : State) (k : Fin 64), s.clock.slot ≠ 0 ∨ (s.ctx (s.tagSet k.val).ctx).state ≠ 2 ∨ dFirst (s.ctx (s.tagSet
    k.val).ctx).desc ≠ s.clock.span → exec (.taggedIntervalSwitch k) s = .next (s)) ∧
  (∀ (s : State) (r : Route) (k : Fin 64) (off : BitVec 14), s.readable r (0x8040 + k.val) 2 = true → ∃ t, exec
    (.taggedSetRead r k off) s = .next t ∧ Served s t r (0x8040 + k.val) 2 St.ok (natLe 160 (s.currentRecord k.val
    off.toNat))) ∧
  (∀ (s : State) (r : Route) (p : Part), s.readable r (0x8100 + p.val) 1 = true → ∃ t, exec (.partitionCountsRead r p)
    s = .next t ∧ (Served (s.setReg (0x8100 + p.val) 2 s.stampSpan) t r (0x8100 + p.val) 1 St.ok ((List.range
    16).flatMap fun c => natLe 8 (tget s.tallies.parts (16 * p.val + c) 0)))) ∧
  (∀ (s : State) (r : Route) (v : Bytes), s.passes r 0x8300 8 v = true → ∃ t, exec (.traceRestart r v) s = .next t ∧
    t.tallies.oldest = s.tallies.written ∧ s.tallies.written ≤ t.tallies.written ∧ ((s.reg 0x8300 1 = 0 →
    t.tallies.trace = [])) ∧ t.out = s.out ++ [.answer r 0x8300 8 St.ok 0 []] ∧ t.regs = s.regs ∧ t.ep = s.ep) ∧
  (∀ (s : State) (r : Route) (v : Bytes), s.passes r 0x8300 0x0C v = true → s.stepRuns 0x8300 0x0C = false →
    s.tokenFree r 0x8300 = true → s.tallies.oldest ≤ s.reg 0x8300 0x0A → s.reg 0x8300 0x0A + s.reg 0x8300 0x0B ≤
    s.tallies.written → s.reg 0x8300 0x0B ≠ 0 → ∃ t, exec (.traceExport r v) s = .next t ∧ Started (s.setReg 0x8300
    0x0F 0xFFFFFFFFFFFFFFFF) t r 0x8300 0x0C) ∧
  (∀ (s : State) (r : Route) (v : Bytes), s.passes r 0x8300 0x0C v = true → s.stepRuns 0x8300 0x0C = false →
    s.tallies.written < s.reg 0x8300 0x0A + s.reg 0x8300 0x0B → ∃ t, exec (.traceExport r v) s = .next t ∧ Served s t
    r 0x8300 0x0C St.valueRefused)

/-- Steps of operations, and the test access port. The last step of RESTORE restores the default of a persistent
setting whose object may still be written; that of an attestation request leaves the report, its signature and its
number; that of a journal export has copied the entries and their chain value to the host; each sets RESULT and ends
the operation. A step of no running operation changes nothing. The test access port's controller moves by TMS at
each rising edge of TCK, shifts IDCODE out at falling edges, and is reset by TRST_N. -/
def Obligations.SteppedOperationsAndTestPort : Prop :=
  (∀ (s : State) (e : StepEv), (s.steps.filter fun o => o.idx == 0x2000 && o.sub == 4).length = 1 → s.coreStop
    (ownerCore 0x2000) = none → s.wearOf 0x2010 < 1000000 → s.clock.running = true → s.boot.startDue = none → ∃ t,
    exec (.steppedOperationStep .internal 0x2000 4 e true) s = .next t ∧ t.reg 0x2010 1 = regDefault s.boot.variant
    0x2010 1 ∧ t.reg 0x2000 5 = St.ok ∧ t.stepRuns 0x2000 4 = false ∧ t.ep = s.ep ∧ t.board = s.board) ∧
  (∀ (s : State) (o : StepOp) (e : StepEv), s.steps = [o] → o.idx = 0x9020 ∧ o.sub = 1 → s.coreStop (ownerCore 0x9020)
    = none → s.clock.running = true → s.boot.startDue = none → ∃ t, exec (.steppedOperationStep .internal 0x9020 1 e
    true) s = .next t ∧ t.reg 0x9020 3 = s.report 1 (s.sec.reports + 1) (leAt o.data 0 32) (leAt o.data 32 64) ∧ t.reg
    0x9020 2 = St.ok ∧ t.reg 0x9020 6 = s.sec.reports + 1 ∧ t.sec.reports = s.sec.reports + 1 ∧ t.steps = [] ∧ t.ep =
    s.ep ∧ t.board = s.board) ∧
  (∀ (s : State) (o : StepOp) (x : JEntry) (ev : StepEv), s.steps = [o] → o.idx = 0xB100 ∧ o.sub = 9 → o.value = 1 ∧
    o.pos = 0 → s.coreStop (ownerCore 0xB100) = none → s.journal.entries.find? (fun e => e.seq == o.place) = some x →
    s.ep.home.bad = [] → ev.ev.corrected = [] ∧ ev.ev.bad = [] → s.clock.running = true → s.boot.startDue = none → ∃
    t, exec (.steppedOperationStep .internal 0xB100 9 ev true) s = .next t ∧ .hostWrite 0 o.addr x.bytes ∈ t.out ∧
    .hostWrite 0 (o.addr + 128) (natLe 64 x.chain) ∈ t.out ∧ t.steps = [] ∧ t.journal = s.journal) ∧
  (∀ (s : State) (idx : BitVec 16) (sub : BitVec 8) (e : StepEv) (last : Bool), s.stepRuns idx.toNat sub.toNat = false
    → exec (.steppedOperationStep .internal idx sub e last) s = .next (s)) ∧
  (∀ (s : State), s.boot.phase ≠ .off → s.boot.tap.trstN = true → s.boot.tap.tck = false → ∃ t, exec (.testAccessPort
    0 true) s = .next t ∧ t.boot.tap.ctl = tapNext s.boot.tap.ctl s.boot.tap.tms ∧ t.boot.tap.tck = true ∧
    ((s.boot.tap.ctl = 6 ∧ s.boot.tap.instr = 0 → t.boot.tap.shift = idcode)) ∧ ((s.boot.tap.ctl = 2 ∧
    s.boot.tap.instr = 0 → t.boot.tap.shift = s.boot.tap.shift / 2 + b2n s.boot.tap.tdi * 2 ^ 31)) ∧
    { t with boot := s.boot } = s) ∧
  (∀ (s : State), s.boot.phase ≠ .off → s.boot.tap.trstN = true → s.boot.tap.tck = true → s.boot.tap.ctl = 2 →
    s.boot.tap.instr = 0 → ∃ t, exec (.testAccessPort 0 false) s = .next t ∧ t.out = s.out ++ [.pin "TDO"
    (s.boot.tap.shift % 2 == 1)] ∧ t.boot.tap = { s.boot.tap with tck := false, tdo := s.boot.tap.shift % 2 == 1 }) ∧
  (∀ (s : State), s.boot.phase ≠ .off → ∃ t, exec (.testAccessPort 3 false) s = .next t ∧ t.boot.tap.ctl = 15 ∧
    t.boot.tap.instr = 0 ∧ { t with boot := s.boot } = s)

/-- A step runs the command at the front. A step of a state with a command at the front of its queue is that command's
effect on the state with the rest of the queue; a step of a state with an empty queue leaves it as it is (logs 1 and
2). -/
def Obligations.StepRunsTheFrontCommand : Prop :=
  (∀ (c : Instr) (rest : List Instr) (s : State), step { s with pending := c :: rest } = exec c { s with pending := rest }) ∧
  (∀ s : State, s.pending = [] → step s = .next s)


/-- What reset leaves. After reset the block is unpowered and unaligned, nothing waits or has been sent, every
dictionary cell reads its default, no key, no roster, no context, no table, no copy and no memory octet is held, and
both memories are in canonical form (logs 3, 4, 8 and 9). -/
def Obligations.ResetState : Prop :=
  State.reset.pending = [] ∧ State.reset.out = [] ∧ State.reset.boot.phase = .off ∧ State.reset.clock.running = false ∧
  State.reset.clock.align = 0 ∧ State.reset.sched.active = none ∧ State.reset.keys.table = [] ∧
  State.reset.board.ctxs = [] ∧ State.reset.board.rosters = [] ∧ State.reset.ep.send = [] ∧ State.reset.steps = [] ∧
  State.reset.ep.home.mem = [] ∧ State.reset.faette.home.mem = [] ∧ State.reset.host.up = false ∧
  State.reset.mgmt.port = 0 ∧ State.reset.pair.state = 0 ∧
  (∀ n, State.reset.linkState n = 0) ∧ (∀ k, State.reset.tallyOf k = 0) ∧
  (∀ idx sub, State.reset.reg idx sub = regDefault State.reset.boot.variant idx sub)


/-- Reset is sound. The state after reset is sound: both memories are in canonical form, the internal home keeps its
table in its own store, and the test access port is in a state of its controller. -/
def Obligations.ResetIsSound : Prop :=
  State.reset.sound


/-- Every step keeps the state sound. From every sound state, a step that answers a next state leaves a sound state:
the octets of both memories stay listed once each in rising order, the internal home table stays out of its memory,
and the test access port's controller stays in one of its sixteen states, whatever the command. -/
def Obligations.EveryStepKeepsSoundness : Prop :=
  ∀ s t : State, s.sound → step s = .next t → t.sound


/-- Every step takes one command. Whatever the command, a step that answers a next state has taken exactly the command
at the front: the rest of the queue waits in its order, and no command puts another into it (log 1). -/
def Obligations.EveryStepTakesOneCommand : Prop :=
  ∀ s t : State, step s = .next t → t.pending = s.pending.tail


/-- A load while a span table loads or waits. While LOAD_STATE is 1, 2 or 3, a write to 4010:01, by its own row or as
a write of the dictionary, is refused with LOAD_BUSY and changes nothing; and no write to 4010:01 replaces a pending
table. -/
def Obligations.LoadOfASpanTableIsRefused : Prop :=
  (∀ (s : State) (r : Route) (v : Bytes), s.passes r 0x4010 1 v = true →
    s.reg 0x4010 4 = 1 ∨ s.reg 0x4010 4 = 2 ∨ s.reg 0x4010 4 = 3 →
    ∃ t, exec (.spanTableLoad r v) s = .next t ∧ Served s t r 0x4010 1 St.loadBusy) ∧
  (∀ (s : State) (r : Route) (v : Bytes), s.passes r 0x4010 1 v = true →
    s.reg 0x4010 4 = 1 ∨ s.reg 0x4010 4 = 2 ∨ s.reg 0x4010 4 = 3 → s.clock.running = true → s.boot.startDue = none →
    ∃ t, exec (.dictionaryWrite r 0x4010 1 v) s = .next t ∧ Served s t r 0x4010 1 St.loadBusy) ∧
  (∀ (s t : State) (r : Route) (v : Bytes), exec (.spanTableLoad r v) s = .next t → t.sched.pending = s.sched.pending)


/-- Lock-step needs both switches. A write to CONTEXTS B110:01 that passes the checks is refused with FEATURE_ABSENT
unless this device's 1020:05 is 1 and the partner reports lock-step; and where either does not do so, no write to
it, by its own row or as a write of the dictionary, changes CONTEXTS. -/
def Obligations.LockStepNeedsBothSwitches : Prop :=
  (∀ (s : State) (r : Route) (v : Bytes), s.passes r 0xB110 1 v = true →
    s.reg 0x1020 5 ≠ 1 ∨ s.pair.partner = 0x3FFF ∨ Config.lockstepCapable s.pair.partner = false →
    ∃ t, exec (.lockstep r v) s = .next t ∧ Served s t r 0xB110 1 St.featureAbsent) ∧
  (∀ (s t : State) (r : Route) (v : Bytes),
    s.reg 0x1020 5 ≠ 1 ∨ s.pair.partner = 0x3FFF ∨ Config.lockstepCapable s.pair.partner = false →
    exec (.lockstep r v) s = .next t → t.reg 0xB110 1 = s.reg 0xB110 1) ∧
  (∀ (s t : State) (r : Route) (v : Bytes), s.clock.running = true → s.boot.startDue = none →
    s.reg 0x1020 5 ≠ 1 ∨ s.pair.partner = 0x3FFF ∨ Config.lockstepCapable s.pair.partner = false →
    exec (.dictionaryWrite r 0xB110 1 v) s = .next t → t.reg 0xB110 1 = s.reg 0xB110 1)


/-- Stores on uncorrectable chunks. A STORE that is accepted writes every chunk it addresses, whether or not any of
them was uncorrectable. A STORE_MASKED merges its enabled octets with the earlier contents, and where a chunk it
addresses is uncorrectable it fails with DATA_LOST and every octet of the memory reads as before. -/
def Obligations.StoresOnUncorrectableChunks : Prop :=
  (∀ (s : State) (a : Arrival) (g : Grain) (ev : MemEv), g.vc = 0 ∨ g.vc = 3 → g.op = 2 → s.takes a.ep g → s.homeCheck
    a.ep g = none → isCombinedStore g = false → s.mirrors a.ep g.handle = false → (s.home a.ep).offTable (s.homeAddr
    a.ep g) (64 * (g.chunks + 1)) = true → ev.twin = none → ∃ t, exec (.store a g ev) s = .next t ∧ (∀ i < g.chunks +
    1, (t.home a.ep).read (s.homeAddr a.ep g + 64 * i) 64 = g.chunkBytes i)) ∧
  (∀ (s : State) (a : Arrival) (g : Grain), g.vc = 0 ∨ g.vc = 3 → g.op = 3 → g.chunks ≤ 2 → s.takes a.ep g →
    s.homeCheck a.ep g = none → s.mirrors a.ep g.handle = false → (s.home a.ep).offTable (s.homeAddr a.ep g) (64 *
    (g.chunks + 1)) = true → s.lostChunks a.ep (s.homeAddr a.ep g) (g.chunks + 1) = false → ∃ t, exec (.storeMasked a
    g {}) s = .next t ∧ (∀ i < g.chunks + 1, ∀ j ∈ List.range 64, (t.home a.ep).byte (s.homeAddr a.ep g + 64 * i + j)
    = if g.enabled i j then (g.chunkBytes i).getD j 0 else (s.home a.ep).byte (s.homeAddr a.ep g + 64 * i + j))) ∧
  (∀ (s : State) (a : Arrival) (g : Grain), g.vc = 0 ∨ g.vc = 3 → g.op = 3 → g.chunks ≤ 2 → s.takes a.ep g →
    s.homeCheck a.ep g = none → s.mirrors a.ep g.handle = false → (s.home a.ep).offTable (s.homeAddr a.ep g) (64 *
    (g.chunks + 1)) = true → s.lostChunks a.ep (s.homeAddr a.ep g) (g.chunks + 1) = true → ∃ t, exec (.storeMasked a g
    {}) s = .next t ∧ Sent (s.took a g.vc.toNat) t a.ep (mkResp g (s.epId a.ep) 2 St.dataLost false false 0 0) ∧
    (t.home a.ep).mem = (s.home a.ep).mem ∧ (∀ n, (t.home a.ep).byte n = (s.home a.ep).byte n))

/-- Wear of persistent objects. Every object with a persistent sub-index has, as its highest defined sub-index, a U32
read-only WEAR, and WEAR shows the highest write count of any block of the object. -/
def Obligations.WearOfPersistentObjects : Prop :=
  ∀ (idx sub : Nat) (o : Obj), findObj idx sub = some o → o.acc = 2 →
    ∃ (w : Nat) (x : Obj), findObj idx w = some x ∧ x.typ = 0x03 ∧ x.acc = 0 ∧ (∀ k, w < k → findObj idx k = none) ∧
      ∀ s : State,
        (∀ i b, b < 64 → tget s.wear (wearKey idx i b) 0 ≤ s.value idx w ∨ 256 ≤ i) ∧
        (s.value idx w = 0 ∨ ∃ e ∈ s.wear, e.1 / 16384 = idx ∧ e.2 = s.value idx w)


/-- The two modes of the trace ring. Where its class is traced, a record takes the next number. In MODE 0 it goes into
the ring, in place of the oldest where the ring is full. In MODE 1 a record that finds the ring full is dropped,
counted in LOST, and leaves the ring as it is. A write of 1 to RESTART leaves no earlier record and goes on with the
numbers. WRITTEN is the number of the next record and OLDEST that of the oldest held. -/
def Obligations.TraceRingModes : Prop :=
  (∀ (s : State) (span offset cls kind port : Nat) (part : Option Nat) (subject data : Nat), s.confidential = false →
    bit (s.reg 0x8300 1) cls = true → 0 < s.traceCap →
    s.tallies.written - s.tallies.oldest < s.traceCap ∨ s.reg 0x8300 4 = 0 →
    ∃ t, t = s.traceAt span offset cls kind port part subject data ∧
      t.tallies.written = s.tallies.written + 1 ∧ t.tallies.trace.getLast?.map (fun x => x.num) = some s.tallies.written ∧
      t.tallies.oldest = (if s.traceCap ≤ s.tallies.written - s.tallies.oldest then s.tallies.oldest + 1 else s.tallies.oldest) ∧
      ∀ x ∈ t.tallies.trace, t.tallies.oldest ≤ x.num ∨ x.num = s.tallies.written) ∧
  (∀ (s : State) (span offset cls kind port : Nat) (part : Option Nat) (subject data : Nat), s.confidential = false →
    bit (s.reg 0x8300 1) cls = true → 0 < s.traceCap → s.traceCap ≤ s.tallies.written - s.tallies.oldest →
    s.reg 0x8300 4 = 1 →
    ∃ t, t = s.traceAt span offset cls kind port part subject data ∧ t.tallies.trace = s.tallies.trace ∧
      t.tallies.written = s.tallies.written ∧ t.tallies.oldest = s.tallies.oldest ∧
      t.tallies.lost = s.tallies.lost + 1 ∧ t.tallies.lossMark = true) ∧
  (∀ (s : State) (r : Route) (v : Bytes), s.passes r 0x8300 8 v = true →
    ∃ t, exec (.traceRestart r v) s = .next t ∧ t.tallies.oldest = s.tallies.written ∧
      (∀ x ∈ t.tallies.trace, s.tallies.written ≤ x.num) ∧ s.tallies.written ≤ t.tallies.written) ∧
  (∀ s : State, s.value 0x8300 5 = s.tallies.written ∧ s.value 0x8300 6 = s.tallies.oldest)


/-- Every power sample, control interval and rail step. Every sample of a powered package takes each rail's reading or
counts its absence, keeps the sum of what the rails draw and the always-on power, and that less the four named
classes as FIXED; a run is on exactly where that sum exceeds the cap in force, which is 900 W at most in an
excursion, and its beginning is counted. Every control interval of a running core P takes a written mode and
voltage, keeps the target outside the adaptive mode, gives OPEN and BOARD as ceilings what the cap leaves them after
FIXED, LINK and MEMORY, and begins its counts anew. Every VCORE step moves at most 5 mV toward the target and says
so on the AVSBus, or leaves VCORE where the setpoint holds; every VBOARD step moves 2 mV down to 600 mV or up to its
ceiling, where VBOARD follows VCORE again, and leaves it where no direction is set. -/
def Obligations.PowerStepsComplete : Prop :=
  (∀ (s : State) (x : PowerInputs), s.boot.phase ≠ .off → ∃ t, exec (.powerSample x) s = .next t ∧ t.ns = s.ns + 6144
    ∧ (t.power.samples = ((List.range 7).foldl (fun n r => n + t.railDraw r) x.vaon :: s.power.samples).take 160) ∧
    (t.power.classes = (((t.power.samples.headD 0 - ((List.range 4).map fun k => x.classes.getD k 0).foldl (· + ·) 0)
    :: (List.range 4).map fun k => x.classes.getD k 0) :: s.power.classes).take 160) ∧ (∀ r ∈ List.range 7,
    x.rails.getD r none = none → tget t.power.rails r (0, 0) = tget s.power.rails r (0, 0) ∧ tget t.power.missing r 0
    = tget s.power.missing r 0 + 1) ∧ (∀ r ∈ List.range 7, x.rails.getD r none ≠ none → some (tget t.power.rails r (0,
    0)) = x.rails.getD r none ∧ thas t.power.missing r = false) ∧ (t.power.run = decide (10000 * (if t.power.excursion
    then min (s.reg 0x7000 2) 900 else s.reg 0x7000 2) < t.power.samples.headD 0)) ∧ (t.reg 0x7000 7 = if t.power.run
    && !s.power.run then (s.reg 0x7000 7 + 1) % 2 ^ 32 else s.reg 0x7000 7) ∧ t.reg 0x7020 8 = (s.reg 0x7020 8 +
    x.failed) % 2 ^ 32 ∧ t.ep = s.ep ∧ t.ports = s.ports ∧ t.out = s.out) ∧
  (∀ (s : State) (x : PowerInputs), s.boot.phase = .off → exec (.powerSample x) s = .next
    ({ s with ns := s.ns + 6144 })) ∧
  (∀ (s : State), s.coreP = true → ∃ t, exec (.controlInterval) s = .next t ∧ t.power.overruns = 0 ∧ t.power.slackMin
    = 32 ∧ t.power.written = false ∧ (t.power.mode = if s.power.written then s.reg 0x7020 1 else s.power.mode) ∧
    (t.power.vset = if s.power.written then s.reg 0x7020 2 else s.power.vset) ∧ (t.power.mode ≠ 1 → t.power.target =
    if s.power.written then (if s.reg 0x7020 1 = 0 then s.reg 0x7020 2 else max s.power.target (s.reg 0x7020 2)) else
    s.power.target) ∧ (t.power.ceilA = if needOf s.phaseSet (fun p => p.open_) = 0 then 256 else 256 * min (needOf
    s.phaseSet (fun p => p.open_)) (10000 * s.reg 0x7000 2 - s.classPower 0 - needOf s.phaseSet (fun p => p.link) -
    needOf s.phaseSet (fun p => p.memory) - needOf s.phaseSet (fun p => p.board)) / needOf s.phaseSet (fun p =>
    p.open_)) ∧ (t.power.ceilV = if needOf s.phaseSet (fun p => p.board) ≤ 10000 * s.reg 0x7000 2 - s.classPower 0 -
    needOf s.phaseSet (fun p => p.link) - needOf s.phaseSet (fun p => p.memory) then 850 else cubeCeiling
    s.power.vcore (10000 * s.reg 0x7000 2 - s.classPower 0 - needOf s.phaseSet (fun p => p.link) - needOf s.phaseSet
    (fun p => p.memory)) (needOf s.phaseSet (fun p => p.board))) ∧ t.power.vcore = s.power.vcore ∧ t.ep = s.ep ∧
    t.ports = s.ports ∧ t.out = s.out) ∧
  (∀ (s : State), s.coreP = false → ∃ t, exec (.controlInterval) s = .next t ∧ t.power =
    { s.power with traced := s.powerData } ∧ t.regs = s.regs ∧ t.ep = s.ep ∧ t.ports = s.ports ∧ t.out = s.out) ∧
  (∀ (s : State), ∃ t, exec (.vcoreStep) s = .next t ∧ (t.power.vcore = if s.setpointHeld || !s.coreP then
    s.power.vcore else if s.power.vcore < max 600 (min 850 s.power.target) then min (max 600 (min 850 s.power.target))
    (s.power.vcore + 5) else max (max 600 (min 850 s.power.target)) (s.power.vcore - 5)) ∧ (t.out = if t.power.vcore =
    s.power.vcore then s.out else s.out ++ [.avs 0 t.power.vcore]) ∧
    { t.power with vcore := s.power.vcore, lowered := s.power.lowered } = s.power ∧
    { t with power := s.power, out := s.out } = s) ∧
  (∀ (s : State) (thermal : Bool), ∃ t, exec (.vboardStep thermal) s = .next t ∧ ((if thermal then t.power.vbT else
    t.power.vb) = if (if thermal then s.power.dirT else s.power.dirV) = 1 then max 600 (min (if thermal then
    s.power.vbT else s.power.vb) s.power.vcore - 2) else if (if thermal then s.power.dirT else s.power.dirV) = 2 ∧
    s.vbLow (if thermal then s.power.vbT else s.power.vb) = true then (if s.power.vcore ≤ min ((if thermal then
    s.power.vbT else s.power.vb) + 2) (min s.power.vcore s.power.ceilV) then 850 else min ((if thermal then
    s.power.vbT else s.power.vb) + 2) (min s.power.vcore s.power.ceilV)) else (if thermal then s.power.vbT else
    s.power.vb)) ∧ ((if thermal then t.power.vb else t.power.vbT) = (if thermal then s.power.vb else s.power.vbT)) ∧
    { t with power := s.power } = s)
end

