-- ==== Sys2Proof/Laws/State.lean ====
section
/-! SUPPORT. What the plainest updates of State do to each of its fields: one lemma per field and update, true by computation. -/

namespace Sys2Proof.Machine

variable (s : State)

@[simp] theorem State.emit_pending (e : Emit) : (s.emit e).pending = s.pending := rfl
@[simp] theorem State.emit_out (e : Emit) : (s.emit e).out = s.out ++ [e] := rfl
@[simp] theorem State.emit_fresh (e : Emit) : (s.emit e).fresh = s.fresh := rfl
@[simp] theorem State.emit_ns (e : Emit) : (s.emit e).ns = s.ns := rfl
@[simp] theorem State.emit_boot (e : Emit) : (s.emit e).boot = s.boot := rfl
@[simp] theorem State.emit_clock (e : Emit) : (s.emit e).clock = s.clock := rfl
@[simp] theorem State.emit_sched (e : Emit) : (s.emit e).sched = s.sched := rfl
@[simp] theorem State.emit_xbar (e : Emit) : (s.emit e).xbar = s.xbar := rfl
@[simp] theorem State.emit_host (e : Emit) : (s.emit e).host = s.host := rfl
@[simp] theorem State.emit_mgmt (e : Emit) : (s.emit e).mgmt = s.mgmt := rfl
@[simp] theorem State.emit_regs (e : Emit) : (s.emit e).regs = s.regs := rfl
@[simp] theorem State.emit_nv (e : Emit) : (s.emit e).nv = s.nv := rfl
@[simp] theorem State.emit_wear (e : Emit) : (s.emit e).wear = s.wear := rfl
@[simp] theorem State.emit_tokens (e : Emit) : (s.emit e).tokens = s.tokens := rfl
@[simp] theorem State.emit_steps (e : Emit) : (s.emit e).steps = s.steps := rfl
@[simp] theorem State.emit_journal (e : Emit) : (s.emit e).journal = s.journal := rfl
@[simp] theorem State.emit_exc (e : Emit) : (s.emit e).exc = s.exc := rfl
@[simp] theorem State.emit_lock (e : Emit) : (s.emit e).lock = s.lock := rfl
@[simp] theorem State.emit_faults (e : Emit) : (s.emit e).faults = s.faults := rfl
@[simp] theorem State.emit_pair (e : Emit) : (s.emit e).pair = s.pair := rfl
@[simp] theorem State.emit_health (e : Emit) : (s.emit e).health = s.health := rfl
@[simp] theorem State.emit_tallies (e : Emit) : (s.emit e).tallies = s.tallies := rfl
@[simp] theorem State.emit_board (e : Emit) : (s.emit e).board = s.board := rfl
@[simp] theorem State.emit_keys (e : Emit) : (s.emit e).keys = s.keys := rfl
@[simp] theorem State.emit_sec (e : Emit) : (s.emit e).sec = s.sec := rfl
@[simp] theorem State.emit_refresh (e : Emit) : (s.emit e).refresh = s.refresh := rfl
@[simp] theorem State.emit_power (e : Emit) : (s.emit e).power = s.power := rfl
@[simp] theorem State.emit_ports (e : Emit) : (s.emit e).ports = s.ports := rfl
@[simp] theorem State.emit_links (e : Emit) : (s.emit e).links = s.links := rfl
@[simp] theorem State.emit_ep (e : Emit) : (s.emit e).ep = s.ep := rfl
@[simp] theorem State.emit_faette (e : Emit) : (s.emit e).faette = s.faette := rfl

@[simp] theorem State.emits_pending (l : List Emit) : (s.emits l).pending = s.pending := rfl
@[simp] theorem State.emits_out (l : List Emit) : (s.emits l).out = s.out ++ l := rfl
@[simp] theorem State.emits_fresh (l : List Emit) : (s.emits l).fresh = s.fresh := rfl
@[simp] theorem State.emits_ns (l : List Emit) : (s.emits l).ns = s.ns := rfl
@[simp] theorem State.emits_boot (l : List Emit) : (s.emits l).boot = s.boot := rfl
@[simp] theorem State.emits_clock (l : List Emit) : (s.emits l).clock = s.clock := rfl
@[simp] theorem State.emits_sched (l : List Emit) : (s.emits l).sched = s.sched := rfl
@[simp] theorem State.emits_xbar (l : List Emit) : (s.emits l).xbar = s.xbar := rfl
@[simp] theorem State.emits_host (l : List Emit) : (s.emits l).host = s.host := rfl
@[simp] theorem State.emits_mgmt (l : List Emit) : (s.emits l).mgmt = s.mgmt := rfl
@[simp] theorem State.emits_regs (l : List Emit) : (s.emits l).regs = s.regs := rfl
@[simp] theorem State.emits_nv (l : List Emit) : (s.emits l).nv = s.nv := rfl
@[simp] theorem State.emits_wear (l : List Emit) : (s.emits l).wear = s.wear := rfl
@[simp] theorem State.emits_tokens (l : List Emit) : (s.emits l).tokens = s.tokens := rfl
@[simp] theorem State.emits_steps (l : List Emit) : (s.emits l).steps = s.steps := rfl
@[simp] theorem State.emits_journal (l : List Emit) : (s.emits l).journal = s.journal := rfl
@[simp] theorem State.emits_exc (l : List Emit) : (s.emits l).exc = s.exc := rfl
@[simp] theorem State.emits_lock (l : List Emit) : (s.emits l).lock = s.lock := rfl
@[simp] theorem State.emits_faults (l : List Emit) : (s.emits l).faults = s.faults := rfl
@[simp] theorem State.emits_pair (l : List Emit) : (s.emits l).pair = s.pair := rfl
@[simp] theorem State.emits_health (l : List Emit) : (s.emits l).health = s.health := rfl
@[simp] theorem State.emits_tallies (l : List Emit) : (s.emits l).tallies = s.tallies := rfl
@[simp] theorem State.emits_board (l : List Emit) : (s.emits l).board = s.board := rfl
@[simp] theorem State.emits_keys (l : List Emit) : (s.emits l).keys = s.keys := rfl
@[simp] theorem State.emits_sec (l : List Emit) : (s.emits l).sec = s.sec := rfl
@[simp] theorem State.emits_refresh (l : List Emit) : (s.emits l).refresh = s.refresh := rfl
@[simp] theorem State.emits_power (l : List Emit) : (s.emits l).power = s.power := rfl
@[simp] theorem State.emits_ports (l : List Emit) : (s.emits l).ports = s.ports := rfl
@[simp] theorem State.emits_links (l : List Emit) : (s.emits l).links = s.links := rfl
@[simp] theorem State.emits_ep (l : List Emit) : (s.emits l).ep = s.ep := rfl
@[simp] theorem State.emits_faette (l : List Emit) : (s.emits l).faette = s.faette := rfl

@[simp] theorem State.draw_pending : (s.draw).pending = s.pending := rfl
@[simp] theorem State.draw_out : (s.draw).out = s.out := rfl
@[simp] theorem State.draw_fresh : (s.draw).fresh = s.fresh + 1 := rfl
@[simp] theorem State.draw_ns : (s.draw).ns = s.ns := rfl
@[simp] theorem State.draw_boot : (s.draw).boot = s.boot := rfl
@[simp] theorem State.draw_clock : (s.draw).clock = s.clock := rfl
@[simp] theorem State.draw_sched : (s.draw).sched = s.sched := rfl
@[simp] theorem State.draw_xbar : (s.draw).xbar = s.xbar := rfl
@[simp] theorem State.draw_host : (s.draw).host = s.host := rfl
@[simp] theorem State.draw_mgmt : (s.draw).mgmt = s.mgmt := rfl
@[simp] theorem State.draw_regs : (s.draw).regs = s.regs := rfl
@[simp] theorem State.draw_nv : (s.draw).nv = s.nv := rfl
@[simp] theorem State.draw_wear : (s.draw).wear = s.wear := rfl
@[simp] theorem State.draw_tokens : (s.draw).tokens = s.tokens := rfl
@[simp] theorem State.draw_steps : (s.draw).steps = s.steps := rfl
@[simp] theorem State.draw_journal : (s.draw).journal = s.journal := rfl
@[simp] theorem State.draw_exc : (s.draw).exc = s.exc := rfl
@[simp] theorem State.draw_lock : (s.draw).lock = s.lock := rfl
@[simp] theorem State.draw_faults : (s.draw).faults = s.faults := rfl
@[simp] theorem State.draw_pair : (s.draw).pair = s.pair := rfl
@[simp] theorem State.draw_health : (s.draw).health = s.health := rfl
@[simp] theorem State.draw_tallies : (s.draw).tallies = s.tallies := rfl
@[simp] theorem State.draw_board : (s.draw).board = s.board := rfl
@[simp] theorem State.draw_keys : (s.draw).keys = s.keys := rfl
@[simp] theorem State.draw_sec : (s.draw).sec = s.sec := rfl
@[simp] theorem State.draw_refresh : (s.draw).refresh = s.refresh := rfl
@[simp] theorem State.draw_power : (s.draw).power = s.power := rfl
@[simp] theorem State.draw_ports : (s.draw).ports = s.ports := rfl
@[simp] theorem State.draw_links : (s.draw).links = s.links := rfl
@[simp] theorem State.draw_ep : (s.draw).ep = s.ep := rfl
@[simp] theorem State.draw_faette : (s.draw).faette = s.faette := rfl

@[simp] theorem State.setFn_pending (f : Nat) (x : FnState) : (s.setFn f x).pending = s.pending := rfl
@[simp] theorem State.setFn_out (f : Nat) (x : FnState) : (s.setFn f x).out = s.out := rfl
@[simp] theorem State.setFn_fresh (f : Nat) (x : FnState) : (s.setFn f x).fresh = s.fresh := rfl
@[simp] theorem State.setFn_ns (f : Nat) (x : FnState) : (s.setFn f x).ns = s.ns := rfl
@[simp] theorem State.setFn_boot (f : Nat) (x : FnState) : (s.setFn f x).boot = s.boot := rfl
@[simp] theorem State.setFn_clock (f : Nat) (x : FnState) : (s.setFn f x).clock = s.clock := rfl
@[simp] theorem State.setFn_sched (f : Nat) (x : FnState) : (s.setFn f x).sched = s.sched := rfl
@[simp] theorem State.setFn_xbar (f : Nat) (x : FnState) : (s.setFn f x).xbar = s.xbar := rfl
@[simp] theorem State.setFn_host (f : Nat) (x : FnState) : (s.setFn f x).host = { s.host with fns := tset s.host.fns f x } := rfl
@[simp] theorem State.setFn_mgmt (f : Nat) (x : FnState) : (s.setFn f x).mgmt = s.mgmt := rfl
@[simp] theorem State.setFn_regs (f : Nat) (x : FnState) : (s.setFn f x).regs = s.regs := rfl
@[simp] theorem State.setFn_nv (f : Nat) (x : FnState) : (s.setFn f x).nv = s.nv := rfl
@[simp] theorem State.setFn_wear (f : Nat) (x : FnState) : (s.setFn f x).wear = s.wear := rfl
@[simp] theorem State.setFn_tokens (f : Nat) (x : FnState) : (s.setFn f x).tokens = s.tokens := rfl
@[simp] theorem State.setFn_steps (f : Nat) (x : FnState) : (s.setFn f x).steps = s.steps := rfl
@[simp] theorem State.setFn_journal (f : Nat) (x : FnState) : (s.setFn f x).journal = s.journal := rfl
@[simp] theorem State.setFn_exc (f : Nat) (x : FnState) : (s.setFn f x).exc = s.exc := rfl
@[simp] theorem State.setFn_lock (f : Nat) (x : FnState) : (s.setFn f x).lock = s.lock := rfl
@[simp] theorem State.setFn_faults (f : Nat) (x : FnState) : (s.setFn f x).faults = s.faults := rfl
@[simp] theorem State.setFn_pair (f : Nat) (x : FnState) : (s.setFn f x).pair = s.pair := rfl
@[simp] theorem State.setFn_health (f : Nat) (x : FnState) : (s.setFn f x).health = s.health := rfl
@[simp] theorem State.setFn_tallies (f : Nat) (x : FnState) : (s.setFn f x).tallies = s.tallies := rfl
@[simp] theorem State.setFn_board (f : Nat) (x : FnState) : (s.setFn f x).board = s.board := rfl
@[simp] theorem State.setFn_keys (f : Nat) (x : FnState) : (s.setFn f x).keys = s.keys := rfl
@[simp] theorem State.setFn_sec (f : Nat) (x : FnState) : (s.setFn f x).sec = s.sec := rfl
@[simp] theorem State.setFn_refresh (f : Nat) (x : FnState) : (s.setFn f x).refresh = s.refresh := rfl
@[simp] theorem State.setFn_power (f : Nat) (x : FnState) : (s.setFn f x).power = s.power := rfl
@[simp] theorem State.setFn_ports (f : Nat) (x : FnState) : (s.setFn f x).ports = s.ports := rfl
@[simp] theorem State.setFn_links (f : Nat) (x : FnState) : (s.setFn f x).links = s.links := rfl
@[simp] theorem State.setFn_ep (f : Nat) (x : FnState) : (s.setFn f x).ep = s.ep := rfl
@[simp] theorem State.setFn_faette (f : Nat) (x : FnState) : (s.setFn f x).faette = s.faette := rfl

@[simp] theorem State.setPort_pending (p : Nat) (x : PortState) : (s.setPort p x).pending = s.pending := rfl
@[simp] theorem State.setPort_out (p : Nat) (x : PortState) : (s.setPort p x).out = s.out := rfl
@[simp] theorem State.setPort_fresh (p : Nat) (x : PortState) : (s.setPort p x).fresh = s.fresh := rfl
@[simp] theorem State.setPort_ns (p : Nat) (x : PortState) : (s.setPort p x).ns = s.ns := rfl
@[simp] theorem State.setPort_boot (p : Nat) (x : PortState) : (s.setPort p x).boot = s.boot := rfl
@[simp] theorem State.setPort_clock (p : Nat) (x : PortState) : (s.setPort p x).clock = s.clock := rfl
@[simp] theorem State.setPort_sched (p : Nat) (x : PortState) : (s.setPort p x).sched = s.sched := rfl
@[simp] theorem State.setPort_xbar (p : Nat) (x : PortState) : (s.setPort p x).xbar = s.xbar := rfl
@[simp] theorem State.setPort_host (p : Nat) (x : PortState) : (s.setPort p x).host = s.host := rfl
@[simp] theorem State.setPort_mgmt (p : Nat) (x : PortState) : (s.setPort p x).mgmt = s.mgmt := rfl
@[simp] theorem State.setPort_regs (p : Nat) (x : PortState) : (s.setPort p x).regs = s.regs := rfl
@[simp] theorem State.setPort_nv (p : Nat) (x : PortState) : (s.setPort p x).nv = s.nv := rfl
@[simp] theorem State.setPort_wear (p : Nat) (x : PortState) : (s.setPort p x).wear = s.wear := rfl
@[simp] theorem State.setPort_tokens (p : Nat) (x : PortState) : (s.setPort p x).tokens = s.tokens := rfl
@[simp] theorem State.setPort_steps (p : Nat) (x : PortState) : (s.setPort p x).steps = s.steps := rfl
@[simp] theorem State.setPort_journal (p : Nat) (x : PortState) : (s.setPort p x).journal = s.journal := rfl
@[simp] theorem State.setPort_exc (p : Nat) (x : PortState) : (s.setPort p x).exc = s.exc := rfl
@[simp] theorem State.setPort_lock (p : Nat) (x : PortState) : (s.setPort p x).lock = s.lock := rfl
@[simp] theorem State.setPort_faults (p : Nat) (x : PortState) : (s.setPort p x).faults = s.faults := rfl
@[simp] theorem State.setPort_pair (p : Nat) (x : PortState) : (s.setPort p x).pair = s.pair := rfl
@[simp] theorem State.setPort_health (p : Nat) (x : PortState) : (s.setPort p x).health = s.health := rfl
@[simp] theorem State.setPort_tallies (p : Nat) (x : PortState) : (s.setPort p x).tallies = s.tallies := rfl
@[simp] theorem State.setPort_board (p : Nat) (x : PortState) : (s.setPort p x).board = s.board := rfl
@[simp] theorem State.setPort_keys (p : Nat) (x : PortState) : (s.setPort p x).keys = s.keys := rfl
@[simp] theorem State.setPort_sec (p : Nat) (x : PortState) : (s.setPort p x).sec = s.sec := rfl
@[simp] theorem State.setPort_refresh (p : Nat) (x : PortState) : (s.setPort p x).refresh = s.refresh := rfl
@[simp] theorem State.setPort_power (p : Nat) (x : PortState) : (s.setPort p x).power = s.power := rfl
@[simp] theorem State.setPort_ports (p : Nat) (x : PortState) : (s.setPort p x).ports = tset s.ports p x := rfl
@[simp] theorem State.setPort_links (p : Nat) (x : PortState) : (s.setPort p x).links = s.links := rfl
@[simp] theorem State.setPort_ep (p : Nat) (x : PortState) : (s.setPort p x).ep = s.ep := rfl
@[simp] theorem State.setPort_faette (p : Nat) (x : PortState) : (s.setPort p x).faette = s.faette := rfl

@[simp] theorem State.setLink_pending (n : Nat) (x : LinkState) : (s.setLink n x).pending = s.pending := rfl
@[simp] theorem State.setLink_out (n : Nat) (x : LinkState) : (s.setLink n x).out = s.out := rfl
@[simp] theorem State.setLink_fresh (n : Nat) (x : LinkState) : (s.setLink n x).fresh = s.fresh := rfl
@[simp] theorem State.setLink_ns (n : Nat) (x : LinkState) : (s.setLink n x).ns = s.ns := rfl
@[simp] theorem State.setLink_boot (n : Nat) (x : LinkState) : (s.setLink n x).boot = s.boot := rfl
@[simp] theorem State.setLink_clock (n : Nat) (x : LinkState) : (s.setLink n x).clock = s.clock := rfl
@[simp] theorem State.setLink_sched (n : Nat) (x : LinkState) : (s.setLink n x).sched = s.sched := rfl
@[simp] theorem State.setLink_xbar (n : Nat) (x : LinkState) : (s.setLink n x).xbar = s.xbar := rfl
@[simp] theorem State.setLink_host (n : Nat) (x : LinkState) : (s.setLink n x).host = s.host := rfl
@[simp] theorem State.setLink_mgmt (n : Nat) (x : LinkState) : (s.setLink n x).mgmt = s.mgmt := rfl
@[simp] theorem State.setLink_regs (n : Nat) (x : LinkState) : (s.setLink n x).regs = s.regs := rfl
@[simp] theorem State.setLink_nv (n : Nat) (x : LinkState) : (s.setLink n x).nv = s.nv := rfl
@[simp] theorem State.setLink_wear (n : Nat) (x : LinkState) : (s.setLink n x).wear = s.wear := rfl
@[simp] theorem State.setLink_tokens (n : Nat) (x : LinkState) : (s.setLink n x).tokens = s.tokens := rfl
@[simp] theorem State.setLink_steps (n : Nat) (x : LinkState) : (s.setLink n x).steps = s.steps := rfl
@[simp] theorem State.setLink_journal (n : Nat) (x : LinkState) : (s.setLink n x).journal = s.journal := rfl
@[simp] theorem State.setLink_exc (n : Nat) (x : LinkState) : (s.setLink n x).exc = s.exc := rfl
@[simp] theorem State.setLink_lock (n : Nat) (x : LinkState) : (s.setLink n x).lock = s.lock := rfl
@[simp] theorem State.setLink_faults (n : Nat) (x : LinkState) : (s.setLink n x).faults = s.faults := rfl
@[simp] theorem State.setLink_pair (n : Nat) (x : LinkState) : (s.setLink n x).pair = s.pair := rfl
@[simp] theorem State.setLink_health (n : Nat) (x : LinkState) : (s.setLink n x).health = s.health := rfl
@[simp] theorem State.setLink_tallies (n : Nat) (x : LinkState) : (s.setLink n x).tallies = s.tallies := rfl
@[simp] theorem State.setLink_board (n : Nat) (x : LinkState) : (s.setLink n x).board = s.board := rfl
@[simp] theorem State.setLink_keys (n : Nat) (x : LinkState) : (s.setLink n x).keys = s.keys := rfl
@[simp] theorem State.setLink_sec (n : Nat) (x : LinkState) : (s.setLink n x).sec = s.sec := rfl
@[simp] theorem State.setLink_refresh (n : Nat) (x : LinkState) : (s.setLink n x).refresh = s.refresh := rfl
@[simp] theorem State.setLink_power (n : Nat) (x : LinkState) : (s.setLink n x).power = s.power := rfl
@[simp] theorem State.setLink_ports (n : Nat) (x : LinkState) : (s.setLink n x).ports = s.ports := rfl
@[simp] theorem State.setLink_links (n : Nat) (x : LinkState) : (s.setLink n x).links = tset s.links n x := rfl
@[simp] theorem State.setLink_ep (n : Nat) (x : LinkState) : (s.setLink n x).ep = s.ep := rfl
@[simp] theorem State.setLink_faette (n : Nat) (x : LinkState) : (s.setLink n x).faette = s.faette := rfl

@[simp] theorem State.setCtx_pending (k : Nat) (c : Context) : (s.setCtx k c).pending = s.pending := rfl
@[simp] theorem State.setCtx_out (k : Nat) (c : Context) : (s.setCtx k c).out = s.out := rfl
@[simp] theorem State.setCtx_fresh (k : Nat) (c : Context) : (s.setCtx k c).fresh = s.fresh := rfl
@[simp] theorem State.setCtx_ns (k : Nat) (c : Context) : (s.setCtx k c).ns = s.ns := rfl
@[simp] theorem State.setCtx_boot (k : Nat) (c : Context) : (s.setCtx k c).boot = s.boot := rfl
@[simp] theorem State.setCtx_clock (k : Nat) (c : Context) : (s.setCtx k c).clock = s.clock := rfl
@[simp] theorem State.setCtx_sched (k : Nat) (c : Context) : (s.setCtx k c).sched = s.sched := rfl
@[simp] theorem State.setCtx_xbar (k : Nat) (c : Context) : (s.setCtx k c).xbar = s.xbar := rfl
@[simp] theorem State.setCtx_host (k : Nat) (c : Context) : (s.setCtx k c).host = s.host := rfl
@[simp] theorem State.setCtx_mgmt (k : Nat) (c : Context) : (s.setCtx k c).mgmt = s.mgmt := rfl
@[simp] theorem State.setCtx_regs (k : Nat) (c : Context) : (s.setCtx k c).regs = s.regs := rfl
@[simp] theorem State.setCtx_nv (k : Nat) (c : Context) : (s.setCtx k c).nv = s.nv := rfl
@[simp] theorem State.setCtx_wear (k : Nat) (c : Context) : (s.setCtx k c).wear = s.wear := rfl
@[simp] theorem State.setCtx_tokens (k : Nat) (c : Context) : (s.setCtx k c).tokens = s.tokens := rfl
@[simp] theorem State.setCtx_steps (k : Nat) (c : Context) : (s.setCtx k c).steps = s.steps := rfl
@[simp] theorem State.setCtx_journal (k : Nat) (c : Context) : (s.setCtx k c).journal = s.journal := rfl
@[simp] theorem State.setCtx_exc (k : Nat) (c : Context) : (s.setCtx k c).exc = s.exc := rfl
@[simp] theorem State.setCtx_lock (k : Nat) (c : Context) : (s.setCtx k c).lock = s.lock := rfl
@[simp] theorem State.setCtx_faults (k : Nat) (c : Context) : (s.setCtx k c).faults = s.faults := rfl
@[simp] theorem State.setCtx_pair (k : Nat) (c : Context) : (s.setCtx k c).pair = s.pair := rfl
@[simp] theorem State.setCtx_health (k : Nat) (c : Context) : (s.setCtx k c).health = s.health := rfl
@[simp] theorem State.setCtx_tallies (k : Nat) (c : Context) : (s.setCtx k c).tallies = s.tallies := rfl
@[simp] theorem State.setCtx_board (k : Nat) (c : Context) : (s.setCtx k c).board = { s.board with ctxs := tset s.board.ctxs k c } := rfl
@[simp] theorem State.setCtx_keys (k : Nat) (c : Context) : (s.setCtx k c).keys = s.keys := rfl
@[simp] theorem State.setCtx_sec (k : Nat) (c : Context) : (s.setCtx k c).sec = s.sec := rfl
@[simp] theorem State.setCtx_refresh (k : Nat) (c : Context) : (s.setCtx k c).refresh = s.refresh := rfl
@[simp] theorem State.setCtx_power (k : Nat) (c : Context) : (s.setCtx k c).power = s.power := rfl
@[simp] theorem State.setCtx_ports (k : Nat) (c : Context) : (s.setCtx k c).ports = s.ports := rfl
@[simp] theorem State.setCtx_links (k : Nat) (c : Context) : (s.setCtx k c).links = s.links := rfl
@[simp] theorem State.setCtx_ep (k : Nat) (c : Context) : (s.setCtx k c).ep = s.ep := rfl
@[simp] theorem State.setCtx_faette (k : Nat) (c : Context) : (s.setCtx k c).faette = s.faette := rfl

@[simp] theorem State.modStep_pending (i j : Nat) (g : StepOp → StepOp) : (s.modStep i j g).pending = s.pending := rfl
@[simp] theorem State.modStep_out (i j : Nat) (g : StepOp → StepOp) : (s.modStep i j g).out = s.out := rfl
@[simp] theorem State.modStep_fresh (i j : Nat) (g : StepOp → StepOp) : (s.modStep i j g).fresh = s.fresh := rfl
@[simp] theorem State.modStep_ns (i j : Nat) (g : StepOp → StepOp) : (s.modStep i j g).ns = s.ns := rfl
@[simp] theorem State.modStep_boot (i j : Nat) (g : StepOp → StepOp) : (s.modStep i j g).boot = s.boot := rfl
@[simp] theorem State.modStep_clock (i j : Nat) (g : StepOp → StepOp) : (s.modStep i j g).clock = s.clock := rfl
@[simp] theorem State.modStep_sched (i j : Nat) (g : StepOp → StepOp) : (s.modStep i j g).sched = s.sched := rfl
@[simp] theorem State.modStep_xbar (i j : Nat) (g : StepOp → StepOp) : (s.modStep i j g).xbar = s.xbar := rfl
@[simp] theorem State.modStep_host (i j : Nat) (g : StepOp → StepOp) : (s.modStep i j g).host = s.host := rfl
@[simp] theorem State.modStep_mgmt (i j : Nat) (g : StepOp → StepOp) : (s.modStep i j g).mgmt = s.mgmt := rfl
@[simp] theorem State.modStep_regs (i j : Nat) (g : StepOp → StepOp) : (s.modStep i j g).regs = s.regs := rfl
@[simp] theorem State.modStep_nv (i j : Nat) (g : StepOp → StepOp) : (s.modStep i j g).nv = s.nv := rfl
@[simp] theorem State.modStep_wear (i j : Nat) (g : StepOp → StepOp) : (s.modStep i j g).wear = s.wear := rfl
@[simp] theorem State.modStep_tokens (i j : Nat) (g : StepOp → StepOp) : (s.modStep i j g).tokens = s.tokens := rfl
@[simp] theorem State.modStep_steps (i j : Nat) (g : StepOp → StepOp) : (s.modStep i j g).steps = lmodFirst s.steps (fun o => o.idx == i && o.sub == j) g := rfl
@[simp] theorem State.modStep_journal (i j : Nat) (g : StepOp → StepOp) : (s.modStep i j g).journal = s.journal := rfl
@[simp] theorem State.modStep_exc (i j : Nat) (g : StepOp → StepOp) : (s.modStep i j g).exc = s.exc := rfl
@[simp] theorem State.modStep_lock (i j : Nat) (g : StepOp → StepOp) : (s.modStep i j g).lock = s.lock := rfl
@[simp] theorem State.modStep_faults (i j : Nat) (g : StepOp → StepOp) : (s.modStep i j g).faults = s.faults := rfl
@[simp] theorem State.modStep_pair (i j : Nat) (g : StepOp → StepOp) : (s.modStep i j g).pair = s.pair := rfl
@[simp] theorem State.modStep_health (i j : Nat) (g : StepOp → StepOp) : (s.modStep i j g).health = s.health := rfl
@[simp] theorem State.modStep_tallies (i j : Nat) (g : StepOp → StepOp) : (s.modStep i j g).tallies = s.tallies := rfl
@[simp] theorem State.modStep_board (i j : Nat) (g : StepOp → StepOp) : (s.modStep i j g).board = s.board := rfl
@[simp] theorem State.modStep_keys (i j : Nat) (g : StepOp → StepOp) : (s.modStep i j g).keys = s.keys := rfl
@[simp] theorem State.modStep_sec (i j : Nat) (g : StepOp → StepOp) : (s.modStep i j g).sec = s.sec := rfl
@[simp] theorem State.modStep_refresh (i j : Nat) (g : StepOp → StepOp) : (s.modStep i j g).refresh = s.refresh := rfl
@[simp] theorem State.modStep_power (i j : Nat) (g : StepOp → StepOp) : (s.modStep i j g).power = s.power := rfl
@[simp] theorem State.modStep_ports (i j : Nat) (g : StepOp → StepOp) : (s.modStep i j g).ports = s.ports := rfl
@[simp] theorem State.modStep_links (i j : Nat) (g : StepOp → StepOp) : (s.modStep i j g).links = s.links := rfl
@[simp] theorem State.modStep_ep (i j : Nat) (g : StepOp → StepOp) : (s.modStep i j g).ep = s.ep := rfl
@[simp] theorem State.modStep_faette (i j : Nat) (g : StepOp → StepOp) : (s.modStep i j g).faette = s.faette := rfl

@[simp] theorem State.setReg_pending (i j v : Nat) : (s.setReg i j v).pending = s.pending := by unfold State.setReg; split <;> rfl
@[simp] theorem State.addReg_pending (i j w n : Nat) : (s.addReg i j w n).pending = s.pending := by simp [State.addReg]
@[simp] theorem State.setReg_out (i j v : Nat) : (s.setReg i j v).out = s.out := by unfold State.setReg; split <;> rfl
@[simp] theorem State.addReg_out (i j w n : Nat) : (s.addReg i j w n).out = s.out := by simp [State.addReg]
@[simp] theorem State.setReg_fresh (i j v : Nat) : (s.setReg i j v).fresh = s.fresh := by unfold State.setReg; split <;> rfl
@[simp] theorem State.addReg_fresh (i j w n : Nat) : (s.addReg i j w n).fresh = s.fresh := by simp [State.addReg]
@[simp] theorem State.setReg_ns (i j v : Nat) : (s.setReg i j v).ns = s.ns := by unfold State.setReg; split <;> rfl
@[simp] theorem State.addReg_ns (i j w n : Nat) : (s.addReg i j w n).ns = s.ns := by simp [State.addReg]
@[simp] theorem State.setReg_boot (i j v : Nat) : (s.setReg i j v).boot = s.boot := by unfold State.setReg; split <;> rfl
@[simp] theorem State.addReg_boot (i j w n : Nat) : (s.addReg i j w n).boot = s.boot := by simp [State.addReg]
@[simp] theorem State.setReg_clock (i j v : Nat) : (s.setReg i j v).clock = s.clock := by unfold State.setReg; split <;> rfl
@[simp] theorem State.addReg_clock (i j w n : Nat) : (s.addReg i j w n).clock = s.clock := by simp [State.addReg]
@[simp] theorem State.setReg_sched (i j v : Nat) : (s.setReg i j v).sched = s.sched := by unfold State.setReg; split <;> rfl
@[simp] theorem State.addReg_sched (i j w n : Nat) : (s.addReg i j w n).sched = s.sched := by simp [State.addReg]
@[simp] theorem State.setReg_xbar (i j v : Nat) : (s.setReg i j v).xbar = s.xbar := by unfold State.setReg; split <;> rfl
@[simp] theorem State.addReg_xbar (i j w n : Nat) : (s.addReg i j w n).xbar = s.xbar := by simp [State.addReg]
@[simp] theorem State.setReg_host (i j v : Nat) : (s.setReg i j v).host = s.host := by unfold State.setReg; split <;> rfl
@[simp] theorem State.addReg_host (i j w n : Nat) : (s.addReg i j w n).host = s.host := by simp [State.addReg]
@[simp] theorem State.setReg_mgmt (i j v : Nat) : (s.setReg i j v).mgmt = s.mgmt := by unfold State.setReg; split <;> rfl
@[simp] theorem State.addReg_mgmt (i j w n : Nat) : (s.addReg i j w n).mgmt = s.mgmt := by simp [State.addReg]
@[simp] theorem State.setReg_wear (i j v : Nat) : (s.setReg i j v).wear = s.wear := by unfold State.setReg; split <;> rfl
@[simp] theorem State.addReg_wear (i j w n : Nat) : (s.addReg i j w n).wear = s.wear := by simp [State.addReg]
@[simp] theorem State.setReg_tokens (i j v : Nat) : (s.setReg i j v).tokens = s.tokens := by unfold State.setReg; split <;> rfl
@[simp] theorem State.addReg_tokens (i j w n : Nat) : (s.addReg i j w n).tokens = s.tokens := by simp [State.addReg]
@[simp] theorem State.setReg_steps (i j v : Nat) : (s.setReg i j v).steps = s.steps := by unfold State.setReg; split <;> rfl
@[simp] theorem State.addReg_steps (i j w n : Nat) : (s.addReg i j w n).steps = s.steps := by simp [State.addReg]
@[simp] theorem State.setReg_journal (i j v : Nat) : (s.setReg i j v).journal = s.journal := by unfold State.setReg; split <;> rfl
@[simp] theorem State.addReg_journal (i j w n : Nat) : (s.addReg i j w n).journal = s.journal := by simp [State.addReg]
@[simp] theorem State.setReg_exc (i j v : Nat) : (s.setReg i j v).exc = s.exc := by unfold State.setReg; split <;> rfl
@[simp] theorem State.addReg_exc (i j w n : Nat) : (s.addReg i j w n).exc = s.exc := by simp [State.addReg]
@[simp] theorem State.setReg_lock (i j v : Nat) : (s.setReg i j v).lock = s.lock := by unfold State.setReg; split <;> rfl
@[simp] theorem State.addReg_lock (i j w n : Nat) : (s.addReg i j w n).lock = s.lock := by simp [State.addReg]
@[simp] theorem State.setReg_faults (i j v : Nat) : (s.setReg i j v).faults = s.faults := by unfold State.setReg; split <;> rfl
@[simp] theorem State.addReg_faults (i j w n : Nat) : (s.addReg i j w n).faults = s.faults := by simp [State.addReg]
@[simp] theorem State.setReg_pair (i j v : Nat) : (s.setReg i j v).pair = s.pair := by unfold State.setReg; split <;> rfl
@[simp] theorem State.addReg_pair (i j w n : Nat) : (s.addReg i j w n).pair = s.pair := by simp [State.addReg]
@[simp] theorem State.setReg_health (i j v : Nat) : (s.setReg i j v).health = s.health := by unfold State.setReg; split <;> rfl
@[simp] theorem State.addReg_health (i j w n : Nat) : (s.addReg i j w n).health = s.health := by simp [State.addReg]
@[simp] theorem State.setReg_tallies (i j v : Nat) : (s.setReg i j v).tallies = s.tallies := by unfold State.setReg; split <;> rfl
@[simp] theorem State.addReg_tallies (i j w n : Nat) : (s.addReg i j w n).tallies = s.tallies := by simp [State.addReg]
@[simp] theorem State.setReg_board (i j v : Nat) : (s.setReg i j v).board = s.board := by unfold State.setReg; split <;> rfl
@[simp] theorem State.addReg_board (i j w n : Nat) : (s.addReg i j w n).board = s.board := by simp [State.addReg]
@[simp] theorem State.setReg_keys (i j v : Nat) : (s.setReg i j v).keys = s.keys := by unfold State.setReg; split <;> rfl
@[simp] theorem State.addReg_keys (i j w n : Nat) : (s.addReg i j w n).keys = s.keys := by simp [State.addReg]
@[simp] theorem State.setReg_sec (i j v : Nat) : (s.setReg i j v).sec = s.sec := by unfold State.setReg; split <;> rfl
@[simp] theorem State.addReg_sec (i j w n : Nat) : (s.addReg i j w n).sec = s.sec := by simp [State.addReg]
@[simp] theorem State.setReg_refresh (i j v : Nat) : (s.setReg i j v).refresh = s.refresh := by unfold State.setReg; split <;> rfl
@[simp] theorem State.addReg_refresh (i j w n : Nat) : (s.addReg i j w n).refresh = s.refresh := by simp [State.addReg]
@[simp] theorem State.setReg_power (i j v : Nat) : (s.setReg i j v).power = s.power := by unfold State.setReg; split <;> rfl
@[simp] theorem State.addReg_power (i j w n : Nat) : (s.addReg i j w n).power = s.power := by simp [State.addReg]
@[simp] theorem State.setReg_ports (i j v : Nat) : (s.setReg i j v).ports = s.ports := by unfold State.setReg; split <;> rfl
@[simp] theorem State.addReg_ports (i j w n : Nat) : (s.addReg i j w n).ports = s.ports := by simp [State.addReg]
@[simp] theorem State.setReg_links (i j v : Nat) : (s.setReg i j v).links = s.links := by unfold State.setReg; split <;> rfl
@[simp] theorem State.addReg_links (i j w n : Nat) : (s.addReg i j w n).links = s.links := by simp [State.addReg]
@[simp] theorem State.setReg_ep (i j v : Nat) : (s.setReg i j v).ep = s.ep := by unfold State.setReg; split <;> rfl
@[simp] theorem State.addReg_ep (i j w n : Nat) : (s.addReg i j w n).ep = s.ep := by simp [State.addReg]
@[simp] theorem State.setReg_faette (i j v : Nat) : (s.setReg i j v).faette = s.faette := by unfold State.setReg; split <;> rfl
@[simp] theorem State.addReg_faette (i j w n : Nat) : (s.addReg i j w n).faette = s.faette := by simp [State.addReg]

@[simp] theorem State.tally_pending (k n : Nat) : (s.tally k n).pending = s.pending := by unfold State.tally; split <;> rfl
@[simp] theorem State.tally_out (k n : Nat) : (s.tally k n).out = s.out := by unfold State.tally; split <;> rfl
@[simp] theorem State.tally_fresh (k n : Nat) : (s.tally k n).fresh = s.fresh := by unfold State.tally; split <;> rfl
@[simp] theorem State.tally_ns (k n : Nat) : (s.tally k n).ns = s.ns := by unfold State.tally; split <;> rfl
@[simp] theorem State.tally_boot (k n : Nat) : (s.tally k n).boot = s.boot := by unfold State.tally; split <;> rfl
@[simp] theorem State.tally_clock (k n : Nat) : (s.tally k n).clock = s.clock := by unfold State.tally; split <;> rfl
@[simp] theorem State.tally_sched (k n : Nat) : (s.tally k n).sched = s.sched := by unfold State.tally; split <;> rfl
@[simp] theorem State.tally_xbar (k n : Nat) : (s.tally k n).xbar = s.xbar := by unfold State.tally; split <;> rfl
@[simp] theorem State.tally_host (k n : Nat) : (s.tally k n).host = s.host := by unfold State.tally; split <;> rfl
@[simp] theorem State.tally_mgmt (k n : Nat) : (s.tally k n).mgmt = s.mgmt := by unfold State.tally; split <;> rfl
@[simp] theorem State.tally_regs (k n : Nat) : (s.tally k n).regs = s.regs := by unfold State.tally; split <;> rfl
@[simp] theorem State.tally_nv (k n : Nat) : (s.tally k n).nv = s.nv := by unfold State.tally; split <;> rfl
@[simp] theorem State.tally_wear (k n : Nat) : (s.tally k n).wear = s.wear := by unfold State.tally; split <;> rfl
@[simp] theorem State.tally_tokens (k n : Nat) : (s.tally k n).tokens = s.tokens := by unfold State.tally; split <;> rfl
@[simp] theorem State.tally_steps (k n : Nat) : (s.tally k n).steps = s.steps := by unfold State.tally; split <;> rfl
@[simp] theorem State.tally_journal (k n : Nat) : (s.tally k n).journal = s.journal := by unfold State.tally; split <;> rfl
@[simp] theorem State.tally_exc (k n : Nat) : (s.tally k n).exc = s.exc := by unfold State.tally; split <;> rfl
@[simp] theorem State.tally_lock (k n : Nat) : (s.tally k n).lock = s.lock := by unfold State.tally; split <;> rfl
@[simp] theorem State.tally_faults (k n : Nat) : (s.tally k n).faults = s.faults := by unfold State.tally; split <;> rfl
@[simp] theorem State.tally_pair (k n : Nat) : (s.tally k n).pair = s.pair := by unfold State.tally; split <;> rfl
@[simp] theorem State.tally_health (k n : Nat) : (s.tally k n).health = s.health := by unfold State.tally; split <;> rfl
@[simp] theorem State.tally_board (k n : Nat) : (s.tally k n).board = s.board := by unfold State.tally; split <;> rfl
@[simp] theorem State.tally_keys (k n : Nat) : (s.tally k n).keys = s.keys := by unfold State.tally; split <;> rfl
@[simp] theorem State.tally_sec (k n : Nat) : (s.tally k n).sec = s.sec := by unfold State.tally; split <;> rfl
@[simp] theorem State.tally_refresh (k n : Nat) : (s.tally k n).refresh = s.refresh := by unfold State.tally; split <;> rfl
@[simp] theorem State.tally_power (k n : Nat) : (s.tally k n).power = s.power := by unfold State.tally; split <;> rfl
@[simp] theorem State.tally_ports (k n : Nat) : (s.tally k n).ports = s.ports := by unfold State.tally; split <;> rfl
@[simp] theorem State.tally_links (k n : Nat) : (s.tally k n).links = s.links := by unfold State.tally; split <;> rfl
@[simp] theorem State.tally_ep (k n : Nat) : (s.tally k n).ep = s.ep := by unfold State.tally; split <;> rfl
@[simp] theorem State.tally_faette (k n : Nat) : (s.tally k n).faette = s.faette := by unfold State.tally; split <;> rfl

end Sys2Proof.Machine
end

