-- ==== Sys2Proof/Laws/Ops.lean ====
section
/-! SUPPORT. What each shared operation may change: the state after it is the state before it but for the fields named. -/

namespace Sys2Proof.Machine

open Sys2Proof

variable (s : State)

/-! ### Tallies and the trace write the tallies alone -/

theorem State.tally_frame (k n : Nat) : s.tally k n = { s with tallies := (s.tally k n).tallies } := by
  unfold State.tally; split <;> rfl

theorem State.portTally_frame (p e n : Nat) : s.portTally p e n = { s with tallies := (s.portTally p e n).tallies } :=
  s.tally_frame _ _

theorem State.devTally_frame (e n : Nat) : s.devTally e n = { s with tallies := (s.devTally e n).tallies } :=
  s.tally_frame _ _

theorem State.memTally_frame (u e n : Nat) : s.memTally u e n = { s with tallies := (s.memTally u e n).tallies } :=
  s.tally_frame _ _

theorem State.partTally_frame (p c n : Nat) : s.partTally p c n = { s with tallies := (s.partTally p c n).tallies } := by
  unfold State.partTally; split
  · rfl
  · split <;> rfl

theorem State.traceAt_frame (a b c k p : Nat) (q : Option Nat) (x d : Nat) (r : Bool) :
    s.traceAt a b c k p q x d r = { s with tallies := (s.traceAt a b c k p q x d r).tallies } := by
  unfold State.traceAt
  split
  · rfl
  · dsimp only
    split
    · rfl
    · rw [State.devTally_frame]

theorem State.trace_frame (c k p : Nat) (q : Option Nat) (x d : Nat) :
    s.trace c k p q x d = { s with tallies := (s.trace c k p q x d).tallies } := s.traceAt_frame ..

theorem State.served_frame (st : Nat) : s.served st = { s with tallies := (s.served st).tallies } := by
  unfold State.served; split
  · exact s.devTally_frame ..
  · rfl

theorem State.wrote_frame (r : Route) (i j st : Nat) : s.wrote r i j st = { s with tallies := (s.wrote r i j st).tallies } := by
  unfold State.wrote
  dsimp only
  rw [State.trace_frame, State.served_frame]

/-! ### Cells of the dictionary -/

theorem State.setReg_frame (i j v : Nat) :
    s.setReg i j v = { s with regs := (s.setReg i j v).regs, nv := (s.setReg i j v).nv } := by
  unfold State.setReg; split <;> rfl

theorem State.addReg_frame (i j w n : Nat) :
    s.addReg i j w n = { s with regs := (s.addReg i j w n).regs, nv := (s.addReg i j w n).nv } := s.setReg_frame ..

/-! ### Vectors, faults, exceptions, the journal -/

theorem State.signal_frame (f v : Nat) :
    s.signal f v = { s with out := (s.signal f v).out, host := (s.signal f v).host } := by
  unfold State.signal
  (repeat' split) <;> rfl

theorem State.foldNow_frame (f : FaultRep) :
    s.foldNow f = { s with faults := (s.foldNow f).faults, regs := (s.foldNow f).regs, nv := (s.foldNow f).nv } := by
  unfold State.foldNow
  split
  · rw [State.addReg_frame]
  · split
    · rw [State.addReg_frame]
    · rfl

theorem State.foldEvent_frame (f : FaultRep) :
    s.foldEvent f = { s with
      faults := (s.foldEvent f).faults, regs := (s.foldEvent f).regs, nv := (s.foldEvent f).nv
      tallies := (s.foldEvent f).tallies } := by
  unfold State.foldEvent
  dsimp only
  rw [State.traceAt_frame, State.devTally_frame]
  split
  · rw [State.foldNow_frame]
  · split <;> rfl

theorem State.fault_frame (k t i st d v : Nat) (p : Option Nat) (c u : Bool) :
    s.fault k t i st d v p c u = { s with
      faults := (s.fault k t i st d v p c u).faults
      regs := (s.fault k t i st d v p c u).regs, nv := (s.fault k t i st d v p c u).nv
      tallies := (s.fault k t i st d v p c u).tallies } := s.foldEvent_frame _

theorem State.exception_frame (k p a sl : Nat) : s.exception k p a sl = { s with exc := (s.exception k p a sl).exc } := by
  unfold State.exception; rfl

theorem State.journalPut_frame (e : JEntry) :
    s.journalPut e = { s with journal := (s.journalPut e).journal, tallies := (s.journalPut e).tallies } := by
  unfold State.journalPut
  dsimp only
  rw [State.devTally_frame]

end Sys2Proof.Machine
end

