-- ==== Sys2Proof/Laws/Access.lean ====
section
/-! SUPPORT. A dictionary write given as a row's command: what it leaves in each of its three cases. -/

namespace Sys2Proof.Machine

open Sys2Proof

variable {s : State} {r : Route} {i j : Nat} {v : Bytes} {e : Effect}

theorem rowWrite_asleep (h : s.awake = false) : s.rowWrite r i j v e = s := by simp [State.rowWrite, h]

theorem rowWrite_passes (h : s.passes r i j v = true) :
    s.rowWrite r i j v e = ((e r v s).1.wrote r i j (e r v s).2.1).emit (.answer r i j (e r v s).2.1 (e r v s).2.2 []) := by
  simp only [State.passes, Bool.and_eq_true, beq_iff_eq] at h
  obtain ⟨⟨⟨h1, h2⟩, h3⟩, h4⟩ := h
  simp only [State.rowWrite, State.writeWith, State.writeCore, h1, h2, h3, h4]
  split <;> simp_all

theorem rowRead_readable {f : State → State × Nat × Bytes} (h : s.readable r i j = true) :
    s.rowRead r i j f = ((f s).1.served (f s).2.1).emit (.answer r i j (f s).2.1 0 (f s).2.2) := by
  simp only [State.readable, Bool.and_eq_true, beq_iff_eq] at h
  obtain ⟨⟨h1, h2⟩, h3⟩ := h
  simp [State.rowRead, State.readWith, h1, h2, h3]

/-- A served write leaves everything but the tallies and the emissions as its effect left it. -/
theorem rowWrite_frame (h : s.passes r i j v = true) :
    { s.rowWrite r i j v e with tallies := (e r v s).1.tallies, out := (e r v s).1.out } = (e r v s).1 := by
  rw [rowWrite_passes h, State.wrote_frame]
  rfl

theorem rowWrite_out (h : s.passes r i j v = true) :
    (s.rowWrite r i j v e).out = (e r v s).1.out ++ [.answer r i j (e r v s).2.1 (e r v s).2.2 []] := by
  rw [rowWrite_passes h, State.wrote_frame]
  rfl

end Sys2Proof.Machine
end

