-- ==== Sys2Proof/Laws/Checks.lean ====
section
/-! SUPPORT. Check words: a grain that has been sealed is intact (03 R94). -/

namespace Sys2Proof.Machine

open Sys2Proof

theorem crcBit_lt {c : Nat} (h : c < 2 ^ 32) : crcBit 0x82F63B78 c < 2 ^ 32 := by
  have h2 : c / 2 < 2 ^ 32 := by omega
  unfold crcBit
  split
  · exact Nat.xor_lt_two_pow h2 (by decide)
  · exact h2

theorem crcByte_lt {c : Nat} (b : Byte) (h : c < 2 ^ 32) : crcByte 0x82F63B78 c b < 2 ^ 32 := by
  have hb : c ^^^ b.toNat < 2 ^ 32 := Nat.xor_lt_two_pow h (Nat.lt_trans b.isLt (by decide))
  simp only [crcByte]
  iterate 8 apply crcBit_lt
  exact hb

/-- CRC-32C is a word of 32 bits. -/
theorem crc32c_lt (bs : Bytes) : crc32c bs < 2 ^ 32 := by
  have h : ∀ (l : Bytes) (c : Nat), c < 2 ^ 32 → l.foldl (crcByte 0x82F63B78) c < 2 ^ 32 := by
    intro l
    induction l with
    | nil => intro c hc; exact hc
    | cons b l ih => intro c hc; exact ih _ (crcByte_lt b hc)
  exact Nat.xor_lt_two_pow (h bs _ (by decide)) (by decide)

/-- The check word does not depend on the check field. -/
theorem crc_with_check (g : Grain) (c : BitVec 32) : ({ g with check := c } : Grain).crc = g.crc := by
  unfold Grain.crc Grain.isMem Grain.withColour Grain.colour Grain.f
  split <;> rfl

/-- A grain with its check word is intact. -/
theorem checkOk_with_crc (g : Grain) : ({ g with check := BitVec.ofNat 32 g.crc } : Grain).checkOk = true := by
  have h : g.crc < 2 ^ 32 := crc32c_lt _
  simp only [Grain.checkOk, crc_with_check, BitVec.toNat_ofNat, Nat.mod_eq_of_lt h, beq_self_eq_true]

/-- A sealed grain is intact (R94). -/
theorem seal_checkOk (g : Grain) (span : Nat) : (g.seal span).checkOk = true := checkOk_with_crc _

end Sys2Proof.Machine
end

