-- ==== Sys2Proof/Laws/Coding.lean ====
section
/-! SUPPORT. The 8b/10b code of lane C and its tokens read back as they were sent (R297, R298). -/

namespace Sys2Proof.Machine

open Sys2Proof

/-- Every octet of data reads back at the disparity at which it was sent. -/
theorem decodeGroup_dataGroup : ∀ (plus : Bool) (b : Byte), decodeGroup plus (dataGroup plus b) = some (.data b) := by
  decide +kernel

/-- A control symbol of the code. -/
def Symbol.listed : Symbol → Bool
  | .data _ => true
  | .control k => controlGroups.any fun x => x.1 == k

theorem decodeGroup_controlGroup (plus : Bool) : ∀ x ∈ controlGroups,
    decodeGroup plus (controlGroup plus x.1) = some (.control x.1) := by
  cases plus <;> decide +kernel

/-- Each symbol reads back. -/
theorem decodeGroup_group (plus : Bool) (x : Symbol) (h : x.listed = true) :
    decodeGroup plus (x.group plus) = some x := by
  cases x with
  | data b => exact decodeGroup_dataGroup plus b
  | control k =>
    obtain ⟨y, hy, hk⟩ := List.any_eq_true.mp h
    rw [← eq_of_beq hk]
    exact decodeGroup_controlGroup plus y hy

/-- A run of symbols reads back. -/
theorem decodeGroups_encodeSymbols (l : List Symbol) (h : ∀ x ∈ l, x.listed = true) (plus : Bool) :
    decodeGroups plus (encodeSymbols plus l) = some l := by
  induction l generalizing plus with
  | nil => rfl
  | cons x r ih =>
    simp only [encodeSymbols, decodeGroups, decodeGroup_group plus x (h x (by simp)),
      ih (fun y hy => h y (List.mem_cons_of_mem _ hy))]

/-! ### Tokens -/

theorem natLe_length (n x : Nat) : (natLe n x).length = n := by
  induction n generalizing x with
  | zero => rfl
  | succ n ih => simp [natLe, ih]

/-- n octets hold a value below 2^8n. -/
theorem leNat_natLe (n : Nat) : ∀ x, x < 256 ^ n → leNat (natLe n x) = x := by
  induction n with
  | zero => intro x h; simp [natLe, leNat]; omega
  | succ n ih =>
    intro x h
    have := ih (x / 256) (by rw [Nat.pow_succ] at h; omega)
    simp only [natLe, leNat, this, BitVec.toNat_ofNat]
    omega

theorem crc8Bit_lt {c : Nat} (h : c < 256) : crc8Bit c < 256 := by
  revert c; decide +kernel

/-- CRC-8 is an octet. -/
theorem crc8_lt (bs : Bytes) : crc8 bs < 256 := by
  have h : ∀ (l : Bytes) (c : Nat), c < 256 → l.foldl (fun c b =>
      crc8Bit (crc8Bit (crc8Bit (crc8Bit (crc8Bit (crc8Bit (crc8Bit (crc8Bit (c ^^^ b.toNat))))))))) c < 256 := by
    intro l
    induction l with
    | nil => intro c hc; exact hc
    | cons b l ih =>
      intro c hc
      refine ih _ ?_
      iterate 8 apply crc8Bit_lt
      exact Nat.xor_lt_two_pow (n := 8) hc b.isLt
  exact h bs _ (by decide)

/-- A token of Table 9.4 reads back with its fields. -/
theorem tokenFields_tokenAt (plus : Bool) (k : String) (fields : Nat) (hk : k ∈ tokenTypes.map (·.1))
    (hf : fields < 256 ^ ((tokenType k).2 - 1)) : tokenFields plus (tokenAt plus k fields) k = some fields := by
  have hn : controlGroups.any (fun x => x.1 == (tokenType k).1) = true ∧ 1 ≤ (tokenType k).2 := by
    revert hk; simp only [tokenTypes, List.map, List.mem_cons, List.not_mem_nil, or_false]
    rintro (rfl | rfl | rfl | rfl | rfl | rfl | rfl) <;> decide
  obtain ⟨hl, h1⟩ := hn
  have hlen := natLe_length ((tokenType k).2 - 1) fields
  have hc : ∀ x ∈ tokenSymbols k fields, x.listed = true := by
    intro x hx
    simp only [tokenSymbols, List.mem_cons, List.mem_map] at hx
    rcases hx with rfl | ⟨b, -, rfl⟩
    · exact hl
    · rfl
  simp only [tokenFields, tokenAt, decodeGroups_encodeSymbols _ hc]
  simp only [tokenSymbols, List.filterMap_map, Function.comp_def, List.length_map, List.filterMap_some, List.length_append,
    List.length_singleton, hlen]
  have e : (natLe ((tokenType k).2 - 1) fields ++ [BitVec.ofNat 8 (crc8 (natLe ((tokenType k).2 - 1) fields))]).take
      ((tokenType k).2 - 1) = natLe ((tokenType k).2 - 1) fields := by
    rw [List.take_append_of_le_length (by omega), List.take_of_length_le (by omega)]
  have d : (natLe ((tokenType k).2 - 1) fields ++ [BitVec.ofNat 8 (crc8 (natLe ((tokenType k).2 - 1) fields))]).drop
      ((tokenType k).2 - 1) = [BitVec.ofNat 8 (crc8 (natLe ((tokenType k).2 - 1) fields))] := by
    rw [List.drop_append_of_le_length (by omega), List.drop_of_length_le (by omega), List.nil_append]
  have c := crc8_lt (natLe ((tokenType k).2 - 1) fields)
  rw [e, if_pos, leNat_natLe _ _ hf]
  refine ⟨trivial, by omega, by omega, ?_⟩
  simp only [leAt, sliceB, d]
  simp [leNat, Nat.mod_eq_of_lt c]

end Sys2Proof.Machine
end

