-- ==== Sys2Proof/Tests/Slice0.lean ====
section
/-! SUPPORT. Tests: states and operands that meet the hypotheses of every statement, commands that are not well formed, and
worked examples of the spec. -/

open Sys2Proof Sys2Proof.Machine

namespace Sys2Proof.Tests

theorem pair_of_snd {α β : Type} {x : α × β} {b : β} (h : x.2 = b) : x = (x.1, b) := by
  cases x; cases h; rfl

/-- A device that is READY and aligned, with every port dark. -/
def up : State :=
  let s := State.reset.fillPresence {}
  { s with
    boot := { s.boot with phase := .ready, vrPgood := true, pkgRstN := true, pgoodAck := true, pd00 := true, cold := false }
    clock := { s.clock with refA := true, running := true, align := 2, marking := true } }

/-- A state in another phase of a start. -/
def at_ (p : Phase) : State := { up with boot := { up.boot with phase := p } }

/-- The device with link 0 ACTIVE, to end-point 20. -/
def linked : State := { up with
  ports := [(0, { state := 5, rx := 5 })],
  links := [(0, { light := true, laneC := true, split := some false, peerOwn := 20, peerEp := 20 })] }

/-- A grain with its check word. -/
def checked (g : Grain) : Grain := { g with check := BitVec.ofNat 32 g.crc }

/-- End-point 10200 with region 5 of partition 3, key 7, readable, writable and atomic, and source 20 next expected at TAG 9. -/
def homed : State := { (linked.setReg 0x1000 9 10200) with
  keys := { linked.keys with table := [(5, BitVec.ofNat 128 (put 7 127 96 + put 10200 95 82 + put 3 81 76 + put 0x400 75 52
    + put 1023 51 21 + put 10 10 7 + 0x71))] },
  ep := (((linked.ep.setRchan 20 0 { expected := some 9 }).setRchan 20 2 { expected := some 9 }).setRchan 20 3 { expected := some 9 }).setRchan 20 4 { expected := some 9 } }

/-- A request of end-point 20 to region 5 at a chunk, with TAG 9. -/
def req (vc op chunk chunks payload : Nat) : Grain := checked { mkMem vc op 3 20 10200 7 0 5 chunk chunks payload with tag := 9 }

/-- A request of end-point 20 to region 5 of another home. -/
def reqTo (dst vc op chunk chunks payload : Nat) : Grain := checked { mkMem vc op 3 20 dst 7 0 5 chunk chunks payload with tag := 9 }

/-- An accelerator's end-point 300 with the same region in its home table. -/
def faetteHomed : State := { up with faette := { ((((up.faette.setRchan 20 0 { expected := some 9 }).setRchan 20 2 { expected := some 9 }).setRchan 20 3 { expected := some 9 }).setRchan 20 4 { expected := some 9 }) with
  id := 300, sideUp := [0, 1], span := 100, parent := 0, align := 2,
  home := up.faette.home.setRecord 5 (BitVec.ofNat 128 (put 7 127 96 + put 300 95 82 + put 3 81 76 + put 0x400 75 52
    + put 1023 51 21 + put 10 10 7 + 0x71)) 0 } }

/-- A request of end-point 300 to end-point 20 with a TAG, and its copy, of transfer 1. -/
def asked (vc op tag : Nat) : Grain := { mkMem vc op 3 300 20 7 0 5 0 0 0 with tag := BitVec.ofNat 15 tag }
def copyOf (vc op tag : Nat) : Copy := { grain := asked vc op tag, req := 1 }

/-- An accelerator's end-point 300 with a load of end-point 20 unanswered, and more copies. -/
def asking (vc : Nat) (l : List Copy) : State := { homed with faette := { homed.faette with
  id := 300, sideUp := [0, 1], span := 100, parent := 0, align := 2,
  credInitial := (List.range 16).map fun i => (i, 64)
  send := [(chanKey 20 vc, { next := 5, needReset := false, copies := l })],
  transfers := [{ req := { id := 1, kind := 0, len := 64 }, left := 1 }] } }

/-- A response of end-point 20 to a request of end-point 300. -/
def resp (op status vc tag : Nat) (cum path : Bool) (data : Nat) : Grain :=
  checked (mkResp (asked vc 0 tag) 20 op status cum path 0 data)

/-- A descriptor: ALL_REDUCE-like REDUCE to member 0 over INT32 in context 4 of partition 3, one element, from span 5 on. -/
def descWit : BitVec 1024 := BitVec.ofNat 1024 (put 3 463 448 + put 5 255 192 + put 1 127 104 + put 1 103 64 + put 0x03 58 51
  + put 0x03 50 43 + put 2 34 23 + put 3 22 17 + put 4 16 12 + put 3 11 8 + put 1 7 0 + put 77 447 384 + put 20 331 318)

/-- The tree of one device 200 with members 20 and 21. -/
def rosterWit : Roster := { digest := 77, part := 3, devices := [(200, 0x7FF), (201, 0)], members := [{ ep := 20, leaf := 0, handle := 5, key := 7, ctxLocal := 0 }, { ep := 21, leaf := 0, handle := 5, key := 7, ctxLocal := 0 }] }

/-- Device 200, whose board runs context 4 of partition 3; its record is at board slot 0. -/
def boarded : State := { (linked.setReg 0x1000 9 200) with
  sched := { linked.sched with activateAt := 7, active := some { boards := [{ slot := 0, ctx := 4, quarters := 1, role := 1, part := 3, outMask := 1 }] } },
  board := { linked.board with ctxs := [(4, { state := 2, desc := descWit, fingerprint := 5, roster := rosterWit, windows := 1 })] } }

/-- A contribution or a carry grain of a sender to context 4. -/
def input (op sender block fp payload : Nat) : Grain := checked (mkColl op 3 20 4 sender block 0 fp payload)

/-- `boarded` with a change of its context. -/
def boardedC (f : Context → Context) : State := boarded.modCtx 4 f

/-- Descriptor of the witnesses with more fields added. -/
def descPlus (n : Nat) : BitVec 1024 := BitVec.ofNat 1024 (descWit.toNat + n)

/-- Device 200 with partition 3 open, roster 2 loaded (one device, or with device 201 below it), and nothing admitted. -/
def admitting (devices : List (Nat × Nat)) : State := { (((boarded.setReg 0x6103 1 1).setReg 0x1020 1 1).setReg 0x5010 2 2) with
  board := { rosters := [(2, { rosterWit with devices })] },
  keys := { linked.keys with table := [(5, BitVec.ofNat 128 (put 7 127 96 + put 20 95 82 + put 3 81 76 + put 0x400 75 52 + put 1023 51 21 + put 10 10 7 + 0x71))] },
  ep := boarded.ep.setRchan 20 6 { expected := some 9 } }

/-- A message of end-point 20 with TAG 9. -/
def msgOf (kind : Nat) (payload : Bytes) : Msg := { src := 20, part := 3, tag := 9, target := 1, kind := BitVec.ofNat 8 kind, payload }

/-- Device 200 after a change of context 4 and with end-point 20 expected at TAG 9. -/
def boardedM (f : Context → Context) : State := { boardedC f with ep := boarded.ep.setRchan 20 6 { expected := some 9 } }

/-- An entry of owner 20 in partition 3 with key 7 and 1,024 chunks at 2 MiB unit 0x400, and its flags. -/
def entOf (flags : Nat) : Ent := BitVec.ofNat 128 (put 7 127 96 + put 20 95 82 + put 3 81 76 + put 0x400 75 52 + put 1023 51 21 + put 10 10 7 + flags)

/-- The key primary 200 with partition 3 open and owning handles 0 to 15, and a candidate for handle 5. -/
def keyed (table : List (Nat × Ent)) : State :=
  let s := ((((((linked.setReg 0x1000 9 200).setReg 0x6103 1 1).setReg 0x6103 4 16).setReg 0x6010 1 5).setReg 0x6010 2 (entOf 0x70).toNat).setReg 0x9000 6 0)
  { s with keys := { s.keys with table } }

/-- The same with a command that has sent its HOME_UPDATE to end-point 20, awaited under number 77. -/
def keyedNow (table : List (Nat × Ent)) (j : KeyJob) : State :=
  let s := keyed table
  { s with keys := { s.keys with now := some j }, steps := [{ idx := 0x6010, sub := 4, value := j.kind }], ep := { s.ep with send := [(chanKey 20 6, { next := 10, needReset := false, copies := [{ grain := { mkMgmt 0 3 200 20 0 0x40 0 true [] with tag := 9 }, req := 77 }] })] } }

/-- Device 200 with link 3, to end-point 20, in a state; LINK_CONTROL enables it and lets grains pass. -/
def linkAt (st : Nat) (f : LinkState → LinkState := id) : State :=
  let s := (((up.setReg 0x1000 9 200).setReg 0x3003 1 3).setReg 0x3003 0xA 20).setReg 0x1020 7 0xFFFFFF
  { s with ports := [(6, { state := st, rx := st })], links := [(3, f { light := true, laneC := true, peerOwn := 20, peerEp := 20 })] }

/-- CAPS of an end-point 20 with version 1.1 and 64 credits on every channel. -/
def capsOf (own : Nat) : Bytes := natLe 48 (put 0x0101 383 368 + put 0x0100 367 352 + put 1 351 350 + put own 349 336
  + put 0x3FFF 335 322 + put 5 306 304 + put 11 303 300 + (List.range 5).foldl (fun v i => v + put 64 (291 - 16 * i) (276 - 16 * i)) 0)

/-- Device 200, where messages of its own are expected from TAG 9 on. -/
def served200 : State := { keyed [] with ep := (keyed []).ep.setRchan 200 6 { expected := some 9 } }

/-- Registers of a running ring of 16 entries, and a ring with one fetched command. -/
def ringWit : FnState := { sqBase := 0x1000, cqBase := 0x2000, sqSize := 16, cqSize := 16, enable := true, state := 1, sqHead := 2, sqTail := 5, cqHead := 1, cqTail := 15, cqUsed := 4, posts := [] }

/-- The host runs 64 virtual functions; function 4, partition 3's, has a ring, and every feature is negotiated. -/
def hosted (x : FnState) : State :=
  let s := (homed.setReg 0x1030 6 127).setReg 0x6103 1 1
  { s with host := { s.host with up := true, numVfs := 64, fns := [(4, x)], turn := 3 } }

/-- A ring command of an opcode, with its id, LENGTH, HOST_ADDR and operands. -/
def cmdOf (op id len addr operand : Nat) : BitVec 512 :=
  BitVec.ofNat 512 (put op 7 0 + put id 31 16 + put len 63 32 + put addr 127 64 + operand * 2 ^ 128)

/-- A ring that has fetched one command. -/
def ringed (b : BitVec 512) : State := hosted { ringWit with cmds := [{ bits := b }] }

/-- A host window of function 4 at region 5 of end-point 20, enabled for reads and writes. -/
def windowed : State := hosted { aps := [(0, BitVec.ofNat 512 (7 + put 3 13 8 + put 20 37 24 + put 7 69 38 + put 5 90 70))], fenceStatus := 9, eventVector := 3, unmasked := [3] }

/-- The management port is up, at IPv4 address 10.0.0.2. -/
def ported : State := { homed with mgmt := { homed.mgmt with port := 3 }, boot := { homed.boot with config := [(regKey 0x2040 1, 0x0A000002)] } }

/-- A frame to that port with data for UDP port 20470. -/
def frameOf (data : Bytes) : Frame := { toMac := Config.mac, fromMac := 5, dst := 0x0A000002, src := 0x0A000001, srcPort := 4000, dstPort := 20470, data }

/-- The octets of a dictionary message. -/
def dictOf (kind idx sub : Nat) (body : Bytes) : Bytes := ({ seq := 12, len := body.length, last := true, sub, idx, kind, body } : DictMsg).bytes

/-- Device 200 in a pair state with a partner, over link 3; the partner's next pair-state grain and message carry TAG 9. -/
def paired (st partner : Nat) : State :=
  let s := (((linkAt 5).setReg 0xB010 2 3).setReg 0x1020 5 1).setReg 0x6010 1 5
  { s with pair := { s.pair with state := st, partner, beatLink := 100, beatVc6 := 100 }, clock := { s.clock with span := 104 }, ep := (s.ep.setRchan partner 3 { expected := some 9 }).setRchan partner 6 { expected := some 9 } }

/-- A pair-state grain of a partner. -/
def pairGrain (partner stream chunk payload : Nat) : Grain := checked { mkMem 3 2 0 partner 200 0 0 stream chunk 0 payload with tag := 9 }

/-- A message of a partner with TAG 9. -/
def pairMsg (partner kind : Nat) (payload : Bytes) : Msg := { src := BitVec.ofNat 14 partner, part := 0, tag := 9, target := 1, kind := BitVec.ofNat 8 kind, payload }

/-- A slot digest of context 4. -/
def digestWit : SlotDigest := { ctx := 4, span := 90, slot := 2, digest := 77, quarters := 1, per := 64, payloads := [5, 6] }

/-- A request 77 of a kind to the partner, kept under TAG 30. -/
def asking201 (s : State) : State := { s with ep := { s.ep with send := [(chanKey 201 6, { next := 31, needReset := false, copies := [{ grain := { mkMgmt 0 0 200 201 1 0x62 0 true [] with tag := 30 }, req := 77 }] })] } }

set_option maxRecDepth 8000

theorem test_meets_PowerAndResetPins :
  (∃ (s : State), s.boot.vrPgood = false) ∧
  (∃ (s : State), s.boot.vrPgood = true) ∧
  (∃ (s : State), s.boot.pkgRstN = false ∧ s.boot.vrPgood = true) ∧
  (∃ (s : State), s.boot.pkgRstN = true) ∧
  (∃ (s : State), s.boot.pkgRstN = true ∧ s.boot.vrPgood = true) ∧
  (∃ (s : State), s.boot.pkgRstN = false) ∧
  (∃ (s : State), s.boot.vrPgood = true) ∧
  (∃ (s : State), s.boot.vrPgood = false) :=
  ⟨⟨State.reset, by decide⟩,
   ⟨up, by decide⟩,
   ⟨({ State.reset with boot := { State.reset.boot with vrPgood := true, pd00 := true, phase := .inReset } }), by decide, by decide⟩,
   ⟨up, by decide⟩,
   ⟨up, by decide, by decide⟩,
   ⟨State.reset, by decide⟩,
   ⟨up, by decide⟩,
   ⟨State.reset, by decide⟩⟩
theorem test_meets_PhasesOfAStart :
  (∃ (s : State) (found : Probe), s.boot.phase = .selfTest ∧ probeShort (probeFit found) (probeOf s.boot.variant) =
    none ∧ s.wearOf 0xA010 < 1000000 ∧ s.reg 0xA020 3 < s.reg 0x2010 1) ∧
  (∃ (s : State) (k : Fin 5) (found : Probe), s.boot.phase = .selfTest ∧ k ≠ 0) ∧
  (∃ (s : State) (img : Bytes), s.boot.phase = .loading ∧ img.length = s.reg 0xA000 3) ∧
  (∃ (s : State) (img : Bytes), s.boot.phase = .loading) ∧
  (∃ (s : State), s.boot.phase = .initialising) ∧
  (∃ (s : State) (k : Fin 6), s.boot.phase = .initialising ∧ k ≠ 0) ∧
  (∃ (s : State), (s.boot.phase = .loading ∨ s.boot.phase = .initialising)) ∧
  (∃ (s : State), s.boot.phase ≠ .loading ∧ s.boot.phase ≠ .initialising) :=
  ⟨⟨({ State.reset with boot := { State.reset.boot with phase := .selfTest } }), ({ board := 257 }), by decide, by decide, by decide, by decide⟩,
   ⟨(at_ .selfTest), 2, ({ board := 0 }), by decide, by decide⟩,
   ⟨(at_ .loading), [], by decide, by decide⟩,
   ⟨(at_ .loading), [], by decide⟩,
   ⟨(at_ .initialising), by decide⟩,
   ⟨(at_ .initialising), 5, by decide, by decide⟩,
   ⟨(at_ .loading), by decide⟩,
   ⟨up, by decide, by decide⟩⟩
theorem test_meets_StartCommands :
  (∃ (s : State) (r : Route) (v : Bytes), s.passes r 0xA000 1 v = true ∧ s.boot.phase = .waiting ∧ s.tokenFree r
    0xA000 = true) ∧
  (∃ (s : State) (r : Route) (v : Bytes), s.passes r 0xA000 5 v = true ∧ s.boot.phase ≠ .minimal) ∧
  (∃ (s : State) (r : Route) (v : Bytes), s.passes r 0xA020 4 v = true ∧ s.boot.phase = .minimal ∧ s.reg 0xA020 3 <
    s.reg 0x2010 1) ∧
  (∃ (s : State) (r : Route) (v : Bytes), s.passes r 0xA020 3 v = true ∧ bit (leNat v) 0 = true) :=
  ⟨⟨(at_ .waiting), .pf, [1], by decide, by decide, by decide⟩,
   ⟨up, .pf, [1], by decide, by decide⟩,
   ⟨(at_ .minimal), .pf, [1], by decide, by decide, by decide⟩,
   ⟨up, .pf, [1], by decide, by decide⟩⟩
theorem test_meets_CoreStops :
  (∃ (s : State) (k : Fin 6) (ok : Bool), s.boot.phase = .ready ∧ (s.core k.val).state ≠ 3) ∧
  (∃ (s : State) (k : Fin 6) (ok : Bool), s.boot.phase = .ready ∧ (s.core k.val).state ≠ 3) ∧
  (∃ (s : State) (k : Fin 6) (ok : Bool), s.boot.phase = .ready ∧ (s.core k.val).state ≠ 3) ∧
  (∃ (s : State) (k : Fin 6) (ok : Bool), s.boot.phase = .ready ∧ (s.core k.val).state ≠ 3) ∧
  (∃ (s : State) (k : Fin 6), (s.core k.val).state = 2) :=
  ⟨⟨up, 2, true, by decide, by decide⟩,
   ⟨up, 0, false, by decide, by decide⟩,
   ⟨up, 5, true, by decide, by decide⟩,
   ⟨up, 1, true, by decide, by decide⟩,
   ⟨({ up with boot := { up.boot with cores := [(2, { state := 2 })] } }), 2, by decide⟩⟩
theorem test_meets_SlotAndSpanBoundaries :
  (∃ (s : State), s.clock.running = true ∧ s.clock.slot + 1 < s.slots) ∧
  (∃ (s : State), (s.clock.running = false ∨ s.slots ≤ s.clock.slot + 1)) ∧
  (∃ (s : State), s.clock.running = true ∧ s.clock.startPending = none) ∧
  (∃ (s : State) (n : Nat), s.clock.running = true ∧ s.clock.startPending = some n) ∧
  (∃ (s : State), s.clock.running = false) ∧
  (∃ (s : State) (r : Route) (off : BitVec 14), s.readable r 0x4000 1 = true ∧ s.clock.running = true) :=
  ⟨⟨up, by decide, by decide⟩,
   ⟨State.reset, by decide⟩,
   ⟨linked, by decide, by decide⟩,
   ⟨({ linked with clock := { linked.clock with startPending := some 100, align := 0 } }), 100, by decide, by decide⟩,
   ⟨State.reset, by decide⟩,
   ⟨up, .pf, 5, by decide, by decide⟩⟩
theorem test_meets_ReferenceInputs :
  (∃ (s : State), s.clock.refA = true ∧ s.clock.refB = true) ∧
  (∃ (s : State), s.clock.refA = true ∧ s.clock.refB = true) ∧
  (∃ (s : State), s.clock.refA = false) ∧
  (∃ (s : State), s.clock.refA = true ∧ s.clock.refB = false) ∧
  (∃ (s : State), s.clock.running = false ∧ s.awake = true ∧ s.boot.thermtrip = false) ∧
  (∃ (s : State), s.clock.running = true) ∧
  (∃ (s : State) (e : Fin 25), e.val < 24 ∧ (s.link e.val).laser1 = false) ∧
  (∃ (s : State) (e : Fin 25), e.val < 24 ∧ (s.link e.val).laser1 = true) ∧
  (∃ (s : State) (k : Fin 112) (x lim : Int), s.boot.pd00 = true ∧ s.boot.thermtrip = false ∧ tripAt k.val = some lim
    ∧ lim ≤ x) ∧
  (∃ (s : State) (k : Fin 112) (x lim : Int), tripAt k.val = some lim ∧ x < lim) :=
  ⟨⟨({ up with clock := { up.clock with refB := true } }), by decide, by decide⟩,
   ⟨({ up with clock := { up.clock with refB := true } }), by decide, by decide⟩,
   ⟨State.reset, by decide⟩,
   ⟨up, by decide, by decide⟩,
   ⟨({ up with clock := {} }), by decide, by decide, by decide⟩,
   ⟨up, by decide⟩,
   ⟨({ linked with links := [(0, { (linked.link 0) with laser1 := false })] }), 0, by decide, by decide⟩,
   ⟨linked, 23, by decide, by decide⟩,
   ⟨linked, 97, 1680, 1680, by decide, by decide, by decide, by decide⟩,
   ⟨up, 0, 1759, 1760, by decide, by decide⟩⟩
theorem test_meets_Alignment :
  (∃ (s : State) (r : Route) (v : Bytes), s.passes r 0x4000 7 v = true ∧ s.clock.running = true ∧ s.reg 0x4000 5 = 1) ∧
  (∃ (s : State) (r : Route) (v : Bytes), s.passes r 0x4000 7 v = true ∧ s.clock.running = true ∧ s.reg 0x4000 5 ≠ 1 ∧
    s.linkUsable (s.reg 0x4000 6) = true) ∧
  (∃ (s : State) (p : Port) (x : RawToken) (m at_ : Nat) (o : Int), p.val < 48 ∧ tokenFields (s.rxDisparity (.port p))
    x "SpanMarker" = some m ∧ bit m 71 = true ∧ s.clock.running = true ∧ s.clock.align = 1 ∧ s.reg 0x4000 5 = 0 ∧
    s.reg 0x4000 6 = linkOf p.val ∧ s.clock.mark = none) ∧
  (∃ (s : State) (p : Port) (x : RawToken) (m n a : Nat) (o : Int), p.val < 48 ∧ tokenFields (s.rxDisparity (.port p))
    x "SpanMarker" = some m ∧ bit m 71 = true ∧ s.clock.running = true ∧ s.clock.align = 1 ∧ s.reg 0x4000 5 = 0 ∧
    s.reg 0x4000 6 = linkOf p.val ∧ s.clock.mark = some (n, a) ∧ fld m 63 0 = n + 1 ∧ s.clock.wasLost = false) ∧
  (∃ (s : State) (p : Port) (x : RawToken) (m at_ : Nat) (o : Int), p.val < 48 ∧ tokenFields (s.rxDisparity (.port p))
    x "SpanMarker" = some m ∧ bit m 71 = true ∧ s.clock.running = true ∧ s.clock.align = 2 ∧ thas s.clock.offsets
    (linkOf p.val) = false ∧ tget s.clock.targets (linkOf p.val) 0x8000 = 0x8000) ∧
  (∃ (s : State) (k : Fin 2) (x : RawToken) (m n a : Nat) (o : Int), tokenFields (s.rxDisparity (.faette k)) x
    "SpanMarker" = some m ∧ bit m 71 = true ∧ s.faette.parent = s.faette.sideOf k.val ∧ s.faette.align ≠ 2 ∧
    s.faette.mark = some (n, a) ∧ fld m 63 0 = n + 1) :=
  ⟨⟨(up.setReg 0x4000 5 1), .pf, (natLe 8 500), by decide, by decide, by decide⟩,
   ⟨(linked.setReg 0x4000 6 0), .pf, (natLe 8 0), by decide, by decide, by decide, by decide⟩,
   ⟨({ (linked.setReg 0x4000 6 0) with clock := { linked.clock with align := 1 } }), 0, (tokenAt false "SpanMarker" (2 ^ 71 + 7)), (2 ^ 71 + 7), 14336, 0, by decide, by decide, by decide, by decide, by decide, by decide, by decide, by decide⟩,
   ⟨({ (linked.setReg 0x4000 6 0) with clock := { linked.clock with align := 1, mark := some (6, 12288) } }), 0, (tokenAt false "SpanMarker" (2 ^ 71 + 7)), (2 ^ 71 + 7), 6, 12288, 0, by decide, by decide, by decide, by decide, by decide, by decide, by decide, by decide, by decide, by decide⟩,
   ⟨linked, 1, (tokenAt false "SpanMarker" (2 ^ 71 + 7)), (2 ^ 71 + 7), 100, -3, by decide, by decide, by decide, by decide, by decide, by decide, by decide⟩,
   ⟨({ up with faette := { up.faette with mark := some (6, 100), parent := 0 } }), 0, (tokenAt false "SpanMarker" (2 ^ 71 + 7)), (2 ^ 71 + 7), 6, 100, 0, by decide, by decide, by decide, by decide, by decide, by decide⟩⟩
theorem test_meets_TableLoads :
  (∃ (s : State) (r : Route) (v : Bytes), s.passes r 0x4010 1 v = true ∧ (s.reg 0x4010 4 = 0 ∨ s.reg 0x4010 4 = 4) ∧
    s.tokenFree r 0x4010 = true) ∧
  (∃ (s : State) (r : Route) (v : Bytes), s.passes r 0x4010 7 v = true ∧ s.reg 0x4010 4 = 2 ∧ s.clock.span <
    s.sched.activateAt) ∧
  (∃ (s : State) (r : Route) (v : Bytes), s.passes r 0x4010 7 v = true ∧ (s.reg 0x4010 4 = 3 ∨ (s.reg 0x4010 4 = 2 ∧
    s.sched.activateAt ≤ s.clock.span))) ∧
  (∃ (s : State) (r : Route) (v : Bytes), s.passes r 0x3090 1 v = true ∧ s.stepRuns 0x3090 1 = false ∧
    s.xbar.pendingRoutes = none ∧ s.tokenFree r 0x3090 = true) ∧
  (∃ (s : State) (r : Route) (v : Bytes), s.passes r 0x5010 1 v = true ∧ s.stepRuns 0x5010 1 = false ∧ s.tokenFree r
    0x5010 = true) ∧
  (∃ (s : State) (r : Route) (v : Bytes), s.passes r 0x5010 1 v = true ∧ s.stepRuns 0x5010 1 = true) ∧
  (∃ (s : State) (r : Route) (v : Bytes), s.passes r 0x5060 1 v = true ∧ s.stepRuns 0x5060 1 = false ∧
    s.board.pendingBarriers = none ∧ s.tokenFree r 0x5060 = true) ∧
  (∃ (s : State) (r : Route) (v : Bytes), s.passes r 0x6020 1 v = true ∧ s.isPrimary = true ∧ s.pair.state ≠ 2 ∧
    s.loadRuns = false ∧ s.commandRuns = false ∧ s.keys.closing = [] ∧ s.tokenFree r 0x6020 = true) ∧
  (∃ (s : State) (r : Route) (v : Bytes), s.passes r 0x4060 1 v = true ∧ (s.epReg .internal 0x4060 4 = 0 ∨ s.epReg
    .internal 0x4060 4 = 4) ∧ s.tokenFree r 0x4060 = true) ∧
  (∃ (s : State) (r : Route) (v : Bytes), faetteCheck 0x4060 1 true v = none ∧ (s.epReg .faette 0x4060 4 = 0 ∨ s.epReg
    .faette 0x4060 4 = 4) ∧ s.tokenFree r (schedStep .faette) = true) ∧
  (∃ (s : State) (r : Route) (v : Bytes), s.passes r 0x4060 7 v = true ∧ s.epReg .internal 0x4060 4 = 2) ∧
  (∃ (s : State) (r : Route) (v : Bytes), faetteCheck 0x4060 7 true v = none ∧ s.epReg .faette 0x4060 4 = 2) :=
  ⟨⟨up, .pf, [1], by decide, by decide, by decide⟩,
   ⟨({ up.setReg 0x4010 4 2 with sched := { up.sched with activateAt := 1 } }), .pf, [1], by decide, by decide, by decide⟩,
   ⟨(up.setReg 0x4010 4 2), .pf, [1], by decide, by decide⟩,
   ⟨up, .pf, [1], by decide, by decide, by decide, by decide⟩,
   ⟨(up.setReg 0x1020 1 1), .pf, [1], by decide, by decide, by decide⟩,
   ⟨({ up.setReg 0x1020 1 1 with steps := [{ idx := 0x5010, sub := 1 }] }), .pf, [1], by decide, by decide⟩,
   ⟨up, .pf, [1], by decide, by decide, by decide, by decide⟩,
   ⟨up, .pf, [1], by decide, by decide, by decide, by decide, by decide, by decide, by decide⟩,
   ⟨up, .pf, [1], by decide, by decide, by decide⟩,
   ⟨up, .pf, [1], by decide, by decide, by decide⟩,
   ⟨(up.setEpReg .internal 0x4060 4 2), .pf, [1], by decide, by decide⟩,
   ⟨(up.setEpReg .faette 0x4060 4 2), .pf, [1], by decide, by decide⟩⟩
theorem test_meets_Activation :
  (∃ (s : State) (x : SpanTable), s.sched.pending = some x ∧ s.sched.activateAt ≤ s.clock.span ∧ s.clock.align = 2) ∧
  (∃ (s : State) (x : SpanTable), s.sched.pending = some x ∧ s.clock.span < s.sched.activateAt) ∧
  (∃ (s : State) (x : SpanTable), s.sched.pending = some x ∧ s.sched.activateAt ≤ s.clock.span ∧ s.clock.align ≠ 2) ∧
  (∃ (s : State) (x : SpanTable) (a : Nat), s.sched.active = some x ∧ s.sched.inTransition = true ∧ s.sched.switchedAt
    = some a ∧ a < s.clock.span) ∧
  (∃ (s : State), (s.sched.inTransition = false ∨ s.sched.switchedAt.all (fun a => decide (s.clock.span ≤ a)) = true)) ∧
  (∃ (s : State) (w : EpSel) (x : EpSched), (s.epOf w).schedPending = some x ∧ (s.epOf w).schedAt ≤ s.epSpan w ∧
    s.epAlign w = 2) ∧
  (∃ (s : State) (w : EpSel) (x : EpSched), (s.epOf w).schedPending = some x ∧ (s.epOf w).schedAt ≤ s.epSpan w ∧
    s.epAlign w ≠ 2) :=
  ⟨⟨({ up with sched := { up.sched with pending := some { serial := 9, digest := 77 }, activateAt := 0 } }), ({ serial := 9, digest := 77 }), by decide, by decide, by decide⟩,
   ⟨({ up with sched := { up.sched with pending := some {}, activateAt := 1 } }), {}, by decide, by decide⟩,
   ⟨({ up with sched := { up.sched with pending := some {}, activateAt := 0 }, clock := { up.clock with align := 0 } }), {}, by decide, by decide, by decide⟩,
   ⟨({ up with sched := { up.sched with active := some {}, inTransition := true, switchedAt := some 4 }, clock := { up.clock with span := 5 } }), {}, 4, by decide, by decide, by decide, by decide⟩,
   ⟨up, by decide⟩,
   ⟨({ up with ep := { up.ep with schedPending := some { serial := 3 }, schedAt := 0 } }), .internal, ({ serial := 3 }), by decide, by decide, by decide⟩,
   ⟨({ up with faette := { up.faette with schedPending := some {}, schedAt := 0 } }), .faette, {}, by decide, by decide, by decide⟩⟩
theorem test_meets_OpenTransport :
  (∃ (s : State) (p : Port) (l : IngressLine) (o : Nat), (p.val = 48 ∨ (s.port p.val).rx = 5 ∨ (s.port p.val).rx = 7)
    ∧ (s.decoded p.val l).fecOk = true ∧ (s.decoded p.val l).headerOk = true ∧ s.hopOk p.val l = true ∧ l.grain.vc = 1
    ∧ l.grain.legal = true ∧ s.policePass p.val l.grain (s.senderSlot l) = true ∧ s.aged l.grain = false ∧ s.route
    l.grain.src.toNat l.grain.dst 1 = some o ∧ s.portUp o = true) ∧
  (∃ (s : State) (p : Port) (l : IngressLine), ((s.decoded p.val l).headerOk = false ∨ ((s.decoded p.val l).fecOk =
    false ∧ l.grain.vc ≠ 7))) ∧
  (∃ (s : State) (p : Port) (l : IngressLine), p.val ≠ 48 ∧ isDown (s.port p.val).rx = true) ∧
  (∃ (s : State) (p : Port) (n : Nat) (g : OpenGrain), s.xbar.waiting.find? (fun g => g.inPort == p.val && !s.mustWait
    (s.grainTime n) g) = some g ∧ g.grain.vc ≠ 0 ∧ s.tileLoad ((n + 10 * p.val) % 512) < 327) ∧
  (∃ (s : State) (p : Port) (n : Nat), s.xbar.waiting.find? (fun g => g.inPort == p.val && !s.mustWait (s.grainTime n)
    g) = none) ∧
  (∃ (s : State) (o p : Port) (vc : BitVec 3) (e : ReseqEntry) (g : Grain), headOf (s.reseqOf o.val) p.val vc.toNat =
    some e ∧ e.grain = some g ∧ s.combinable g = false) ∧
  (∃ (s : State) (p : Port) (n : Nat) (g : OpenGrain) (v : Serve), p.val < 48 ∧ s.portUp p.val = true ∧ s.canCarry
    p.val n = true ∧ s.timeTaken p.val n = false ∧ s.chooseGrain p.val s.clock.slot n = some (g, v) ∧ s.aged g.grain =
    false ∧ s.xbar.pushOpen.any (isPushed g) = false ∧ s.isOwnResult g.grain.context g.grain = false) ∧
  (∃ (s : State) (p : Port) (n : Nat), s.portUp p.val = true ∧ (s.canCarry p.val n = false ∨ s.timeTaken p.val n =
    true)) ∧
  (∃ (s : State) (p : Port) (n : Nat), p.val < 48 ∧ s.portUp p.val = true ∧ s.canCarry p.val n = true ∧ s.timeTaken
    p.val n = false ∧ s.chooseGrain p.val s.clock.slot n = none ∧ (s.link (linkOf p.val)).tests = []) ∧
  (∃ (s : State) (p : Port) (n : Nat) (x : LinkTest), p.val < 48 ∧ s.portUp p.val = true ∧ s.canCarry p.val n = true ∧
    s.timeTaken p.val n = false ∧ s.chooseGrain p.val s.clock.slot n = none ∧ (s.slotClass s.clock.span p.val true
    s.clock.slot).1 = 2 ∧ (s.link (linkOf p.val)).tests.find? (fun y => true && s.holdsNow y true) = some x) ∧
  (∃ (s : State) (p : Port) (x : RawToken) (m : Nat), p.val < 48 ∧ tokenFields (s.rxDisparity (.port p)) x "Credit" =
    some m ∧ openVc (fld m 30 28) = true ∧ keeps (s.port (halfPort p.val (fld m 31 31))).state = true) :=
  ⟨⟨({ linked with xbar := { linked.xbar with routes := [(20, 0)] } }), 48, ({ grain := { vc := 1, src := 5, body := BitVec.ofNat 112 (20 * 2 ^ 98) } }), 0, by decide, by decide +kernel, by decide +kernel, by decide, by decide, by decide, by decide, by decide, by decide, by decide⟩,
   ⟨linked, 0, ({ grain := { vc := 1 }, noise := [{ lane := 0, wrong := BitVec.allOnes 300 }] }), by decide +kernel⟩,
   ⟨linked, 3, ({ grain := {} }), by decide, by decide⟩,
   ⟨({ linked with xbar := { linked.xbar with waiting := [⟨{ vc := 1 }, 2, 0, none⟩] } }), 2, 511, (⟨{ vc := 1 }, 2, 0, none⟩), by decide, by decide, by decide⟩,
   ⟨up, 0, 0, by decide⟩,
   ⟨({ linked with xbar := { linked.xbar with reseq := [(0, [{ inPort := 2, vc := 1, grain := some { vc := 1 } }])] } }), 0, 2, 1, ({ inPort := 2, vc := 1, grain := some { vc := 1 } }), ({ vc := 1 }), by decide, by decide, by decide⟩,
   ⟨({ linked with ports := [(0, { state := 5, rx := 5, initial := [(1, 8)] })], xbar := { linked.xbar with ready := [⟨{ vc := 1 }, 2, 0, some 5⟩] } }), 0, 4, (⟨{ vc := 1 }, 2, 0, some 5⟩), ({ slot := 0, pos := 64, used := 0, last := 0, turns := [(0, 1)] }), by decide, by decide, by decide, by decide, by decide, by decide, by decide, by decide⟩,
   ⟨({ linked with xbar := { linked.xbar with claims := [{ port := 0, span := 0, offset := 7 }] } }), 0, 7, by decide, by decide⟩,
   ⟨linked, 0, 0, by decide, by decide, by decide, by decide, by decide, by decide⟩,
   ⟨({ linked with sched := { linked.sched with active := some { maps := [{ port := 0, egress := true, slots := List.replicate 64 (2, 0) }] } }, links := [(0, { light := true, laneC := true, split := some false, peerOwn := 20, peerEp := 20, tests := [{ kind := 2, mask := 0xFF, spans := 4, agreed := true }] })] }), 0, 0, ({ kind := 2, mask := 0xFF, spans := 4, agreed := true }), by decide, by decide, by decide, by decide, by decide, by decide, by decide⟩,
   ⟨linked, 0, (tokenAt false "Credit" (put 1 30 28 + 600)), (put 1 30 28 + 600), by decide, by decide, by decide, by decide⟩⟩
theorem test_meets_ScheduledGates :
  (∃ (s : State) (q : Quarter) (k : Fin 6) (p : Port) (slack : Fin 33) (c : Claim), s.xbar.claims.find? (fun c =>
    c.port == p.val) = some c ∧ p.val < 48 ∧ s.portUp p.val = true ∧ s.canCarry p.val c.offset = true ∧ s.aged c.grain
    = false ∧ thas s.xbar.pushes (64 * p.val + c.part) = false ∧ s.isOwnResult c.grain.context c.grain = false ∧
    c.inherited = 0 ∧ s.xbar.pushOpen = [] ∧ c.offset < s.spanLen) ∧
  (∃ (s : State) (q : Quarter) (k : Fin 6) (p : Port) (slack : Fin 33) (c : Claim) (late n : Nat), s.xbar.claims.find?
    (fun c => c.port == p.val) = some c ∧ p.val < 48 ∧ s.portUp p.val = true ∧ s.aged c.grain = false ∧ thas
    s.xbar.pushes (64 * p.val + c.part) = false ∧ s.isOwnResult c.grain.context c.grain = false ∧ 0 < late ∧
    c.inherited = 0 ∧ s.xbar.pushOpen = [] ∧ s.pushTime p.val c.part c.span (c.span * s.spanLen + c.offset + late) =
    some n) ∧
  (∃ (s : State) (q : Quarter) (k : Fin 6) (p : Port) (slack : Fin 33) (late : Nat), s.xbar.claims.find? (fun c =>
    c.port == p.val) = none) ∧
  (∃ (s : State) (r : Route) (q : Quarter) (v : Bytes), s.passes r 0x4030 (5 + q.val) v = true ∧ leNat v = 1) :=
  ⟨⟨({ linked with xbar := { linked.xbar with claims := [{ grain := { vc := 4 }, port := 0, span := 0, offset := 40 }] } }), 1, 2, 0, 7, ({ grain := { vc := 4 }, port := 0, span := 0, offset := 40 }), by decide, by decide, by decide, by decide, by decide, by decide, by decide, by decide, by decide, by decide⟩,
   ⟨({ linked with sched := { linked.sched with active := some { maps := [{ port := 0, egress := true, slots := List.replicate 64 (1, 0) }] } }, xbar := { linked.xbar with claims := [{ grain := { vc := 4 }, port := 0, span := 0, offset := 40 }] } }), 3, 2, 0, 32, ({ grain := { vc := 4 }, port := 0, span := 0, offset := 40 }), 3, 43, by decide, by decide, by decide, by decide, by decide, by decide, by decide, by decide, by decide, by decide⟩,
   ⟨up, 0, 0, 0, 0, 9, by decide⟩,
   ⟨up, .pf, 3, [1], by decide, by decide⟩⟩
theorem test_meets_LoadsAtHome :
  (∃ (s : State) (a : Arrival) (g : Grain), g.vc = 0 ∧ g.op = 0 ∧ s.takes a.ep g ∧ s.homeCheck a.ep g = none ∧
    entSealed (s.homeEntry a.ep g.handle) = false ∧ s.lostChunks a.ep (s.homeAddr a.ep g) (g.chunks + 1) = false) ∧
  (∃ (s : State) (a : Arrival) (g : Grain), g.vc = 0 ∧ g.op = 1 ∧ s.takes a.ep g ∧ s.homeCheck a.ep g = none ∧
    entSealed (s.homeEntry a.ep g.handle) = false ∧ s.lostChunks a.ep (s.homeAddr a.ep g) (g.chunks + 1) = false) ∧
  (∃ (s : State) (a : Arrival) (g : Grain), g.vc = 0 ∧ g.op = 0 ∧ s.takes a.ep g ∧ s.homeCheck a.ep g = none ∧
    s.lostChunks a.ep (s.homeAddr a.ep g) (g.chunks + 1) = true) ∧
  (∃ (s : State) (a : Arrival) (g : Grain) (ev : MemEv) (st : Nat), g.vc = 0 ∧ g.op = 0 ∧ s.takes a.ep g ∧ s.homeCheck
    a.ep g = some st ∧ ev.twin = none) ∧
  (∃ (s : State) (a : Arrival) (g : Grain) (ev : MemEv), g.checkOk = false ∧ ev.twin = none) :=
  ⟨⟨homed, .internal, (req 0 0 1023 0 0), by decide, by decide, ⟨checkOk_with_crc _, by decide, by decide⟩, by decide, by decide, by decide⟩,
   ⟨faetteHomed, (.link 1), (reqTo 300 0 1 0 3 0), by decide, by decide, ⟨checkOk_with_crc _, by decide, by decide⟩, by decide, by decide, by decide⟩,
   ⟨({ homed with ep := { homed.ep with home := { homed.ep.home with bad := [0x400 * 2 ^ 21 + 64] } } }), .internal, (req 0 0 0 1 0), by decide, by decide, ⟨checkOk_with_crc _, by decide, by decide⟩, by decide, by decide⟩,
   ⟨homed, .internal, (req 0 0 1021 3 0), {}, St.bounds, by decide, by decide, ⟨checkOk_with_crc _, by decide, by decide⟩, by decide, by decide⟩,
   ⟨homed, .internal, {}, {}, by decide +kernel, by decide⟩⟩
theorem test_meets_StoresAtHome :
  (∃ (s : State) (a : Arrival) (g : Grain) (ev : MemEv), (g.vc = 0 ∨ g.vc = 3) ∧ g.op = 2 ∧ s.takes a.ep g ∧
    s.homeCheck a.ep g = none ∧ isCombinedStore g = false ∧ s.mirrors a.ep g.handle = false ∧ (s.home a.ep).offTable
    (s.homeAddr a.ep g) (64 * (g.chunks + 1)) = true ∧ ev.twin = none) ∧
  (∃ (s : State) (a : Arrival) (g : Grain), (g.vc = 0 ∨ g.vc = 3) ∧ g.op = 3 ∧ g.chunks ≤ 2 ∧ s.takes a.ep g ∧
    s.homeCheck a.ep g = none ∧ s.mirrors a.ep g.handle = false ∧ (s.home a.ep).offTable (s.homeAddr a.ep g) (64 *
    (g.chunks + 1)) = true ∧ s.lostChunks a.ep (s.homeAddr a.ep g) (g.chunks + 1) = false) ∧
  (∃ (s : State) (a : Arrival) (g : Grain) (ev : MemEv), g.vc = 4 ∧ g.op = 2 ∧ s.takes a.ep g ∧ ev.twin = none) ∧
  (∃ (s : State) (a : Arrival) (g : Grain) (ev : MemEv) (st : Nat), (g.vc = 0 ∨ g.vc = 3) ∧ g.op = 2 ∧ isCombinedStore
    g = false ∧ s.takes a.ep g ∧ s.homeCheck a.ep g = some st ∧ ev.twin = none) ∧
  (∃ (s : State) (g : Grain) (ev : MemEv), g.vc = 0 ∧ g.op = 2 ∧ g.checkOk = true ∧ s.refresh.running = true) ∧
  (∃ (s : State) (w : EpSel) (g : Grain) (ev : MemEv), (s.home w).group = [(g, ev)] ∧ g.op = 2 ∧ s.homeCheck w g =
    none ∧ s.mirrors w g.handle = false ∧ (s.home w).offTable (s.homeAddr w g) (64 * (g.chunks + 1)) = true) ∧
  (∃ (s : State) (w : EpSel), (s.home w).group = []) ∧
  (∃ (s : State) (a : Arrival) (g : Grain), g.isSeqReset = true ∧ g.checkOk = true) :=
  ⟨⟨homed, .internal, (req 0 2 5 1 0x1122334455), {}, by decide, by decide, ⟨checkOk_with_crc _, by decide, by decide⟩, by decide, by decide, by decide, by decide, by decide⟩,
   ⟨faetteHomed, (.link 1), (reqTo 300 3 3 0 2 (0x55 + 5 * 2 ^ (8 * 192))), by decide, by decide, by decide, ⟨checkOk_with_crc _, by decide, by decide⟩, by decide, by decide, by decide, by decide⟩,
   ⟨homed, .internal, (req 4 2 0 3 1), {}, by decide, by decide, ⟨checkOk_with_crc _, by decide, by decide⟩, by decide⟩,
   ⟨homed, .internal, (req 0 2 1023 1 0), {}, St.bounds, by decide, by decide, by decide, ⟨checkOk_with_crc _, by decide, by decide⟩, by decide, by decide⟩,
   ⟨({ homed with refresh := { homed.refresh with running := true } }), (req 0 2 5 1 1), {}, by decide, by decide, checkOk_with_crc _, by decide⟩,
   ⟨({ homed with ep := { homed.ep with home := { homed.ep.home with group := [(req 4 2 0 3 1, {})] } } }), .internal, (req 4 2 0 3 1), {}, rfl, by decide, by decide, by decide, by decide⟩,
   ⟨up, .faette, by decide⟩,
   ⟨homed, .internal, (req 2 15 0 0 0), by decide, checkOk_with_crc _⟩⟩
theorem test_meets_AtomicsAtHome :
  (∃ (s : State) (a : Arrival) (g : Grain), s.runsAtomic a.ep g ∧ g.op = 0) ∧
  (∃ (s : State) (a : Arrival) (g : Grain), s.runsAtomic a.ep g ∧ g.op = 1) ∧
  (∃ (s : State) (a : Arrival) (g : Grain), s.runsAtomic a.ep g ∧ g.op = 2) ∧
  (∃ (s : State) (a : Arrival) (g : Grain), s.runsAtomic a.ep g ∧ g.op = 3) ∧
  (∃ (s : State) (a : Arrival) (g : Grain), s.runsAtomic a.ep g ∧ g.op = 4) ∧
  (∃ (s : State) (a : Arrival) (g : Grain), s.runsAtomic a.ep g ∧ g.op = 5) ∧
  (∃ (s : State) (a : Arrival) (g : Grain), s.runsAtomic a.ep g ∧ g.op = 6) ∧
  (∃ (s : State) (a : Arrival) (g : Grain), s.runsAtomic a.ep g ∧ g.op = 7) ∧
  (∃ (s : State) (a : Arrival) (g : Grain) (v : Nat), s.runsAtomic a.ep g ∧ g.op = 8 ∧ (atomOp g).fmt.sum [s.operand
    a.ep g, (atomOp g).a] = some v) :=
  ⟨⟨homed, .internal, (req 2 0 1 0 (put 3 127 64 + put 2 14 13 + 8)), ⟨by decide, ⟨checkOk_with_crc _, by decide, by decide⟩, by decide, by decide, by decide, by decide, by decide, by decide, by decide, by decide⟩, by decide⟩,
   ⟨homed, .internal, (req 2 1 0 0 (put 0xFFFF 127 64 + put 1 12 12)), ⟨by decide, ⟨checkOk_with_crc _, by decide, by decide⟩, by decide, by decide, by decide, by decide, by decide, by decide, by decide, by decide⟩, by decide⟩,
   ⟨homed, .internal, (req 2 2 0 0 (put 0xFFFF 127 64)), ⟨by decide, ⟨checkOk_with_crc _, by decide, by decide⟩, by decide, by decide, by decide, by decide, by decide, by decide, by decide, by decide⟩, by decide⟩,
   ⟨homed, .internal, (req 2 3 0 0 (put 0xFFFF 127 64)), ⟨by decide, ⟨checkOk_with_crc _, by decide, by decide⟩, by decide, by decide, by decide, by decide, by decide, by decide, by decide, by decide⟩, by decide⟩,
   ⟨homed, .internal, (req 2 4 0 0 (put 0xFFFF 127 64)), ⟨by decide, ⟨checkOk_with_crc _, by decide, by decide⟩, by decide, by decide, by decide, by decide, by decide, by decide, by decide, by decide⟩, by decide⟩,
   ⟨faetteHomed, (.link 1), (reqTo 300 2 5 0 0 (put 0xFFFF 127 64)), ⟨by decide, ⟨checkOk_with_crc _, by decide, by decide⟩, by decide, by decide, by decide, by decide, by decide, by decide, by decide, by decide⟩, by decide⟩,
   ⟨homed, .internal, (req 2 6 0 0 (put 0xFFFF 127 64 + 2 ^ 15)), ⟨by decide, ⟨checkOk_with_crc _, by decide, by decide⟩, by decide, by decide, by decide, by decide, by decide, by decide, by decide, by decide⟩, by decide⟩,
   ⟨faetteHomed, (.link 1), (reqTo 300 2 7 1023 0 (put 0xFFFF 127 64 + put 9 191 128 + 62)), ⟨by decide, ⟨checkOk_with_crc _, by decide, by decide⟩, by decide, by decide, by decide, by decide, by decide, by decide, by decide, by decide⟩, by decide⟩,
   ⟨({ homed with ep := { homed.ep with home := homed.ep.home.write (0x400 * 2 ^ 21) (natLe 4 0x3F800000) } }), .internal, (req 2 8 0 0 (put 0x40000000 127 64 + put 1 14 13)), 0x40400000, ⟨by decide, ⟨checkOk_with_crc _, by decide, by decide⟩, by decide, by decide, by decide, by decide, by decide, by decide, by decide, by decide⟩, by decide, by decide⟩⟩
theorem test_meets_ResponsesAtRequester :
  (∃ (s : State) (j : Fin 2) (g : Grain) (k : Copy) (x : Transfer), g.checkOk = true ∧ g.cumulative = false ∧
    (s.faette.chan g.target g.reqVc).copies.filter (fun c => c.grain.tag == g.tag) = [k] ∧ k.grain.vc = 0 ∧ k.grain.op
    ≤ 1 ∧ s.faette.transfers = [x] ∧ x.req.id = k.req ∧ x.answered = false ∧ x.left = 1 ∧ x.fails = [] ∧ x.req.kind =
    0 ∧ s.faette.queue = [] ∧ s.ep.ended = []) ∧
  (∃ (s : State) (a : Arrival) (g : Grain), g.checkOk = true ∧ g.status = 0 ∧ (g.reqVc = 0 ∨ g.reqVc = 2 ∨ g.reqVc =
    4) ∧ (∀ k ∈ ((s.epOf a.ep).chan g.target g.reqVc).copies, k.grain.vc.toNat = g.reqVc) ∧ (∀ x ∈ (s.epOf
    a.ep).transfers, x.fails = []) ∧ (s.epOf a.ep).queue = [] ∧ s.ep.ended = []) ∧
  (∃ (s : State) (j : Fin 2) (g : Grain) (k : Copy) (x : Transfer), g.checkOk = true ∧ g.path = false ∧ g.cumulative =
    false ∧ g.status ≠ 0 ∧ (s.faette.chan g.target g.reqVc).copies.filter (fun c => c.grain.tag == g.tag) = [k] ∧
    k.grain.vc = 0 ∧ k.grain.op ≤ 1 ∧ s.faette.transfers = [x] ∧ x.req.id = k.req ∧ x.answered = false ∧ x.left = 1 ∧
    x.fails = [] ∧ x.req.kind = 0 ∧ s.faette.queue = [] ∧ s.ep.ended = [] ∧ g.status ≠ St.targetLost) ∧
  (∃ (s : State) (a : Arrival) (g : Grain) (k : Copy), g.checkOk = true ∧ g.path = true ∧ g.status = St.targetLost ∧
    (g.reqVc = 0 ∨ g.reqVc = 2 ∨ g.reqVc = 4) ∧ ((s.epOf a.ep).chan g.target g.reqVc).copies.find? (fun c =>
    c.grain.tag == g.tag) = some k ∧ (∀ k ∈ ((s.epOf a.ep).chan g.target g.reqVc).copies, k.grain.vc.toNat = g.reqVc)
    ∧ (s.epOf a.ep).queue = [] ∧ s.ep.ended = []) ∧
  (∃ (s : State) (a : Arrival) (g : Grain) (k : Copy), g.checkOk = true ∧ g.path = true ∧ g.status ≠ St.targetLost ∧
    k.grain.isSeqReset = false ∧ (∀ c ∈ ((s.epOf a.ep).chan g.target g.reqVc).copies, c.spent (s.epReg a.ep 0x3080 2)
    = false) ∧ (g.reqVc = 0 ∨ g.reqVc = 2 ∨ g.reqVc = 4) ∧ ((s.epOf a.ep).chan g.target g.reqVc).copies.find? (fun c
    => c.grain.tag == g.tag) = some k ∧ (∀ k ∈ ((s.epOf a.ep).chan g.target g.reqVc).copies, k.grain.vc.toNat =
    g.reqVc) ∧ (s.epOf a.ep).queue = [] ∧ s.ep.ended = []) ∧
  (∃ (s : State) (a : Arrival) (g : Grain), g.checkOk = false) :=
  ⟨⟨(asking 0 [copyOf 0 0 4, copyOf 0 0 5]), 1, (resp 0 0 0 4 false false 0x1122), (copyOf 0 0 4), ({ req := { id := 1, kind := 0, len := 64 }, left := 1 }), checkOk_with_crc _, by decide, by decide, by decide, by decide, by decide, by decide, by decide, by decide, by decide, by decide, by decide, by decide⟩,
   ⟨(asking 0 [copyOf 0 2 3, copyOf 0 2 4, copyOf 0 0 5]), (.link 0), (resp 1 0 0 4 true false 0), checkOk_with_crc _, by decide, by decide, by decide, by decide, by decide, by decide⟩,
   ⟨(asking 0 [copyOf 0 0 4, copyOf 0 0 5]), 1, (resp 2 St.bounds 0 4 false false 0), (copyOf 0 0 4), ({ req := { id := 1, kind := 0, len := 64 }, left := 1 }), checkOk_with_crc _, by decide, by decide, by decide, by decide, by decide, by decide, by decide, by decide, by decide, by decide, by decide, by decide, by decide, by decide, by decide⟩,
   ⟨(asking 2 [copyOf 2 0 3, copyOf 2 0 4, copyOf 2 0 5]), (.link 0), (resp 2 St.targetLost 2 4 false true 0), (copyOf 2 0 4), checkOk_with_crc _, by decide, by decide, by decide, by decide, by decide, by decide, by decide⟩,
   ⟨(asking 0 [copyOf 0 0 4, copyOf 0 2 5]), (.link 0), (resp 2 St.contextDenied 0 4 false true 0), (copyOf 0 0 4), checkOk_with_crc _, by decide, by decide, by decide, by decide, by decide, by decide, by decide, by decide, by decide⟩,
   ⟨(asking 0 [copyOf 0 0 4, copyOf 0 2 5]), (.link 0), {}, by decide +kernel⟩⟩
theorem test_meets_Resends :
  (∃ (s : State) (w : EpSel) (dst : EpId) (vc : BitVec 3) (tag : BitVec 15) (k : Copy), ((s.epOf w).chan dst.toNat
    vc.toNat).copies.find? (fun c => c.grain.tag == tag) = some k ∧ (k.due = true ∨ s.epSpan w < k.lastSpan + s.epReg
    w 0x3080 1)) ∧
  (∃ (s : State) (w : EpSel) (dst : EpId) (vc : BitVec 3) (tag : BitVec 15) (k : Copy), ((s.epOf w).chan dst.toNat
    vc.toNat).copies.find? (fun c => c.grain.tag == tag) = some k ∧ k.due = false ∧ k.lastSpan + s.epReg w 0x3080 1 ≤
    s.epSpan w ∧ s.mayResend w ((s.epOf w).chan dst.toNat vc.toNat).copies ∧ vc ≠ 4 ∧ s.ep.ended = []) ∧
  (∃ (s : State) (w : EpSel) (dst : EpId) (tag : BitVec 15) (k : Copy), ((s.epOf w).chan dst.toNat 4).copies.find?
    (fun c => c.grain.tag == tag) = some k ∧ k.due = false ∧ k.lastSpan + s.epReg w 0x3080 1 ≤ s.epSpan w ∧ (∀ c ∈
    ((s.epOf w).chan dst.toNat 4).copies, c.spent (s.epReg w 0x3080 2) = false) ∧ s.ep.ended = []) ∧
  (∃ (s : State) (w : EpSel) (dst : EpId) (vc : BitVec 3) (tag : BitVec 15) (k : Copy), ((s.epOf w).chan dst.toNat
    vc.toNat).copies.find? (fun c => c.grain.tag == tag) = some k ∧ k.lastSpan + s.epReg w 0x3080 1 ≤ s.epSpan w ∧
    ((s.epOf w).chan dst.toNat vc.toNat).copies.find? (fun c => c.from_ tag.toNat && c.spent (s.epReg w 0x3080 2)) =
    some k ∧ (∀ c ∈ ((s.epOf w).chan dst.toNat vc.toNat).copies, c.due = false) ∧ (vc = 0 ∨ vc = 2 ∨ vc = 4) ∧ (∀ k ∈
    ((s.epOf w).chan dst.toNat vc.toNat).copies, k.grain.vc = vc) ∧ (s.epOf w).queue = [] ∧ s.ep.ended = []) ∧
  (∃ (s : State) (w : EpSel) (dst : EpId) (vc : BitVec 3) (tag : BitVec 15) (k : Copy), ((s.epOf w).chan dst.toNat
    vc.toNat).copies.find? (fun c => c.grain.tag == tag) = some k ∧ k.first = false ∧ k.firstSpan + (s.epReg w 0x3080
    2 + 1) * s.epReg w 0x3080 1 + s.epReg w 0x3080 3 ≤ s.epSpan w ∧ (vc = 0 ∨ vc = 2 ∨ vc = 4) ∧ (∀ k ∈ ((s.epOf
    w).chan dst.toNat vc.toNat).copies, k.grain.vc = vc) ∧ (s.epOf w).queue = [] ∧ s.ep.ended = []) ∧
  (∃ (s : State) (w : EpSel) (dst : EpId) (vc : BitVec 3) (tag : BitVec 15) (k : Copy), ((s.epOf w).chan dst.toNat
    vc.toNat).copies.find? (fun c => c.grain.tag == tag) = some k ∧ (k.first = true ∨ s.epSpan w < k.firstSpan +
    (s.epReg w 0x3080 2 + 1) * s.epReg w 0x3080 1 + s.epReg w 0x3080 3)) ∧
  (∃ (s : State) (side : Fin 2) (x : RawToken) (lost : Bool) (m : Nat) (k : Copy), tokenFields (s.rxDisparity (.faette
    side)) x "NACK" = some m ∧ fld m 65 63 ≠ 4 ∧ fld m 65 63 ≠ 5 ∧ (fld m 56 55 = 0 ∨ fld m 56 55 = 3) ∧
    (s.faette.chan (fld m 39 26) (fld m 65 63)).copies.find? (fun c => c.grain.tag.toNat == fld m 54 40) = some k ∧
    birthEarlier (fld m 62 57) k.grain.birth.toNat = false ∧ s.mayResend .faette (s.faette.chan (fld m 39 26) (fld m
    65 63)).copies ∧ s.ep.ended = []) ∧
  (∃ (s : State) (side : Fin 2) (x : RawToken) (lost : Bool) (m : Nat) (k : Copy), tokenFields (s.rxDisparity (.faette
    side)) x "NACK" = some m ∧ fld m 65 63 ≠ 5 ∧ (fld m 56 55 = 1 ∨ fld m 56 55 = 2) ∧ (s.faette.chan (fld m 39 26)
    (fld m 65 63)).copies.find? (fun c => c.grain.tag.toNat == fld m 54 40) = some k ∧ birthEarlier (fld m 62 57)
    k.grain.birth.toNat = false ∧ s.ep.ended = []) ∧
  (∃ (s : State) (p : Port) (x : RawToken) (lost : Bool) (m : Nat) (o : Nat), p.val < 48 ∧ s.linkUp (linkOf p.val) =
    true ∧ tokenFields (s.rxDisparity (.port p)) x "NACK" = some m ∧ fld m 65 63 < 4 ∧ fld m 79 66 ≠ s.ownEp ∧ s.route
    (fld m 79 66) (fld m 79 66) (fld m 65 63) = some o) :=
  ⟨⟨(asking 0 [{ copyOf 0 0 4 with lastSpan := 100 }]), .faette, 20, 0, 4, ({ copyOf 0 0 4 with lastSpan := 100 }), by decide, by decide⟩,
   ⟨(asking 0 [copyOf 0 0 3, copyOf 0 0 4, copyOf 0 2 5]), .faette, 20, 0, 4, (copyOf 0 0 4), by decide, by decide, by decide, by decide, by decide, by decide⟩,
   ⟨(asking 4 [copyOf 4 2 3, copyOf 4 2 4, copyOf 4 2 5]), .faette, 20, 4, (copyOf 4 2 4), by decide, by decide, by decide, by decide, by decide⟩,
   ⟨(asking 0 [copyOf 0 0 3, { copyOf 0 0 4 with resends := 9 }, copyOf 0 2 5]), .faette, 20, 0, 4, ({ copyOf 0 0 4 with resends := 9 }), by decide, by decide, by decide, by decide, by decide, by decide, by decide, by decide⟩,
   ⟨(asking 0 [copyOf 0 0 3, copyOf 0 0 4, copyOf 0 2 5]), .faette, 20, 0, 4, (copyOf 0 0 4), by decide, by decide, by decide, by decide, by decide, by decide, by decide⟩,
   ⟨(asking 0 [{ copyOf 0 0 4 with firstSpan := 100 }]), .faette, 20, 0, 4, ({ copyOf 0 0 4 with firstSpan := 100 }), by decide, by decide⟩,
   ⟨(asking 0 [copyOf 0 0 3, copyOf 0 0 4, copyOf 0 2 5]), 0, (tokenAt false "NACK" (nackFields 300 20 0 4 0 3)), false, (nackFields 300 20 0 4 0 3), (copyOf 0 0 4), by decide, by decide, by decide, by decide, by decide, by decide, by decide, by decide⟩,
   ⟨(asking 0 [copyOf 0 0 3, copyOf 0 0 4, copyOf 0 2 5]), 0, (tokenAt false "NACK" (nackFields 300 20 0 4 0 1)), false, (nackFields 300 20 0 4 0 1), (copyOf 0 0 4), by decide, by decide, by decide, by decide, by decide, by decide⟩,
   ⟨({ linked with xbar := { linked.xbar with routes := [(300, 0)] } }), 0, (tokenAt false "NACK" (nackFields 300 20 0 4 0 3)), false, (nackFields 300 20 0 4 0 3), 0, by decide, by decide, by decide, by decide, by decide, by decide⟩⟩
theorem test_meets_EngineRequests :
  (∃ (s : State) (r : EngReq) (g : Grain), r.kind = 4 ∧ r.bulk = false ∧ pieceGrains s.faette.id r
    { dst := r.dst, handle := r.handle, key := r.key, off := r.addr, len := r.len, pos := 0 } = [(g, 0)] ∧ g.vc = 0 ∧
    s.faette.queue = [] ∧ s.faette.fences = [] ∧ (∀ c ∈ s.faette.send, ∀ k ∈ c.2.copies, s.faette.epoch ≤ k.epoch) ∧
    (∀ q ∈ s.faette.vc4, s.faette.epoch ≤ q.epoch) ∧ (∀ x ∈ s.faette.waitTrans, s.faette.epoch ≤ x.epoch) ∧
    (s.faette.chan g.dst 0).needReset = false ∧ (s.faette.chan g.dst 0).hasDue = false ∧ (s.faette.chan g.dst
    0).copies.length < 16384 ∧ s.faette.room 0 = true ∧ s.mayLeave .faette g = true) ∧
  (∃ (s : State) (r : EngReq), r.kind = 4 ∧ r.bulk = true ∧ s.faette.queue = []) ∧
  (∃ (s : State) (r : EngReq) (e : BitVec 64), r.kind = 0 ∧ s.context (r.pasid.getD 0) = some e ∧ (lookup
    (s.faette.atc.filter fun x => x.pasid != r.pasid.getD 0 || x.ctx == e) (r.pasid.getD 0) false (r.len / 4096 + 2)
    r.addr r.len []).isNoRead = true) ∧
  (∃ (s : State) (r : EngReq) (e : BitVec 64) (va : Nat), r.kind = 0 ∧ s.context (r.pasid.getD 0) = some e ∧ (lookup
    (s.faette.atc.filter fun x => x.pasid != r.pasid.getD 0 || x.ctx == e) (r.pasid.getD 0) false (r.len / 4096 + 2)
    r.addr r.len []).missAt va = true ∧ s.faette.ats = []) ∧
  (∃ (s : State) (pasid va sizeLog : Nat) (pages : List AtsPage) (a : AtsReq), s.faette.ats.find? (fun a => a.pasid ==
    pasid && a.va == va && a.sizeLog == sizeLog) = some a ∧ a.cut = [] ∧ s.faette.waitTrans = [] ∧ (∀ p ∈ pages,
    p.sizeLog ≤ 12 ∧ (p.r ∨ p.w) ∧ isTray p.tray.toNat = true)) ∧
  (∃ (s : State) (pasid va sizeLog : Nat) (a : AtsReq) (x : Waiting), s.faette.ats.find? (fun a => a.pasid == pasid &&
    a.va == va && a.sizeLog == sizeLog) = some a ∧ a.cut = [] ∧ s.faette.waitTrans = [x] ∧ s.missesIn a x.req = true) ∧
  (∃ (s : State) (pasid va sizeLog : Nat) (a : AtsReq) (x : Waiting), s.faette.ats.find? (fun a => a.pasid == pasid &&
    a.va == va && a.sizeLog == sizeLog) = some a ∧ s.faette.waitTrans = [x] ∧ s.missesIn a x.req = true) :=
  ⟨⟨(asking 0 [copyOf 0 0 4]), ({ id := 7, kind := 4, addr := 128, len := 64, dst := 20, handle := 5, key := 7, part := 3, data := [1, 2, 3] }), (mkMem 0 2 3 300 20 7 0 5 2 0 0x030201), by decide, by decide, by decide, by decide, by decide, by decide, by decide, by decide, by decide, by decide, by decide, by decide, by decide, by decide⟩,
   ⟨(asking 0 [copyOf 0 0 4]), ({ id := 7, kind := 4, addr := 0, len := 512, dst := 20, handle := 5, key := 7, part := 3, data := [1, 2, 3], bulk := true }), by decide, by decide, by decide⟩,
   ⟨({ homed with faette := { homed.faette with ctxCache := [(3, 0x8000000000000000)], atc := [{ pasid := 3, va := 0x40000, pages := 1, w := true, ctx := 0x8000000000000000 }] } }), ({ id := 7, kind := 0, pasid := some 3, addr := 0x40000, len := 64 }), 0x8000000000000000, by decide, by decide, by decide⟩,
   ⟨({ homed with faette := { homed.faette with ctxCache := [(3, 0x8000000000000000)] } }), ({ id := 7, kind := 0, pasid := some 3, addr := 0x12345678, len := 64 }), 0x8000000000000000, 0x12345678, by decide, by decide, by decide, by decide⟩,
   ⟨({ homed with faette := { homed.faette with ats := [{ pasid := 3, va := 0x40000 }] } }), 3, 0x40000, 12, ([{ va := 0x41000, tray := 0x8000000000001000, r := true }, { va := 0x42000, tray := 0x8000000000002000, r := true }]), ({ pasid := 3, va := 0x40000 }), by decide, by decide, by decide, by decide⟩,
   ⟨({ homed with faette := { homed.faette with ats := [{ pasid := 3, va := 0x40000 }], waitTrans := [{ req := { id := 7, pasid := some 3, addr := 0x40010, len := 8 } }] } }), 3, 0x40000, 12, ({ pasid := 3, va := 0x40000 }), ({ req := { id := 7, pasid := some 3, addr := 0x40010, len := 8 } }), by decide, by decide, by decide, by decide⟩,
   ⟨({ homed with faette := { homed.faette with ats := [{ pasid := 3, va := 0x40000 }], waitTrans := [{ req := { id := 7, pasid := some 3, addr := 0x40010, len := 8 } }] } }), 3, 0x40000, 12, ({ pasid := 3, va := 0x40000 }), ({ req := { id := 7, pasid := some 3, addr := 0x40010, len := 8 } }), by decide, by decide, by decide⟩⟩
theorem test_meets_Invalidations :
  (∃ (s : State) (itag : Nat) (i : Inval), s.faette.invals.find? (fun x => x.itag == itag) = some i ∧ i.reqs.any (fun
    r => s.faette.transfers.any (fun t => t.req.id == r && !t.answered)) = true) ∧
  (∃ (s : State) (itag : Nat) (i : Inval), s.faette.invals.find? (fun x => x.itag == itag) = some i ∧ (∀ r ∈ i.reqs, ∀
    t ∈ s.faette.transfers, t.req.id = r → t.answered = true)) ∧
  (∃ (s : State) (r : Route) (v : Bytes), faetteCheck 0x6200 0xB true v = none) :=
  ⟨⟨({ homed with faette := { homed.faette with invals := [{ itag := 5, reqs := [9] }], transfers := [{ req := { id := 9 }, left := 1 }] } }), 5, ({ itag := 5, reqs := [9] }), by decide, by decide⟩,
   ⟨({ homed with faette := { homed.faette with invals := [{ itag := 5, reqs := [9] }], transfers := [{ req := { id := 9 }, answered := true }] } }), 5, ({ itag := 5, reqs := [9] }), by decide, by decide⟩,
   ⟨({ homed with faette := { homed.faette with ctxCache := [(3, 0x8000000000000000)], bindCache := [(3, 0x8000000000000000)] } }), .pf, [6], by decide⟩⟩
theorem test_meets_FencesAndSlots :
  (∃ (s : State) (id : Nat) (f : Fence), s.faette.fences.find? (fun f => f.id == id) = some f ∧ s.faette.waits f =
    true) ∧
  (∃ (s : State) (id : Nat) (f : Fence), s.faette.fences.find? (fun f => f.id == id) = some f ∧ s.faette.waits f =
    false ∧ s.faette.queue = []) ∧
  (∃ (s : State) (w : EpSel) (side : Fin 2) (slot : BitVec 11) (x : EpSched), (s.epOf w).schedActive = some x ∧
    ((s.epOf w).refuse = true ∨ s.epAlign w ≠ 2 ∨ s.sideRuns w side.val = false ∨ x.sends.find? (fun e => e.1 ==
    slot.toNat && e.2.1 == side.val) = none)) ∧
  (∃ (s : State) (side : Fin 2) (slot : BitVec 11) (x : EpSched) (i : MemberInst) (part ctx : Nat) (g : Grain),
    s.faette.schedActive = some x ∧ s.faette.refuse = false ∧ s.faette.align = 2 ∧ s.sideRuns .faette side.val = true
    ∧ x.sends.find? (fun e => e.1 == slot.toNat && e.2.1 == side.val) = some (slot.toNat, side.val, part, 1, ctx) ∧
    s.faette.insts = [i] ∧ dCtx i.desc = ctx ∧ dPart i.desc = part ∧ dFirst i.desc ≤ s.faette.span ∧ i.mirrored =
    false ∧ i.queues = [] ∧ i.slots = [] ∧ i.slotGrains s.faette.id 0 = [g] ∧ i.copies = [] ∧ s.faette.copiesHeld <
    32768 ∧ 0 < s.slotGrains .faette side.val) :=
  ⟨⟨({ asking 0 [copyOf 0 0 4] with faette := { (asking 0 [copyOf 0 0 4]).faette with fences := [{ id := 3, no := 1 }] } }), 3, ({ id := 3, no := 1 }), by decide, by decide⟩,
   ⟨({ asking 2 [copyOf 0 0 4] with faette := { (asking 0 []).faette with fences := [{ id := 3, no := 1, first := some (4, St.bounds) }] } }), 3, ({ id := 3, no := 1, first := some (4, St.bounds) }), by decide, by decide, by decide⟩,
   ⟨({ homed with faette := { homed.faette with schedActive := some {}, align := 2 } }), .faette, 0, 5, {}, by decide, by decide⟩,
   ⟨({ homed with faette := { homed.faette with id := 300, sideUp := [0, 1], span := 9, align := 2, schedActive := some { sends := [(5, 1, 3, 1, 4)] }, insts := [{ desc := descWit, member := 0, members := 2, data := [1, 2, 3, 4] }] } }), 1, 5, ({ sends := [(5, 1, 3, 1, 4)] }), ({ desc := descWit, member := 0, members := 2, data := [1, 2, 3, 4] }), 3, 4, (mkColl 0 3 300 4 0 0 0 0 0x04030201), by decide, by decide, by decide, by decide, by decide, by decide, by decide, by decide, by decide, by decide, by decide, by decide, rfl, by decide, by decide, by decide⟩⟩
theorem test_meets_BoardInputs :
  (∃ (s : State) (p : Port) (g : Grain), s.boardOpen g (inFmt (s.ctx g.context).desc).per ∧ (s.ctx
    g.context).got.contains (0, g.sender, g.block) = false ∧ ((s.ctx g.context).roster.membersAt (s.boardIndex
    g.context)).contains g.sender = true) ∧
  (∃ (s : State) (p : Port) (g : Grain), s.boardOpen g (inFmt (s.ctx g.context).desc).per ∧ (s.ctx
    g.context).got.contains (0, g.sender, g.block) = false ∧ ((s.ctx g.context).roster.membersAt (s.boardIndex
    g.context)).contains g.sender = true ∧ isData (s.ctx g.context).desc = false ∧ g.fingerprint = (s.ctx
    g.context).fingerprint) ∧
  (∃ (s : State) (p : Port) (g : Grain), g.checkOk = true ∧ s.boardTakes g = true ∧ g.fingerprint ≠ (s.ctx
    g.context).fingerprint) ∧
  (∃ (s : State) (p : Port) (g : Grain), g.checkOk = true ∧ s.boardTakes g = true ∧ (s.ctx g.context).got.contains (0,
    g.sender, g.block) = true) ∧
  (∃ (s : State) (p : Port) (g : Grain), g.checkOk = true ∧ s.boardTakes g = false) ∧
  (∃ (s : State) (p : Port) (g : Grain), g.checkOk = false) ∧
  (∃ (s : State) (p : Port) (g : Grain), g.op = 2 ∧ s.boardOpen g (inFmt (s.ctx g.context).desc).words ∧ (inFmt (s.ctx
    g.context).desc).long = false ∧ (s.ctx g.context).got.contains (1, g.sender, g.block) = false ∧ ((s.ctx
    g.context).roster.children (s.boardIndex g.context)).contains g.sender = true ∧ hasReserved (s.ctx g.context).desc
    g = false) ∧
  (∃ (s : State) (p : Port) (g : Grain), g.op = 3 ∧ s.boardOpen g (inFmt (s.ctx g.context).desc).words ∧ (inFmt (s.ctx
    g.context).desc).long = true ∧ (s.ctx g.context).got.contains (1, g.sender, g.block) = false ∧ ((s.ctx
    g.context).roster.children (s.boardIndex g.context)).contains g.sender = true ∧ hasReserved (s.ctx g.context).desc
    g = false) ∧
  (∃ (s : State) (p : Port) (g : Grain) (e seg v : Nat), s.boardOpen g 1 ∧ ((s.ctx g.context).roster.children
    (s.boardIndex g.context)).contains g.sender = true ∧ imagesOf (s.ctx g.context).desc g = [(e, seg, v)] ∧ (s.ctx
    g.context).images.contains (g.sender, e, seg) = false ∧ e < dCount (s.ctx g.context).desc ∧ seg < gangOf (s.ctx
    g.context).desc) :=
  ⟨⟨boarded, 0, (input 1 1 0 0 5), ⟨checkOk_with_crc _, by decide, by decide, by decide, by decide, by decide⟩, by decide, by decide⟩,
   ⟨(boardedC fun c => { c with fingerprint := 99 }), 0, (input 0 1 0 99 5), ⟨checkOk_with_crc _, by decide, by decide, by decide, by decide, by decide⟩, by decide, by decide, by decide, by decide⟩,
   ⟨(boardedC fun c => { c with fingerprint := 99 }), 0, (input 0 1 0 98 5), checkOk_with_crc _, by decide, by decide⟩,
   ⟨(boardedC fun c => { c with got := [(0, 1, 0)] }), 0, (input 1 1 0 0 5), checkOk_with_crc _, by decide, by decide⟩,
   ⟨boarded, 0, (checked (mkColl 1 2 20 4 0 0 0 0 5)), checkOk_with_crc _, by decide⟩,
   ⟨boarded, 0, {}, by decide +kernel⟩,
   ⟨boarded, 0, (input 2 1 0 0 (5 + 258 * 2 ^ 54)), by decide, ⟨checkOk_with_crc _, by decide, by decide, by decide, by decide, by decide⟩, by decide, by decide, by decide, by decide⟩,
   ⟨(boardedC fun c => { c with desc := BitVec.ofNat 1024 (descWit.toNat + put 1 58 51 + put 1 50 43) }), 0, (input 3 1 0 0 (5 + 2049 * 2 ^ 115)), by decide, ⟨checkOk_with_crc _, by decide, by decide, by decide, by decide, by decide⟩, by decide, by decide, by decide, by decide⟩,
   ⟨boarded, 0, (checked (mkColl 4 3 201 4 1 0 1 0 77)), 0, 0, 77, ⟨checkOk_with_crc _, by decide, by decide, by decide, by decide, by decide⟩, by decide, by decide, by decide, by decide, by decide⟩⟩
theorem test_meets_BoardSlots :
  (∃ (s : State) (lost : Bool), s.boardNow = none) ∧
  (∃ (s : State), s.boardNow = none) ∧
  (∃ (s : State) (b : BoardRec) (per : Nat), s.boardNow = some b ∧ b.role = 1 ∧ (s.ctx b.ctx).state = 2 ∧ dPart (s.ctx
    b.ctx).desc = b.part ∧ isData (s.ctx b.ctx).desc = false ∧ (s.ctx b.ctx).begun = [] ∧ (s.ctx b.ctx).topBefore
    s.slotId = 1 ∧ chunks (s.ctx b.ctx).desc = 1 ∧ per = (outFmt (s.ctx b.ctx).desc).per ∧ chunkBlocks (s.ctx
    b.ctx).desc per 0 = [0] ∧ (s.ctx b.ctx).emitted = [] ∧ (s.ctx b.ctx).lacks (s.boardIndex b.ctx) 0 (min (dCount
    (s.ctx b.ctx).desc) (dChunk (s.ctx b.ctx).desc)) = [] ∧ min (dCount (s.ctx b.ctx).desc) (dChunk (s.ctx
    b.ctx).desc) = min (dCount (s.ctx b.ctx).desc) per) ∧
  (∃ (s : State) (b : BoardRec) (per m : Nat), s.boardNow = some b ∧ b.role = 1 ∧ (s.ctx b.ctx).state = 2 ∧ dPart
    (s.ctx b.ctx).desc = b.part ∧ isData (s.ctx b.ctx).desc = false ∧ (s.ctx b.ctx).begun = [] ∧ (s.ctx
    b.ctx).finished = false ∧ (s.ctx b.ctx).emitted = [] ∧ (s.ctx b.ctx).missing = [] ∧ (s.ctx b.ctx).topBefore
    s.slotId = 1 ∧ chunks (s.ctx b.ctx).desc = 1 ∧ per = (outFmt (s.ctx b.ctx).desc).per ∧ chunkBlocks (s.ctx
    b.ctx).desc per 0 = [0] ∧ (s.ctx b.ctx).lacks (s.boardIndex b.ctx) 0 (min (dCount (s.ctx b.ctx).desc) (dChunk
    (s.ctx b.ctx).desc)) = [(0, m, 0)] ∧ min (dCount (s.ctx b.ctx).desc) (dChunk (s.ctx b.ctx).desc) = min (dCount
    (s.ctx b.ctx).desc) per) ∧
  (∃ (s : State) (b : BoardRec), s.boardNow = some b ∧ (s.ctx b.ctx).state = 2 ∧ dPart (s.ctx b.ctx).desc = b.part ∧
    isData (s.ctx b.ctx).desc = false ∧ dStaged (s.ctx b.ctx).desc = true) ∧
  (∃ (s : State) (b : BoardRec) (e : Nat × List BeadImage), s.boardNow = some b ∧ b.role = 2 ∧ (s.ctx b.ctx).state = 2
    ∧ dPart (s.ctx b.ctx).desc = b.part ∧ (s.ctx b.ctx).exhausted = false ∧ (s.ctx b.ctx).works = [] ∧ (s.ctx
    b.ctx).queues.find? (fun e => e.2.any (·.spilled)) = some e) ∧
  (∃ (s : State) (b : BoardRec) (port block : Nat), s.boardNow = some b ∧ b.role = 2 ∧ (s.ctx b.ctx).state = 3 ∧ dPart
    (s.ctx b.ctx).desc = b.part ∧ (s.ctx b.ctx).left = some (port, block)) ∧
  (∃ (s : State) (k : Ctx) (m : Nat), (s.ctx k.val).state = 2 ∧ isData (s.ctx k.val).desc = true ∧ dFirst (s.ctx
    k.val).desc < s.clock.span ∧ (s.ctx k.val).missing = [] ∧ (s.ctx k.val).roster.membersAt (s.ctx k.val).me = [m] ∧
    (s.ctx k.val).got.contains (0, m, 0xFFFFFF) = false ∧ 0 < s.reg 0x3080 2) ∧
  (∃ (s : State) (k : Ctx) (m : Missing), (s.ctx k.val).state = 2 ∧ isData (s.ctx k.val).desc = false ∧ (s.ctx
    k.val).missing = [m] ∧ m.nacks < s.reg 0x3080 2) ∧
  (∃ (s : State) (k : Ctx) (m : Missing), (s.ctx k.val).state = 2 ∧ isData (s.ctx k.val).desc = false ∧ (s.ctx
    k.val).missing = [m] ∧ s.reg 0x3080 2 ≤ m.nacks) ∧
  (∃ (s : State) (a : Arrival) (g : Grain) (i : MemberInst), ({ g with vc := 5, op := 5 } : Grain).checkOk = true ∧
    (s.epOf a.ep).inst g.context g.part.toNat = some i ∧ isData i.desc = false ∧ i.needs = [(g.sender, g.block)] ∧
    i.got = [] ∧ i.status = none ∧ i.okHeld = false ∧ i.mirrored = false ∧ i.wanted true g.sender = (0, 1, 0) ∧
    g.block = 0 ∧ (outFmt i.desc).isMx = false ∧ 0 < (outFmt i.desc).per) ∧
  (∃ (s : State) (a : Arrival) (g : Grain) (i : MemberInst), ({ g with vc := 5, op := 6 } : Grain).checkOk = true ∧
    (s.epOf a.ep).inst g.context g.part.toNat = some i ∧ isData i.desc = true ∧ i.needs = [(g.sender, g.block)] ∧
    i.got = [] ∧ i.status = none ∧ i.mirrored = false ∧ i.wanted false g.sender = (0, 1, 0) ∧ g.block = 0 ∧ (outFmt
    i.desc).isMx = false ∧ 0 < (outFmt i.desc).per) :=
  ⟨⟨linked, true, by decide⟩,
   ⟨linked, by decide⟩,
   ⟨(boardedC fun c => { c with got := [(0, 0, 0), (0, 1, 0), (1, 1, 0)], top := 1, newSlot := (0, 9), newTop := 1, beads := [(0, { words := [12] })] }), ({ slot := 0, ctx := 4, quarters := 1, role := 1, part := 3, outMask := 1 }), 64, by decide, by decide, by decide, by decide, by decide, by decide, by decide, by decide, by decide, by decide, by decide, by decide, by decide⟩,
   ⟨(boardedC fun c => { c with got := [(0, 0, 0), (1, 1, 0)], top := 1, newSlot := (0, 9), newTop := 1, beads := [(0, { words := [12] })] }), ({ slot := 0, ctx := 4, quarters := 1, role := 1, part := 3, outMask := 1 }), 64, 1, by decide, by decide, by decide, by decide, by decide, by decide, by decide, by decide, by decide, by decide, by decide, by decide, by decide, by decide, by decide⟩,
   ⟨(boardedC fun c => { c with desc := BitVec.ofNat 1024 (descWit.toNat + put 1 60 60) }), ({ slot := 0, ctx := 4, quarters := 1, role := 1, part := 3, outMask := 1 }), by decide, by decide, by decide, by decide, by decide⟩,
   ⟨({ (boardedC fun c => { c with queues := [(0, [{ block := 0, spilled := true }])] }) with sched := { linked.sched with activateAt := 7, active := some { boards := [{ slot := 0, ctx := 4, role := 2, part := 3, outMask := 1 }] } } }), ({ slot := 0, ctx := 4, role := 2, part := 3, outMask := 1 }), ((0, [{ block := 0, spilled := true }])), by decide, by decide, by decide, by decide, by decide, by decide, by decide⟩,
   ⟨({ (boardedC fun c => { c with state := 3, left := some (5, 7) }) with sched := { linked.sched with activateAt := 7, active := some { boards := [{ slot := 0, ctx := 4, role := 2, part := 3, outMask := 1 }] } } }), ({ slot := 0, ctx := 4, role := 2, part := 3, outMask := 1 }), 5, 7, by decide, by decide, by decide, by decide, by decide⟩,
   ⟨({ (boardedC fun c => { c with desc := BitVec.ofNat 1024 (descWit.toNat - put 1 11 8), roster := { rosterWit with members := [{ ep := 20 }] } }) with clock := { boarded.clock with span := 9 } }), 4, 0, by decide, by decide, by decide, by decide, by decide, by decide, by decide⟩,
   ⟨(boardedC fun c => { c with missing := [{ sender := 1, nacks := 1 }] }), 4, ({ sender := 1, nacks := 1 }), by decide, by decide, by decide, by decide⟩,
   ⟨(boardedC fun c => { c with missing := [{ sender := 1, nacks := 9 }] }), 4, ({ sender := 1, nacks := 9 }), by decide, by decide, by decide, by decide⟩,
   ⟨({ homed with faette := { homed.faette with insts := [{ desc := descWit, member := 0, members := 2 }] } }), (.link 1), (input 5 0 0 0 0x11223344), ({ desc := descWit, member := 0, members := 2 }), checkOk_with_crc _, by decide, by decide, by decide, by decide, by decide, by decide, by decide, by decide, by decide, by decide, by decide⟩,
   ⟨({ homed with faette := { homed.faette with insts := [{ desc := BitVec.ofNat 1024 (descWit.toNat - put 1 11 8), member := 1, members := 2 }] } }), (.link 1), (input 6 0 0 0 0x11223344), ({ desc := BitVec.ofNat 1024 (descWit.toNat - put 1 11 8), member := 1, members := 2 }), checkOk_with_crc _, by decide, by decide, by decide, by decide, by decide, by decide, by decide, by decide, by decide, by decide⟩⟩
theorem test_meets_Admission :
  (∃ (s u : State) (m : Msg) (r : Roster), m.kind = 0x20 ∧ s.takeMsg .internal m .kept = (u, true) ∧ u.coresFA = none
    ∧ u.reg 0x1020 1 ≠ 0 ∧ m.part.toNat = dPart (descOf m.payload) ∧ (u.rosterOf (descOf m.payload)).getD {} = r ∧
    r.devices = [(u.ownEp, 0x7FF)] ∧ u.prepareCheck (descOf m.payload) = (0, 0, r, 0) ∧ u.clock.span + 1 < dFirst
    (descOf m.payload) ∧ dFirst (descOf m.payload) ≤ u.clock.span + 32767 ∧ u.ep.ended = []) ∧
  (∃ (s u : State) (m : Msg) (st detail : Nat) (x : Roster × Nat), m.kind = 0x20 ∧ s.takeMsg .internal m .kept = (u,
    true) ∧ u.coresFA = none ∧ u.reg 0x1020 1 ≠ 0 ∧ m.part.toNat = dPart (descOf m.payload) ∧ u.partState (dPart
    (descOf m.payload)) = 1 ∧ ((u.rosterOf (descOf m.payload)).getD {}).device u.ownEp = some 0 ∧ u.prepareCheck
    (descOf m.payload) = (st, detail, x.1, x.2) ∧ st ≠ 0 ∧ dFirst (descOf m.payload) ≤ u.clock.span + 32767 ∧
    u.ep.ended = []) ∧
  (∃ (s u : State) (m : Msg) (r : Roster) (me : Nat), m.kind = 0x22 ∧ s.takeMsg .internal m .kept = (u, true) ∧
    u.coresFA = none ∧ u.prepareCheck (descOf m.payload) = (0, 0, r, me)) ∧
  (∃ (s u : State) (m : Msg) (st detail : Nat) (x : Roster × Nat), m.kind = 0x22 ∧ s.takeMsg .internal m .kept = (u,
    true) ∧ u.coresFA = none ∧ u.prepareCheck (descOf m.payload) = (st, detail, x.1, x.2) ∧ st ≠ 0) ∧
  (∃ (s u : State) (m : Msg) (no k ep : Nat), s.takeAnswer .internal m = (u, some no) ∧ u.ep.ended = [(no, 0)] ∧
    u.keys.now = none ∧ u.prepareOf no = some k ∧ (u.ctx k).awaiting = [(ep, no)] ∧ (u.ctx k).state = 1 ∧ (u.ctx
    k).prepared = [] ∧ leAt m.payload 0 2 = 0 ∧ u.clock.span + (u.ctx k).lead < dFirst (u.ctx k).desc) ∧
  (∃ (s u : State) (a : Arrival) (m : Msg) (no : Nat), (s.tookMsg a m).takeAnswer a.ep m = (u, some no)) ∧
  (∃ (s u : State) (m : Msg) (k : Nat), m.kind = 0x24 ∧ s.takeMsg .internal m .none = (u, true) ∧ u.preparedBy m =
    some k ∧ u.clock.span + 1 < dFirst (u.ctx k).desc) ∧
  (∃ (s u : State) (m : Msg) (k : Nat), m.kind = 0x24 ∧ s.takeMsg .internal m .none = (u, true) ∧ u.preparedBy m =
    some k ∧ dFirst (u.ctx k).desc ≤ u.clock.span + 1) ∧
  (∃ (s u : State) (m : Msg) (k : Nat), m.kind = 0x25 ∧ s.takeMsg .internal m .none = (u, true) ∧ u.preparedBy m =
    some k) ∧
  (∃ (s u : State) (m : Msg) (c : Context), m.kind = 0x26 ∧ s.coresFA = none ∧ s.cancelled (leAt m.payload 0 1) (leAt
    m.payload 1 8) = some c ∧ dIssuer c.desc = m.src.toNat ∧ c.state = 2 ∧ s.takeMsg .internal m .none = (u, true)) ∧
  (∃ (s : State) (m : Msg) (c : Context), m.kind = 0x26 ∧ s.coresFA = none ∧ s.cancelled (leAt m.payload 0 1) (leAt
    m.payload 1 8) = some c ∧ dIssuer c.desc ≠ m.src.toNat) :=
  ⟨⟨(admitting [(200, 0x7FF)]), (((admitting [(200, 0x7FF)]).takeMsg .internal (msgOf 0x20 (natLe 128 descWit.toNat)) .kept).1), (msgOf 0x20 (natLe 128 descWit.toNat)), ({ rosterWit with devices := [(200, 0x7FF)] }), by decide, pair_of_snd (by decide), by decide, by decide, by decide, by decide, by decide, by decide, by decide, by decide, by decide⟩,
   ⟨(admitting [(200, 0x7FF)]), (((admitting [(200, 0x7FF)]).takeMsg .internal (msgOf 0x20 (natLe 128 (descPlus (put 1 7 0)).toNat)) .kept).1), (msgOf 0x20 (natLe 128 (descPlus (put 1 7 0)).toNat)), St.featureAbsent, 0, (({}, 0)), by decide, pair_of_snd (by decide), by decide, by decide, by decide, by decide, by decide, by decide, by decide, by decide, by decide⟩,
   ⟨(admitting [(201, 0x7FF), (200, 0)]), (((admitting [(201, 0x7FF), (200, 0)]).takeMsg .internal (msgOf 0x22 (natLe 128 descWit.toNat)) .kept).1), (msgOf 0x22 (natLe 128 descWit.toNat)), ({ rosterWit with devices := [(201, 0x7FF), (200, 0)] }), 1, by decide, pair_of_snd (by decide), by decide, by decide⟩,
   ⟨(admitting [(201, 0x7FF), (200, 0)]), (((admitting [(201, 0x7FF), (200, 0)]).takeMsg .internal (msgOf 0x22 (natLe 128 (descPlus (put 1 7 0)).toNat)) .kept).1), (msgOf 0x22 (natLe 128 (descPlus (put 1 7 0)).toNat)), St.featureAbsent, 0, (({}, 0)), by decide, pair_of_snd (by decide), by decide, by decide, by decide⟩,
   ⟨({ boarded with ep := { boarded.ep with send := [(chanKey 201 6, { next := 10, needReset := false, copies := [{ grain := { mkMgmt 0 3 200 201 1 0x22 0 true [] with tag := 9 }, req := 77 }] })] }, board := { ctxs := [(4, { state := 1, desc := descWit, awaiting := [(201, 77)], roster := { rosterWit with devices := [(200, 0x7FF), (201, 0)] } })] } }), (({ boarded with ep := { boarded.ep with send := [(chanKey 201 6, { next := 10, needReset := false, copies := [{ grain := { mkMgmt 0 3 200 201 1 0x22 0 true [] with tag := 9 }, req := 77 }] })] }, board := { ctxs := [(4, { state := 1, desc := descWit, awaiting := [(201, 77)], roster := { rosterWit with devices := [(200, 0x7FF), (201, 0)] } })] } } : State).takeAnswer .internal { src := 201, tag := 9, kind := 0x23, payload := [0, 0, 0] } |>.1), ({ src := 201, tag := 9, kind := 0x23, payload := [0, 0, 0] }), 77, 4, 201, pair_of_snd (by decide), by decide, by decide, by decide, by decide, by decide, by decide, by decide, by decide⟩,
   ⟨({ asking 6 [{ grain := { mkMgmt 0 3 300 20 1 0x20 0 true [] with tag := 9 }, req := 77 }] with ns := 5 }), (((({ asking 6 [{ grain := { mkMgmt 0 3 300 20 1 0x20 0 true [] with tag := 9 }, req := 77 }] with ns := 5 } : State).tookMsg (.link 0) (msgOf 0x21 [5, 6, 7, 8, 9])).takeAnswer .faette (msgOf 0x21 [5, 6, 7, 8, 9])).1), (.link 0), (msgOf 0x21 [5, 6, 7, 8, 9]), 77, pair_of_snd (by decide)⟩,
   ⟨(boardedM fun c => { c with state := 1, me := 1 }), (((boardedM fun c => { c with state := 1, me := 1 }).takeMsg .internal (msgOf 0x24 (natLe 1 4 ++ natLe 8 5)) .none).1), (msgOf 0x24 (natLe 1 4 ++ natLe 8 5)), 4, by decide, pair_of_snd (by decide), by decide, by decide⟩,
   ⟨({ (boardedM fun c => { c with state := 1, me := 1 }) with clock := { boarded.clock with span := 4 } }), ((({ (boardedM fun c => { c with state := 1, me := 1 }) with clock := { boarded.clock with span := 4 } } : State).takeMsg .internal (msgOf 0x24 (natLe 1 4 ++ natLe 8 5)) .none).1), (msgOf 0x24 (natLe 1 4 ++ natLe 8 5)), 4, by decide, pair_of_snd (by decide), by decide, by decide⟩,
   ⟨(boardedM fun c => { c with state := 1, me := 1 }), (((boardedM fun c => { c with state := 1, me := 1 }).takeMsg .internal (msgOf 0x25 (natLe 1 4 ++ natLe 8 5)) .none).1), (msgOf 0x25 (natLe 1 4 ++ natLe 8 5)), 4, by decide, pair_of_snd (by decide), by decide⟩,
   ⟨(boardedM fun c => c), (((boardedM fun c => c).takeMsg .internal (msgOf 0x26 (natLe 1 4 ++ natLe 8 5)) .none).1), (msgOf 0x26 (natLe 1 4 ++ natLe 8 5)), ((boardedM fun c => c).ctx 4), by decide, by decide, by decide +kernel, by decide, by decide, pair_of_snd (by decide)⟩,
   ⟨(boardedM fun c => { c with desc := descPlus (put 1 331 318) }), (msgOf 0x26 (natLe 1 4 ++ natLe 8 5)), ({ (boardedM fun c => c).ctx 4 with desc := descPlus (put 1 331 318) }), by decide, by decide, by decide +kernel, by decide⟩⟩
theorem test_meets_EndsOfInstances :
  (∃ (s u : State) (p : Port) (x : RawToken) (m : Nat), s.takeUrgent (.port p) x "End" = (u, some m) ∧ (u.ctx (fld m
    57 53)).held = true ∧ dPart (u.ctx (fld m 57 53)).desc = fld m 63 58 ∧ dInst (u.ctx (fld m 57 53)).desc = fld m 52
    37) ∧
  (∃ (s u : State) (p : Port) (x : RawToken) (m : Nat), s.takeUrgent (.port p) x "End" = (u, some m) ∧ (u.ctx (fld m
    57 53)).held = false) ∧
  (∃ (s : State) (side : Fin 2) (x : RawToken) (m : Nat) (i : MemberInst), tokenFields (s.rxDisparity (.faette side))
    x "End" = some m ∧ fld m 36 21 = 0 ∧ s.faette.insts = [i] ∧ dPart i.desc = fld m 63 58 ∧ dCtx i.desc = fld m 57 53
    ∧ dInst i.desc = fld m 52 37 ∧ i.stopAt = none ∧ i.status = none ∧ i.complete = true) ∧
  (∃ (s : State) (k : Ctx) (st sub p : Nat), (s.ctx k.val).state = 3 ∧ (s.ctx k.val).ended = some (st, sub) ∧ (s.ctx
    k.val).tokens = [p] ∧ p ≠ 48 ∧ s.linkUp (linkOf p) = true) ∧
  (∃ (s : State) (k : Ctx), ((s.ctx k.val).state ≠ 3 ∨ (s.ctx k.val).ended = none)) ∧
  (∃ (s : State) (k : Ctx), (s.ctx k.val).state = 3 ∧ (s.ctx k.val).recordOwed = false ∧ (s.ctx k.val).endSpan + s.reg
    0x3080 3 + 1 ≤ s.clock.span) ∧
  (∃ (s : State) (k : Ctx), ((s.ctx k.val).state ≠ 3 ∨ s.clock.span < (s.ctx k.val).endSpan + s.reg 0x3080 3 + 1)) ∧
  (∃ (s : State) (k : Ctx), (s.ctx k.val).state = 2 ∧ (s.ctx k.val).anchor = true ∧ isData (s.ctx k.val).desc = true ∧
    dFirst (s.ctx k.val).desc + dSpans (s.ctx k.val).desc + s.reg 0x3080 3 ≤ s.clock.span) ∧
  (∃ (s : State) (k : Ctx), (s.ctx k.val).state = 2 ∧ s.clock.span < dFirst (s.ctx k.val).desc + dSpans (s.ctx
    k.val).desc + s.reg 0x3080 3) ∧
  (∃ (s : State) (k : Ctx), (s.ctx k.val).state = 3 ∧ (s.ctx k.val).recordOwed = true ∧ (s.ctx k.val).endSpan + 4 ≤
    s.clock.span ∧ (s.ctx k.val).ring = none ∧ s.board.refused = [] ∧ s.coreStop 3 = none) ∧
  (∃ (s : State) (k : Ctx), (s.ctx k.val).state = 2 ∧ (s.ctx k.val).anchor = true ∧ (s.ctx k.val).finished = true ∧
    (s.ctx k.val).ring = none ∧ s.resultsOut k.val = true ∧ dDigest (s.ctx k.val).desc = true ∧ s.comparedEqual k.val
    = true ∧ s.coreStop 3 = none) ∧
  (∃ (s : State) (k : Ctx), (s.ctx k.val).state = 1 ∧ (s.ctx k.val).anchor = true ∧ dFirst (s.ctx k.val).desc ≤
    s.clock.span + (s.ctx k.val).lead) ∧
  (∃ (s : State) (k : Ctx), ((s.ctx k.val).state ≠ 1 ∨ s.clock.span + (s.ctx k.val).lead < dFirst (s.ctx k.val).desc)) ∧
  (∃ (s : State) (k : Ctx), (s.ctx k.val).state = 1 ∧ (s.ctx k.val).anchor = false ∧ dFirst (s.ctx k.val).desc ≤
    s.clock.span + 1) ∧
  (∃ (s : State) (k : Ctx), ((s.ctx k.val).state ≠ 1 ∨ s.clock.span + 1 < dFirst (s.ctx k.val).desc)) ∧
  (∃ (s u : State) (m : Msg), m.kind = 0x27 ∧ s.takeOrRefuse .internal m s.coresFA = (u, true) ∧ (u.ctx (leAt
    m.payload 0 1 % 32)).state = 3 ∧ (u.ctx (leAt m.payload 0 1 % 32)).anchor = true ∧ (u.ctx (leAt m.payload 0 1 %
    32)).recordOwed = true ∧ dFirst (u.ctx (leAt m.payload 0 1 % 32)).desc = leAt m.payload 1 8 ∧ u.clock.span ≤
    (u.ctx (leAt m.payload 0 1 % 32)).endSpan + 4) ∧
  (∃ (s u : State) (a : Arrival) (m : Msg), m.kind = 0x28 ∧ (s.tookMsg a m).takeMsg a.ep m .none = (u, true)) :=
  ⟨⟨boarded, ((boarded.takeUrgent (.port 0) (tokenAt false "End" (endFields descWit St.mismatch 0x3FFF)) "End").1), 0, (tokenAt false "End" (endFields descWit St.mismatch 0x3FFF)), (endFields descWit St.mismatch 0x3FFF), pair_of_snd (by decide), by decide, by decide, by decide⟩,
   ⟨(boardedC fun c => { c with state := 3 }), (((boardedC fun c => { c with state := 3 }).takeUrgent (.port 0) (tokenAt false "End" (endFields descWit St.mismatch 0x3FFF)) "End").1), 0, (tokenAt false "End" (endFields descWit St.mismatch 0x3FFF)), (endFields descWit St.mismatch 0x3FFF), pair_of_snd (by decide), by decide⟩,
   ⟨({ homed with faette := { homed.faette with insts := [{ desc := descWit, member := 0, members := 2, got := [(0, 0)] }] } }), 1, (tokenAt false "End" (endFields descWit 0 0x3FFF)), (endFields descWit 0 0x3FFF), ({ desc := descWit, member := 0, members := 2, got := [(0, 0)] }), by decide, by decide, by decide, by decide, by decide, by decide, by decide, by decide, by decide⟩,
   ⟨(boardedC fun c => { c with state := 3, ended := some (3, 4), tokens := [0] }), 4, 3, 4, 0, by decide, by decide, by decide, by decide, by decide⟩,
   ⟨boarded, 4, by decide⟩,
   ⟨({ (boardedC fun c => { c with state := 3 }) with clock := { boarded.clock with span := 100 } }), 4, by decide, by decide, by decide⟩,
   ⟨boarded, 4, by decide⟩,
   ⟨({ (boardedC fun c => { c with desc := BitVec.ofNat 1024 (descWit.toNat - put 1 11 8) }) with clock := { boarded.clock with span := 100 } }), 4, by decide, by decide, by decide, by decide⟩,
   ⟨boarded, 4, by decide, by decide⟩,
   ⟨({ (boardedC fun c => { c with state := 3, recordOwed := true, ended := some (St.mismatch, 0x3FFF) }) with clock := { boarded.clock with span := 4 } }), 4, by decide, by decide, by decide, by decide, by decide, by decide⟩,
   ⟨(boardedC fun c => { c with finished := true, results := [(0, 5)], desc := descPlus (put 1 59 59) }), 4, by decide, by decide, by decide, by decide, by decide, by decide, by decide, by decide⟩,
   ⟨({ (boardedC fun c => { c with state := 1 }) with clock := { boarded.clock with span := 3 } }), 4, by decide, by decide, by decide⟩,
   ⟨boarded, 4, by decide⟩,
   ⟨({ (boardedC fun c => { c with state := 1, me := 1 }) with clock := { boarded.clock with span := 4 } }), 4, by decide, by decide, by decide⟩,
   ⟨boarded, 4, by decide⟩,
   ⟨(boardedM fun c => { c with state := 3, recordOwed := true, dissent := [2] }), (((boardedM fun c => { c with state := 3, recordOwed := true, dissent := [2] }).takeOrRefuse .internal (msgOf 0x27 ([4, 5, 0, 0, 0, 0, 0, 0, 0, 2, 0, 1, 0, 2, 0])) none).1), (msgOf 0x27 ([4, 5, 0, 0, 0, 0, 0, 0, 0, 2, 0, 1, 0, 2, 0])), by decide, pair_of_snd (by decide), by decide, by decide, by decide, by decide, by decide⟩,
   ⟨(boardedM fun c => c), (((boardedM fun c => c).takeMsg .internal (msgOf 0x28 [1, 2]) .none).1), .internal, (msgOf 0x28 [1, 2]), by decide, pair_of_snd (by decide)⟩⟩
theorem test_meets_Barriers :
  (∃ (s u : State) (p : Port) (x : RawToken) (m b : Nat), s.takeUrgent (.port p) x "Barrier" = (u, some m) ∧ bit m 22
    = false ∧ bit m 20 = false ∧ b = fld m 13 2 ∧ (u.barrier b).valid = true ∧ (u.barrier b).children.contains
    (halfPort p.val (fld m 23 23)) = true ∧ fld m 19 14 = (u.barrier b).part ∧ bit m 21 = (u.barrier b).epoch ∧
    (u.barrier b).arrived.contains (halfPort p.val (fld m 23 23)) = false) ∧
  (∃ (s u : State) (p : Port) (x : RawToken) (m b : Nat), s.takeUrgent (.port p) x "Barrier" = (u, some m) ∧ bit m 22
    = false ∧ b = fld m 13 2 ∧ ((u.barrier b).valid = false ∨ fld m 19 14 ≠ (u.barrier b).part ∨ bit m 21 ≠ (u.barrier
    b).epoch ∨ (u.barrier b).arrived.contains (halfPort p.val (fld m 23 23)) = true)) ∧
  (∃ (s u : State) (p : Port) (x : RawToken) (m b : Nat), s.takeUrgent (.port p) x "Barrier" = (u, some m) ∧ bit m 22
    = true ∧ b = fld m 13 2) ∧
  (∃ (s : State) (side : Fin 2) (x : RawToken) (m b id part : Nat), tokenFields (s.rxDisparity (.faette side)) x
    "Barrier" = some m ∧ bit m 22 = true ∧ b = fld m 13 2 ∧ bit m 21 = tget s.faette.epochs b false ∧
    s.faette.waitBarrier = [(id, b, part)]) ∧
  (∃ (s : State) (id : Nat) (b : BitVec 12) (part : Part) (f : Nat), s.faette.sideUp.contains s.faette.parent = true ∧
    f = put (b2n (tget s.faette.epochs b.toNat false)) 21 21 + put part.val 19 14 + put b.toNat 13 2) :=
  ⟨⟨({ linked with board := { linked.board with barriers := [(7, { mask := 5, part := 3, valid := true, arrived := [2] })] } }), ((({ linked with board := { linked.board with barriers := [(7, { mask := 5, part := 3, valid := true, arrived := [2] })] } } : State).takeUrgent (.port 0) (tokenAt false "Barrier" (put 3 19 14 + put 7 13 2)) "Barrier").1), 0, (tokenAt false "Barrier" (put 3 19 14 + put 7 13 2)), (put 3 19 14 + put 7 13 2), 7, pair_of_snd (by decide), by decide, by decide, by decide, by decide, by decide, by decide, by decide, by decide⟩,
   ⟨linked, ((linked.takeUrgent (.port 0) (tokenAt false "Barrier" (put 3 19 14 + put 7 13 2)) "Barrier").1), 0, (tokenAt false "Barrier" (put 3 19 14 + put 7 13 2)), (put 3 19 14 + put 7 13 2), 7, pair_of_snd (by decide), by decide, by decide, by decide⟩,
   ⟨({ linked with board := { linked.board with barriers := [(7, { mask := 5, part := 3, valid := true, arrived := [2] })] } }), ((({ linked with board := { linked.board with barriers := [(7, { mask := 5, part := 3, valid := true, arrived := [2] })] } } : State).takeUrgent (.port 0) (tokenAt false "Barrier" (put 1 22 22 + put 3 19 14 + put 7 13 2)) "Barrier").1), 0, (tokenAt false "Barrier" (put 1 22 22 + put 3 19 14 + put 7 13 2)), (put 1 22 22 + put 3 19 14 + put 7 13 2), 7, pair_of_snd (by decide), by decide, by decide⟩,
   ⟨({ homed with faette := { homed.faette with waitBarrier := [(9, 7, 3)] } }), 0, (tokenAt false "Barrier" (put 1 22 22 + put 1 20 20 + put 3 19 14 + put 7 13 2)), (put 1 22 22 + put 1 20 20 + put 3 19 14 + put 7 13 2), 7, 9, 3, by decide, by decide, by decide, by decide, by decide⟩,
   ⟨(asking 0 []), 9, 7, 3, (put 3 19 14 + put 7 13 2), by decide, by decide⟩⟩
theorem test_meets_KeyCommands :
  (∃ (s : State) (r : Route) (h : Nat) (e par : Ent), s.passes r 0x6010 4 [1] = true ∧ s.tokenFree r 0x6010 = true ∧
    s.pair.state = 0 ∧ s.loadRuns = false ∧ s.keys.now = none ∧ s.keys.todo = [] ∧ s.ownPart r = none ∧ h = s.reg
    0x6010 1 % 2 ^ 21 ∧ BitVec.ofNat 128 (s.reg 0x6010 2) = e ∧ BitVec.ofNat 128 (s.reg 0x6010 3) = par ∧
    s.registerCheck h e = none ∧ entKey e ≠ 0 ∧ entValid (s.keyEntry h) = false) ∧
  (∃ (s u : State) (m : Msg) (no : Nat) (j : KeyJob), s.takeAnswer .internal m = (u, some no) ∧ u.keys.now = some j ∧
    j.no = no ∧ j.phase = 3 ∧ j.purpose = 0 ∧ u.pair.state = 0 ∧ u.keys.todo = [] ∧ u.ep.ended = [(no, 0)] ∧ leAt
    m.payload 0 2 = 0 ∧ u.coreStop 2 = none) ∧
  (∃ (s u : State) (m : Msg) (no : Nat) (j : KeyJob), s.takeAnswer .internal m = (u, some no) ∧ u.keys.now = some j ∧
    j.no = no ∧ j.phase = 3 ∧ j.purpose = 0 ∧ u.keys.todo = [] ∧ u.ep.ended = [(no, 0)] ∧ leAt m.payload 0 2 ≠ 0 ∧
    u.coreStop 2 = none) ∧
  (∃ (s : State) (r : Route) (h : Nat), s.passes r 0x6010 4 [2] = true ∧ s.tokenFree r 0x6010 = true ∧ s.pair.state =
    0 ∧ s.loadRuns = false ∧ s.keys.now = none ∧ s.keys.todo = [] ∧ h = s.reg 0x6010 1 % 2 ^ 21 ∧ entValid (s.keyEntry
    h) = true ∧ entDead (s.keyEntry h) = false) ∧
  (∃ (s : State) (r : Route) (h : Nat), s.passes r 0x6010 4 [3] = true ∧ s.tokenFree r 0x6010 = true ∧ s.pair.state =
    0 ∧ s.loadRuns = false ∧ s.keys.now = none ∧ s.keys.todo = [] ∧ h = s.reg 0x6010 1 % 2 ^ 21 ∧ entValid (s.keyEntry
    h) = true) ∧
  (∃ (s : State) (r : Route) (h : Nat), s.passes r 0x6010 4 [4] = true ∧ s.tokenFree r 0x6010 = true ∧ s.pair.state =
    0 ∧ s.loadRuns = false ∧ s.keys.now = none ∧ s.keys.todo = [] ∧ h = s.reg 0x6010 1 % 2 ^ 21 ∧ entValid (s.keyEntry
    h) = true) ∧
  (∃ (s u : State) (m : Msg) (no : Nat) (j : KeyJob), s.takeAnswer .internal m = (u, some no) ∧ u.keys.now = some j ∧
    j.no = no ∧ j.phase = 6 ∧ j.kind = 4 ∧ j.purpose = 0 ∧ u.keys.todo = [] ∧ u.ep.ended = [(no, 0)] ∧ u.coreStop 2 =
    none) ∧
  (∃ (s : State) (j : KeyJob), s.keys.now = some j ∧ (j.phase = 2 ∨ j.phase = 3) ∧ j.purpose = 0 ∧ s.keys.todo = [] ∧
    j.sentSpan + 64 ≤ s.clock.span ∧ s.coreStop 2 = none) ∧
  (∃ (s : State) (j : KeyJob), s.keys.now = some j ∧ s.clock.span < j.sentSpan + 64) :=
  ⟨⟨(keyed []), .pf, 5, (entOf 0x70), 0, by decide, by decide, by decide, by decide, by decide, by decide, by decide, by decide, by decide, by decide, by decide, by decide, by decide⟩,
   ⟨(keyedNow [] { kind := 1, handle := 5, ent := entOf 0x71, phase := 3, no := 77 }), (((keyedNow [] { kind := 1, handle := 5, ent := entOf 0x71, phase := 3, no := 77 }).takeAnswer .internal { src := 20, tag := 9, kind := 0x41, payload := [0, 0] }).1), ({ src := 20, tag := 9, kind := 0x41, payload := [0, 0] }), 77, ({ kind := 1, handle := 5, ent := entOf 0x71, phase := 3, no := 77 }), pair_of_snd (by decide), by decide, by decide, by decide, by decide, by decide, by decide, by decide, by decide, by decide⟩,
   ⟨(keyedNow [] { kind := 1, handle := 5, ent := entOf 0x71, phase := 3, no := 77 }), (((keyedNow [] { kind := 1, handle := 5, ent := entOf 0x71, phase := 3, no := 77 }).takeAnswer .internal { src := 20, tag := 9, kind := 0x41, payload := [5, 0] }).1), ({ src := 20, tag := 9, kind := 0x41, payload := [5, 0] }), 77, ({ kind := 1, handle := 5, ent := entOf 0x71, phase := 3, no := 77 }), pair_of_snd (by decide), by decide, by decide, by decide, by decide, by decide, by decide, by decide, by decide⟩,
   ⟨(keyed [(5, entOf 0x71), (6, entOf 0x71)]), .pf, 5, by decide, by decide, by decide, by decide, by decide, by decide, by decide, by decide, by decide⟩,
   ⟨(keyed [(5, entOf 0x71), (6, entOf 0x71)]), .pf, 5, by decide, by decide, by decide, by decide, by decide, by decide, by decide, by decide⟩,
   ⟨(keyed [(5, entOf 0x71), (6, entOf 0x71)]), .pf, 5, by decide, by decide, by decide, by decide, by decide, by decide, by decide, by decide⟩,
   ⟨(keyedNow [(5, entOf 0x71)] { kind := 4, handle := 5, ent := entOf 0x71, phase := 6, no := 77 }), (((keyedNow [(5, entOf 0x71)] { kind := 4, handle := 5, ent := entOf 0x71, phase := 6, no := 77 }).takeAnswer .internal { src := 20, tag := 9, kind := 0x43, payload := [5, 0, 0, 0, 1] }).1), ({ src := 20, tag := 9, kind := 0x43, payload := [5, 0, 0, 0, 1] }), 77, ({ kind := 4, handle := 5, ent := entOf 0x71, phase := 6, no := 77 }), pair_of_snd (by decide), by decide, by decide, by decide, by decide, by decide, by decide, by decide, by decide⟩,
   ⟨({ keyedNow [] { kind := 1, handle := 5, ent := entOf 0x71, phase := 3, no := 77 } with clock := { linked.clock with span := 64 } }), ({ kind := 1, handle := 5, ent := entOf 0x71, phase := 3, no := 77 }), by decide, by decide, by decide, by decide, by decide, by decide⟩,
   ⟨(keyedNow [] { kind := 1, handle := 5, ent := entOf 0x71, phase := 3, no := 77 }), ({ kind := 1, handle := 5, ent := entOf 0x71, phase := 3, no := 77 }), by decide, by decide⟩⟩
theorem test_meets_HomeAndPartitions :
  (∃ (s u : State) (a : Arrival) (m : Msg) (x : Nat), m.kind = 0x40 ∧ (s.tookMsg a m).isOwnSwitch a.ep m.src.toNat =
    true ∧ (s.tookMsg a m).takeMsg a.ep m .kept = (u, true) ∧ (Machine.pieces 32 (min 8 (m.payload.length / 32))
    m.payload).map leNat = [x] ∧ entValid (recEntry x) = true ∧ u.homeAccepts a.ep (recEntry x) = 0 ∧
    s.ep.home.tableAt = none) ∧
  (∃ (s u : State) (a : Arrival) (m : Msg) (x st : Nat), m.kind = 0x40 ∧ (s.tookMsg a m).isOwnSwitch a.ep m.src.toNat
    = true ∧ (s.tookMsg a m).takeMsg a.ep m .kept = (u, true) ∧ (Machine.pieces 32 (min 8 (m.payload.length / 32))
    m.payload).map leNat = [x] ∧ entValid (recEntry x) = true ∧ u.homeAccepts a.ep (recEntry x) = st ∧ st ≠ 0) ∧
  (∃ (s u : State) (a : Arrival) (m : Msg) (x : Nat), m.kind = 0x40 ∧ (s.tookMsg a m).isOwnSwitch a.ep m.src.toNat =
    true ∧ (s.tookMsg a m).takeMsg a.ep m .kept = (u, true) ∧ (Machine.pieces 32 (min 8 (m.payload.length / 32))
    m.payload).map leNat = [x] ∧ entValid (recEntry x) = false) ∧
  (∃ (s u : State) (a : Arrival) (m : Msg), m.kind = 0x42 ∧ (s.tookMsg a m).takeMsg a.ep m .reading = (u, true)) ∧
  (∃ (s : State) (r : Route) (p : Part), s.passes r (0x6100 + p.val) 2 [1] = true ∧ s.mayOpen p.val = true) ∧
  (∃ (s : State) (r : Route) (p : Part), s.passes r (0x6100 + p.val) 2 [1] = true ∧ s.mayOpen p.val = false) ∧
  (∃ (s : State) (r : Route) (p : Part), s.passes r (0x6100 + p.val) 2 [2] = true ∧ s.tokenFree r (0x6100 + p.val) =
    true ∧ s.stepRuns (0x6100 + p.val) 2 = false ∧ s.loadRuns = false ∧ s.pair.state = 0 ∧ s.partState p.val = 1 ∧
    s.partEntries p.val = []) ∧
  (∃ (s : State) (r : Route) (p : Part) (h : Nat) (e : Ent), s.passes r (0x6100 + p.val) 2 [2] = true ∧ s.tokenFree r
    (0x6100 + p.val) = true ∧ s.stepRuns (0x6100 + p.val) 2 = false ∧ s.loadRuns = false ∧ s.pair.state = 0 ∧
    s.partState p.val = 1 ∧ s.partEntries p.val = [(h, e)] ∧ s.keyEntry h = e ∧ entDead e = false ∧ s.keys.now = none
    ∧ s.keys.todo = []) ∧
  (∃ (s : State) (r : Route) (v : Bytes), s.passes r 0x6310 2 v = true ∧ s.tokenFree r 0x6310 = true ∧ s.stepRuns
    0x6310 2 = false ∧ s.partState (s.reg 0x6310 1 % 64) = 0) ∧
  (∃ (s : State) (r : Route) (v : Bytes), s.passes r 0x6310 2 v = true ∧ s.stepRuns 0x6310 2 = false ∧ s.partState
    (s.reg 0x6310 1 % 64) ≠ 0) :=
  ⟨⟨served200, ((served200.takeMsg .internal { src := 200, part := 3, tag := 9, kind := 0x40, payload := natLe 32 (keyRecord 5 (BitVec.ofNat 128 (put 3 81 76 + put 0xFFFFFF 51 21 + 0x71)) 0) } .kept).1), .internal, ({ src := 200, part := 3, tag := 9, kind := 0x40, payload := natLe 32 (keyRecord 5 (BitVec.ofNat 128 (put 3 81 76 + put 0xFFFFFF 51 21 + 0x71)) 0) }), (keyRecord 5 (BitVec.ofNat 128 (put 3 81 76 + put 0xFFFFFF 51 21 + 0x71)) 0), by decide, by decide, pair_of_snd (by decide), by decide, by decide, by decide, by decide⟩,
   ⟨served200, ((served200.takeMsg .internal { src := 200, part := 3, tag := 9, kind := 0x40, payload := natLe 32 (keyRecord 5 (BitVec.ofNat 128 (put 0x800000 75 52 + 1)) 0) } .kept).1), .internal, ({ src := 200, part := 3, tag := 9, kind := 0x40, payload := natLe 32 (keyRecord 5 (BitVec.ofNat 128 (put 0x800000 75 52 + 1)) 0) }), (keyRecord 5 (BitVec.ofNat 128 (put 0x800000 75 52 + 1)) 0), St.bounds, by decide, by decide, pair_of_snd (by decide), by decide, by decide, by decide, by decide⟩,
   ⟨served200, ((served200.takeMsg .internal { src := 200, part := 3, tag := 9, kind := 0x40, payload := natLe 32 (keyRecord 5 0 0) } .kept).1), .internal, ({ src := 200, part := 3, tag := 9, kind := 0x40, payload := natLe 32 (keyRecord 5 0 0) }), (keyRecord 5 0 0), by decide, by decide, pair_of_snd (by decide), by decide, by decide⟩,
   ⟨served200, ((served200.takeMsg .internal { src := 200, part := 3, tag := 9, kind := 0x42, payload := natLe 4 5 } .reading).1), .internal, ({ src := 200, part := 3, tag := 9, kind := 0x42, payload := natLe 4 5 }), by decide, pair_of_snd (by decide)⟩,
   ⟨((keyed []).setReg 0x6103 1 0), .pf, 3, by decide, by decide⟩,
   ⟨(keyed []), .pf, 3, by decide, by decide⟩,
   ⟨(keyed []), .pf, 3, by decide, by decide, by decide, by decide, by decide, by decide, by decide⟩,
   ⟨(keyed [(5, entOf 0x71)]), .pf, 3, 5, (entOf 0x71), by decide, by decide, by decide, by decide, by decide, by decide, by decide, by decide, by decide, by decide, by decide⟩,
   ⟨(keyed []), .pf, [1], by decide, by decide, by decide, by decide⟩,
   ⟨((keyed []).setReg 0x6310 1 3), .pf, [1], by decide, by decide, by decide⟩⟩
theorem test_meets_LinkBringUp :
  (∃ (s : State) (l : Link), s.linkState l.val = 0 ∧ s.isReady = true ∧ s.boot.thermtrip = false ∧ bit (s.reg 0x1020
    7) l.val = true ∧ bit (s.reg (linkObj l.val) 1) 0 = true ∧ (s.link l.val).hot = false) ∧
  (∃ (s : State) (l : Link) (a b : Bool), s.linkState l.val = 0 ∧ s.mayDetect l.val = false) ∧
  (∃ (s : State) (l : Link), s.linkState l.val = 1) ∧
  (∃ (s : State) (l : Link), s.linkState l.val = 1) ∧
  (∃ (s : State) (l : Link) (mask : BitVec 8), s.linkState l.val = 2 ∧ 7 ≤ popcount mask.toNat 8 ∧ (s.link
    l.val).myLanes = none) ∧
  (∃ (s : State) (l : Link) (x : Exch) (b : Bytes), s.linkState l.val = 2 ∧ exBody (s.disparity.rx.contains l.val) x 1
    = some b ∧ b.length = 1 ∧ 7 ≤ popcount (leAt b 0 1) 8) ∧
  (∃ (s : State) (l : Link) (units : List (List (BitVec 300))), s.linkState l.val = 3 ∧ s.lanesLocked l.val units =
    true ∧ (s.link l.val).hasSaid 2 = false) ∧
  (∃ (s : State) (l : Link) (units : List (List (BitVec 300))) (freq skew : Bool), (s.linkState l.val ≠ 3 ∨
    s.lanesLocked l.val units = false)) ∧
  (∃ (s : State) (l : Link) (units : List (List (BitVec 300))) (skew : Bool), s.linkState l.val = 3 ∧ s.lanesLocked
    l.val units = true) ∧
  (∃ (s : State) (l : Link) (units : List (List (BitVec 300))), s.linkState l.val = 3 ∧ s.lanesLocked l.val units =
    true) ∧
  (∃ (s : State) (l : Link) (x : Exch) (b : Bytes), s.linkState l.val = 3 ∧ exBody (s.disparity.rx.contains l.val) x 2
    = some b ∧ (s.link l.val).hasSaid 2 = true) ∧
  (∃ (s : State) (l : Link) (x : Exch) (v : Nat) (b : Bytes), s.linkState l.val = 4 ∧ exBody (s.disparity.rx.contains
    l.val) x 3 = some b ∧ b.length = 48 ∧ (s.link l.val).heard.contains 3 = false ∧ capsVersion (leNat b) = some v ∧
    s.capsIdentity l.val (leNat b) = false ∧ s.randomFailed = false) ∧
  (∃ (s : State) (l : Link) (x : Exch) (v : Nat) (b : Bytes), s.linkState l.val = 4 ∧ exBody (s.disparity.rx.contains
    l.val) x 3 = some b ∧ b.length = 48 ∧ (s.link l.val).heard.contains 3 = false ∧ capsVersion (leNat b) = some v ∧
    s.capsIdentity l.val (leNat b) = true) ∧
  (∃ (s : State) (k : Fin 2) (x : Exch) (v : Nat) (b : Bytes), exBody (s.disparity.rx.contains (64 + k.val)) x 3 =
    some b ∧ b.length = 48 ∧ capsVersion (leNat b) = some v ∧ s.faette.switches = [] ∧ s.faette.fencedLinks.contains
    k.val = false ∧ capsKind (leNat b) < 2 ∧ (s.faette.id = 0x3FFF ∨ capsOwn (leNat b) ≠ s.faette.id)) ∧
  (∃ (s : State) (k : Fin 2) (x : Exch) (b : Bytes), exBody (s.disparity.rx.contains (64 + k.val)) x 3 = some b ∧
    b.length = 48 ∧ s.faette.fencedLinks.contains k.val = false ∧ (capsVersion (leNat b) = none ∨ 2 ≤ capsKind (leNat
    b) ∨ (s.faette.id ≠ 0x3FFF ∧ capsOwn (leNat b) = s.faette.id))) ∧
  (∃ (s : State) (l : Link) (x : Exch) (b : Bytes), s.linkState l.val = 4 ∧ exBody (s.disparity.rx.contains l.val) x
    0x20 = some b ∧ b.length = 2) ∧
  (∃ (s : State) (l : Link), s.bothReady l.val = true ∧ s.linkState l.val = 4 ∧ (s.link l.val).split ≠ some true ∧
    (s.link l.val).myLanes.getD 0xFF = 0xFF ∧ (s.link l.val).peerLanes.getD 0xFF = 0xFF) ∧
  (∃ (s : State) (l : Link), s.bothReady l.val = true ∧ (s.link l.val).split ≠ some true ∧ s.linkState l.val ≠ 8 ∧
    holdsKeys (s.port (2 * l.val)).rx = false) ∧
  (∃ (s : State) (k : Fin 2) (c : List Nat), s.faette.caps.find? (fun e => e.1 == k.val) = some (k.val, c) ∧
    s.faette.switches = [] ∧ s.faette.fencedLinks.contains k.val = false) ∧
  (∃ (s : State) (l : Link), (s.linkState l.val = 2 ∨ s.linkState l.val = 3)) ∧
  (∃ (s : State) (l : Link), s.linkState l.val ≠ 2 ∧ s.linkState l.val ≠ 3) ∧
  (∃ (s : State) (l : Link), s.linkState l.val = 4) ∧
  (∃ (s : State) (l : Link), s.linkState l.val ≠ 4) ∧
  (∃ (s : State) (l : Link) (type : BitVec 8) (m : ExMsg), (s.link l.val).waiting.find? (fun m => m.type ==
    type.toNat) = some m ∧ m.sends < 3) ∧
  (∃ (s : State) (l : Link) (type : BitVec 8) (m : ExMsg), (s.link l.val).waiting.find? (fun m => m.type ==
    type.toNat) = some m ∧ 3 ≤ m.sends ∧ s.linkState l.val = 4) ∧
  (∃ (s : State) (l : Link), s.linkState l.val = 5) ∧
  (∃ (s : State) (l : Link), s.linkState l.val = 5) ∧
  (∃ (s : State) (l : Link) (rx : Bool), (s.link l.val).split ≠ some true) :=
  ⟨⟨(linkAt 0), 3, by decide, by decide, by decide, by decide, by decide, by decide⟩,
   ⟨(linkAt 0 fun l => { l with light := false }), 3, true, true, by decide, by decide⟩,
   ⟨(linkAt 1 fun l => { l with beacons := 63 }), 3, by decide⟩,
   ⟨(linkAt 1 fun l => { l with beacons := 63 }), 3, by decide⟩,
   ⟨(linkAt 2), 3, 0xFE, by decide, by decide, by decide⟩,
   ⟨(linkAt 2 fun l => { l with myLanes := some 255 }), 3, (exArrives false 1 [0xFF]), [0xFF], by decide, by decide +kernel, by decide, by decide⟩,
   ⟨(linkAt 3), 3, (List.replicate 8 (List.replicate 64 0)), by decide, by decide, by decide⟩,
   ⟨(linkAt 3), 3, (List.replicate 8 (List.replicate 63 0)), true, true, by decide⟩,
   ⟨(linkAt 3), 3, (List.replicate 8 (List.replicate 64 0)), true, by decide, by decide⟩,
   ⟨(linkAt 3), 3, (List.replicate 8 (List.replicate 64 0)), by decide, by decide⟩,
   ⟨(linkAt 3 fun l => { l with said := [(2, [])] }), 3, (exArrives false 2 []), [], by decide, by decide +kernel, by decide⟩,
   ⟨(linkAt 4), 3, (exArrives false 3 (capsOf 20)), 0x101, ((capsOf 20)), by decide, by decide +kernel, by decide, by decide, by decide, by decide, by decide⟩,
   ⟨(linkAt 4), 3, (exArrives false 3 (capsOf 200)), 0x101, ((capsOf 200)), by decide, by decide +kernel, by decide, by decide, by decide, by decide⟩,
   ⟨up, 1, (exArrives false 3 (capsOf 20)), 0x101, ((capsOf 20)), by decide +kernel, by decide, by decide, by decide, by decide, by decide, by decide⟩,
   ⟨(asking 0 []), 1, (exArrives false 3 (capsOf 300)), ((capsOf 300)), by decide +kernel, by decide, by decide, by decide⟩,
   ⟨(linkAt 4), 3, (exArrives false 0x20 [1, 1]), ([1, 1]), by decide, by decide +kernel, by decide⟩,
   ⟨(linkAt 4 fun l => { l with said := [(0x20, [])], heard := [0x20], split := some false }), 3, by decide, by decide, by decide, by decide, by decide⟩,
   ⟨(linkAt 4 fun l => { l with said := [(0x20, [])], heard := [0x20], split := some false }), 3, by decide, by decide, by decide, by decide⟩,
   ⟨({ homed with faette := { homed.faette with caps := [(1, [300, 20, 21])] } }), 1, ([300, 20, 21]), by decide, by decide, by decide⟩,
   ⟨((linkAt 2).setReg 0x3003 0xB 2), 3, by decide⟩,
   ⟨(linkAt 4), 3, by decide, by decide⟩,
   ⟨(linkAt 4), 3, by decide⟩,
   ⟨(linkAt 5), 3, by decide⟩,
   ⟨(linkAt 4 fun l => { l with waiting := [{ type := 3, body := [1], sends := 2 }] }), 3, 3, ({ type := 3, body := [1], sends := 2 }), by decide, by decide⟩,
   ⟨(linkAt 4 fun l => { l with waiting := [{ type := 3, body := [1], sends := 3 }] }), 3, 3, ({ type := 3, body := [1], sends := 3 }), by decide, by decide, by decide⟩,
   ⟨(linkAt 5), 3, by decide⟩,
   ⟨(linkAt 5), 3, by decide⟩,
   ⟨(linkAt 5 fun l => { l with session := some {} }), 3, true, by decide⟩⟩
theorem test_meets_LostLanes :
  (∃ (s : State) (p : Port) (lane : Fin 8), p.val < 48 ∧ s.isHalf p.val = false ∧ keeps (s.port p.val).state = true ∧
    (s.port p.val).lostRx = none ∧ (s.port p.val).downWait = none ∧ (s.port p.val).laneRx = none) ∧
  (∃ (s : State) (p : Port) (lane : Fin 8) (k : Nat), p.val < 48 ∧ s.isHalf p.val = false ∧ keeps (s.port p.val).state
    = true ∧ (s.port p.val).lostRx = some k ∧ k ≠ lane.val ∧ (s.port p.val).downWait = none ∧ (s.port p.val).laneRx =
    none) ∧
  (∃ (s : State) (p : Port) (lane : Nat), (s.port p.val).downWait = some lane ∧ s.isHalf p.val = false) ∧
  (∃ (s : State) (p : Port), (s.port p.val).downWait = none) ∧
  (∃ (s u : State) (p : Port) (x : RawToken) (m q : Nat), s.takeUrgent (.port p) x "Lane" = (u, some m) ∧ p.val < 48 ∧
    fld m 31 29 = 0 ∧ fld m 28 28 = 0 ∧ fld m 27 24 < 8 ∧ q = 2 * linkOf p.val ∧ s.isHalf q = false ∧ keeps (s.port
    q).state = true ∧ (s.port q).lostTx = none ∧ (s.port q).laneTx = none) ∧
  (∃ (s u : State) (p : Port) (x : RawToken) (m q : Nat), s.takeUrgent (.port p) x "Lane" = (u, some m) ∧ fld m 31 29
    = 1 ∧ q = halfPort p.val (fld m 28 28) ∧ (s.port q).downWait = some (fld m 27 24)) ∧
  (∃ (s : State) (p : Port) (w : Switch), (s.port p.val).laneTx = some w ∧ w.span ≤ s.clock.span ∧ (s.port
    p.val).state = 5) ∧
  (∃ (s : State) (p : Port) (w : Switch), (s.port p.val).laneTx = some w ∧ s.clock.span < w.span) ∧
  (∃ (s : State) (p : Port) (w : Switch), (s.port p.val).laneRx = some w) ∧
  (∃ (s : State) (p : Port) (lane : Nat), (s.port p.val).laneRx = none ∧ (s.port p.val).downWait = some lane ∧
    s.linkState (linkOf p.val) ≠ 0) :=
  ⟨⟨(linkAt 5), 6, 2, by decide, by decide, by decide, by decide, by decide, by decide⟩,
   ⟨({ linkAt 5 with ports := [(6, { state := 5, rx := 5, lostRx := some 1 })] }), 6, 2, 1, by decide, by decide, by decide, by decide, by decide, by decide, by decide⟩,
   ⟨({ linkAt 5 with ports := [(6, { state := 5, rx := 5, downWait := some 1 })] }), 6, 1, by decide, by decide⟩,
   ⟨(linkAt 5), 6, by decide⟩,
   ⟨(linkAt 5), (((linkAt 5).takeUrgent (.port 6) (tokenAt false "Lane" (laneFields 0 0 2 0)) "Lane").1), 6, (tokenAt false "Lane" (laneFields 0 0 2 0)), (laneFields 0 0 2 0), 6, pair_of_snd (by decide), by decide, by decide, by decide, by decide, by decide, by decide, by decide, by decide, by decide⟩,
   ⟨({ linkAt 5 with ports := [(6, { state := 5, rx := 5, downWait := some 2 })] }), ((({ linkAt 5 with ports := [(6, { state := 5, rx := 5, downWait := some 2 })] } : State).takeUrgent (.port 6) (tokenAt false "Lane" (laneFields 1 0 2 40)) "Lane").1), 6, (tokenAt false "Lane" (laneFields 1 0 2 40)), (laneFields 1 0 2 40), 6, pair_of_snd (by decide), by decide, by decide, by decide⟩,
   ⟨({ linkAt 5 with ports := [(6, { state := 5, rx := 5, laneTx := some ⟨0, 2⟩ })] }), 6, (⟨0, 2⟩), by decide, by decide, by decide⟩,
   ⟨({ linkAt 5 with ports := [(6, { state := 5, rx := 5, laneTx := some ⟨9, 2⟩ })] }), 6, (⟨9, 2⟩), by decide, by decide⟩,
   ⟨({ linkAt 5 with ports := [(6, { state := 5, rx := 5, laneRx := some ⟨9, 2⟩ })] }), 6, (⟨9, 2⟩), by decide⟩,
   ⟨({ linkAt 5 with ports := [(6, { state := 5, rx := 5, downWait := some 2 })] }), 6, 2, by decide, by decide, by decide⟩⟩
theorem test_meets_ModesAndControl :
  (∃ (s : State) (l : Link) (x : Exch) (b : Bytes), exBody (s.disparity.rx.contains l.val) x 0x50 = some b ∧ b.length
    = 9 ∧ holdsKeys (leAt b 0 1) = true ∧ s.linkAny l.val holdsKeys = true ∧ (s.link l.val).waiting = [] ∧ (s.link
    l.val).txSwitch = none) ∧
  (∃ (s : State) (l : Link) (w : Switch), (s.link l.val).txSwitch = some w ∧ s.clock.span < w.span) ∧
  (∃ (s : State) (l : Link) (w : Switch), (s.link l.val).txSwitch = some w ∧ w.span ≤ s.clock.span ∧ (s.link
    l.val).split ≠ some true ∧ holdsKeys (s.linkState l.val) = true) ∧
  (∃ (s : State) (l : Link) (w : Switch), (s.link l.val).rxSwitch = some w ∧ (s.link l.val).split ≠ some true ∧
    holdsKeys (s.linkState l.val) = true) ∧
  (∃ (s : State) (r : Route) (l : Link) (v : Bytes), s.passes r (linkObj l.val) 1 v = true ∧ bit (s.reg (linkObj
    l.val) 1) 0 = false ∧ bit (leNat v) 0 = true ∧ bit (s.reg 0xF000 2) l.val = false ∧ bit (leNat v) 3 = bit (s.reg
    (linkObj l.val) 1) 3 ∧ s.linkAny l.val (fun st => runs st || st == 9 || st == 6) = false) ∧
  (∃ (s : State) (r : Route) (l : Link) (v : Bytes), s.passes r (linkObj l.val) 1 v = true ∧ bit (s.reg (linkObj
    l.val) 1) 0 = true ∧ bit (leNat v) 0 = false ∧ bit (leNat v) 3 = false ∧ (s.link l.val).split ≠ some true) ∧
  (∃ (s : State) (r : Route) (l : Link) (v : Bytes), s.passes r (linkObj l.val) 1 v = true ∧ leNat v = s.reg (linkObj
    l.val) 1 - 2 ∧ bit (s.reg (linkObj l.val) 1) 1 = true ∧ s.reg (linkObj l.val) 1 < 16 ∧ bit (s.reg 0xF000 2) l.val
    = false ∧ s.linkState l.val = 5 ∧ bit (s.reg (linkObj l.val) 1) 3 = false ∧ (s.link l.val).txSwitch = none) ∧
  (∃ (s : State) (r : Route) (l : Link) (v : Bytes), s.passes r (linkObj l.val) 1 v = true ∧ leNat v = s.reg (linkObj
    l.val) 1 + 2 ∧ bit (s.reg (linkObj l.val) 1) 1 = false ∧ leNat v < 16 ∧ bit (s.reg 0xF000 2) l.val = false ∧
    s.linkState l.val = 9 ∧ bit (s.reg (linkObj l.val) 1) 3 = false ∧ (s.link l.val).txSwitch = none ∧ s.linkAny l.val
    (fun st => st == 6) = false) ∧
  (∃ (s : State) (r : Route) (l : Link) (v : Bytes), s.passes r (linkObj l.val) 1 v = true ∧ leNat v = s.reg (linkObj
    l.val) 1 + 4 ∧ bit (s.reg (linkObj l.val) 1) 2 = false ∧ leNat v < 16 ∧ bit (s.reg 0xF000 2) l.val = false ∧ ((bit
    (leNat v) 1 = true ∧ s.linkAny l.val (fun st => st == 9) = false) ∨ (bit (leNat v) 1 = false ∧ s.linkAny l.val
    runs = false)) ∧ ((bit (leNat v) 3 = true ∧ s.linkAny l.val keeps = false) ∨ (bit (leNat v) 3 = false ∧ s.linkAny
    l.val (fun st => st == 6) = false))) ∧
  (∃ (s : State) (r : Route) (l : Link) (v : Bytes), s.passes r (linkObj l.val) 1 v = true ∧ leNat v = s.reg (linkObj
    l.val) 1 + 8 ∧ bit (s.reg (linkObj l.val) 1) 3 = false ∧ leNat v < 16 ∧ bit (s.reg 0xF000 2) l.val = false ∧
    s.linkAny l.val keeps = true ∧ (s.link l.val).txSwitch = none) ∧
  (∃ (s : State) (r : Route) (l : Link) (v : Bytes), s.passes r (linkObj l.val) 1 v = true ∧ leNat v = s.reg (linkObj
    l.val) 1 - 8 ∧ bit (s.reg (linkObj l.val) 1) 3 = true ∧ s.reg (linkObj l.val) 1 < 16 ∧ bit (s.reg 0xF000 2) l.val
    = false ∧ s.linkState l.val = 6 ∧ (s.link l.val).txSwitch = none) ∧
  (∃ (s : State) (r : Route) (l : Link) (v : Bytes), s.passes r (linkObj l.val) 1 v = true ∧ bit (leNat v) 0 = true ∧
    bit (s.reg 0xF000 2) l.val = true) ∧
  (∃ (s : State) (r : Route) (l : Link) (v : Bytes), s.passes r (linkObj l.val) 2 v = true ∧ s.linkState l.val ≠ 0) ∧
  (∃ (s : State) (r : Route) (l : Link) (v : Bytes), s.passes r (linkObj l.val) 3 v = true ∧ s.linkState l.val ≠ 0 ∧
    s.linkState l.val ≠ 8) :=
  ⟨⟨(linkAt 5), 3, (exArrives false 0x50 (modeBody 9 77)), ((modeBody 9 77)), by decide +kernel, by decide, by decide, by decide, by decide, by decide⟩,
   ⟨(linkAt 5 fun l => { l with txSwitch := some ⟨9, 9⟩ }), 3, (⟨9, 9⟩), by decide, by decide⟩,
   ⟨(linkAt 9 fun l => { l with txSwitch := some ⟨0, 5⟩ }), 3, (⟨0, 5⟩), by decide, by decide, by decide, by decide⟩,
   ⟨(linkAt 9 fun l => { l with rxSwitch := some ⟨0, 5⟩ }), 3, (⟨0, 5⟩), by decide, by decide, by decide⟩,
   ⟨((linkAt 0).setReg 0x3003 1 2), .pf, 3, [3], by decide, by decide, by decide, by decide, by decide, by decide⟩,
   ⟨(linkAt 5 fun l => { l with said := [(2, [])] }), .pf, 3, [2], by decide, by decide, by decide, by decide, by decide⟩,
   ⟨(linkAt 5), .pf, 3, [1], by decide, by decide, by decide, by decide, by decide, by decide, by decide, by decide⟩,
   ⟨((linkAt 9).setReg 0x3003 1 1), .pf, 3, [3], by decide, by decide, by decide, by decide, by decide, by decide, by decide, by decide, by decide⟩,
   ⟨(linkAt 5), .pf, 3, [7], by decide, by decide, by decide, by decide, by decide, by decide, by decide⟩,
   ⟨(linkAt 5), .pf, 3, [11], by decide, by decide, by decide, by decide, by decide, by decide, by decide⟩,
   ⟨((linkAt 6).setReg 0x3003 1 11), .pf, 3, [3], by decide, by decide, by decide, by decide, by decide, by decide, by decide⟩,
   ⟨((linkAt 0).setReg 0xF000 2 8), .pf, 3, [3], by decide, by decide, by decide⟩,
   ⟨((linkAt 8).setReg 0x3003 6 5), .pf, 3, [1], by decide, by decide⟩,
   ⟨(linkAt 5), .pf, 3, [1], by decide, by decide, by decide⟩⟩
theorem test_meets_LinkTestsRun :
  (∃ (s : State) (r : Route) (l : Link) (v : Bytes), s.passes r (linkObj l.val) 0x0C v = true ∧ s.mayTest l.val (fld
    (leNat v) 31 28) = true) ∧
  (∃ (s : State) (r : Route) (l : Link) (v : Bytes), s.passes r (linkObj l.val) 0x0C v = true ∧ s.mayTest l.val (fld
    (leNat v) 31 28) = false) ∧
  (∃ (s : State) (l : Link) (x : Exch) (y : LinkTest) (b : Bytes), exBody (s.disparity.rx.contains l.val) x 0x40 =
    some b ∧ b.length = 14 ∧ y =
    { kind := leAt b 0 1, mask := leAt b 1 1, start := leAt b 2 8, spans := leAt b 10 4, mine := false, agreed := true }
    ∧ 1 ≤ y.kind ∧ y.kind ≤ 3 ∧ s.linkAny l.val keeps = true ∧ (s.link l.val).tests.any (fun z => z.onTx == y.onTx) =
    false) ∧
  (∃ (s : State) (l : Link) (x : Exch) (y : LinkTest) (b : Bytes), exBody (s.disparity.rx.contains l.val) x 0x40 =
    some b ∧ b.length = 14 ∧ y =
    { kind := leAt b 0 1, mask := leAt b 1 1, start := leAt b 2 8, spans := leAt b 10 4, mine := false, agreed := true }
    ∧ 1 ≤ y.kind ∧ y.kind ≤ 3 ∧ s.linkAny l.val keeps = true ∧ (s.link l.val).tests.contains y = false ∧ (s.link
    l.val).tests.any (fun z => z.onTx == y.onTx) = true) ∧
  (∃ (s : State) (l : Link) (x : Exch) (y : LinkTest) (b : Bytes), exBody (s.disparity.rx.contains l.val) x 0x41 =
    some b ∧ b.length = 2 ∧ leNat b = 0 ∧ (s.link l.val).tests = [y] ∧ y.mine = true ∧ y.agreed = false ∧ s.linkAny
    l.val (fun st => !isDown st) = true) ∧
  (∃ (s : State) (l : Link) (x : Exch) (y : LinkTest) (b : Bytes), exBody (s.disparity.rx.contains l.val) x 0x41 =
    some b ∧ b.length = 2 ∧ leNat b ≠ 0 ∧ (s.link l.val).tests = [y] ∧ y.mine = true ∧ y.agreed = false ∧ s.linkAny
    l.val (fun st => !isDown st) = true) ∧
  (∃ (s : State) (l : Link) (x : Exch) (b : Bytes), exBody (s.disparity.rx.contains l.val) x 0x43 = some b ∧ b.length
    = 88 ∧ 1 ≤ (s.link l.val).minor ∧ s.linkAny l.val (fun st => !isDown st) = true) ∧
  (∃ (s : State) (p : Port) (i : IngressLine) (c : LaneCounts) (y : LinkTest), p.val < 48 ∧ (s.port p.val).rx ≠ 6 ∧
    (s.link (linkOf p.val)).tests = [y] ∧ y.agreed = true ∧ y.onTx = false ∧ y.start ≤ s.clock.span ∧ s.clock.span <
    y.start + y.spans ∧ i.grain.vc = 7 ∧ i.grain.legal = true) ∧
  (∃ (s : State) (p : Port) (i : IngressLine) (c : LaneCounts), (s.port p.val).rx ≠ 6 ∧ ((s.link (linkOf
    p.val)).tests.any (fun y => s.holdsNow y false) = false ∨ i.grain.vc ≠ 7 ∨ i.grain.legal = false)) ∧
  (∃ (s : State) (p : Port) (i : IngressLine) (c : LaneCounts), p.val < 48 ∧ (s.port p.val).rx = 6) ∧
  (∃ (s : State) (l : Link) (tx : Bool) (c : LaneCounts) (y : LinkTest), (s.link l.val).tests = [y] ∧ s.clock.span <
    y.start + y.spans) ∧
  (∃ (s : State) (l : Link) (c : LaneCounts) (y : LinkTest), (s.link l.val).tests = [y] ∧ y.agreed = true ∧ y.onTx =
    true ∧ y.mine = true ∧ y.start + y.spans ≤ s.clock.span) ∧
  (∃ (s : State) (l : Link) (c : LaneCounts) (y : LinkTest), (s.link l.val).tests = [y] ∧ y.agreed = true ∧ y.onTx =
    false ∧ y.mine = false ∧ y.start + y.spans ≤ s.clock.span ∧ 1 ≤ (s.link l.val).minor) :=
  ⟨⟨({ linkAt 5 with sched := { up.sched with activateAt := 9, active := some { maps := [{ port := 6, egress := true, slots := [(2, 0)] }] } } }), .pf, 3, (natLe 4 (put 1 31 28 + put 3 27 20 + 5)), by decide, by decide⟩,
   ⟨(linkAt 1), .pf, 3, (natLe 4 (put 1 31 28 + put 3 27 20 + 5)), by decide, by decide⟩,
   ⟨(linkAt 5), 3, (exArrives false 0x40 (natLe 1 1 ++ natLe 1 3 ++ natLe 8 2 ++ natLe 4 5)), ({ kind := 1, mask := 3, start := 2, spans := 5, mine := false, agreed := true }), ((natLe 1 1 ++ natLe 1 3 ++ natLe 8 2 ++ natLe 4 5)), by decide +kernel, by decide, by decide, by decide, by decide, by decide, by decide⟩,
   ⟨(linkAt 5 fun l => { l with tests := [{ kind := 1, mask := 9, start := 2, spans := 5, mine := false, agreed := true }] }), 3, (exArrives false 0x40 (natLe 1 1 ++ natLe 1 3 ++ natLe 8 2 ++ natLe 4 5)), ({ kind := 1, mask := 3, start := 2, spans := 5, mine := false, agreed := true }), ((natLe 1 1 ++ natLe 1 3 ++ natLe 8 2 ++ natLe 4 5)), by decide +kernel, by decide, by decide, by decide, by decide, by decide, by decide, by decide⟩,
   ⟨(linkAt 5 fun l => { l with tests := [{ kind := 1, mask := 9, start := 2, spans := 5 }] }), 3, (exArrives false 0x41 [0, 0]), ({ kind := 1, mask := 9, start := 2, spans := 5 }), ([0, 0]), by decide +kernel, by decide, by decide, by decide, by decide, by decide, by decide⟩,
   ⟨(linkAt 5 fun l => { l with tests := [{ kind := 1, mask := 9, start := 2, spans := 5 }] }), 3, (exArrives false 0x41 [5, 0]), ({ kind := 1, mask := 9, start := 2, spans := 5 }), ([5, 0]), by decide +kernel, by decide, by decide, by decide, by decide, by decide, by decide⟩,
   ⟨(linkAt 5 fun l => { l with minor := 1 }), 3, (exArrives false 0x43 ((List.range 88).map fun i => BitVec.ofNat 8 i)), (((List.range 88).map fun i => BitVec.ofNat 8 i)), by decide +kernel, by decide, by decide, by decide⟩,
   ⟨(linkAt 5 fun l => { l with tests := [{ kind := 1, mask := 5, start := 0, spans := 5, mine := false, agreed := true }] }), 6, ({ grain := { vc := 7, body := BitVec.ofNat 112 (put 5 111 104) }, noise := [{ lane := 2, start := 30, wrong := 6 }] }), {}, ({ kind := 1, mask := 5, start := 0, spans := 5, mine := false, agreed := true }), by decide, by decide, by decide, by decide, by decide, by decide, by decide, by decide, by decide⟩,
   ⟨(linkAt 5), 6, ({ grain := {} }), {}, by decide, by decide⟩,
   ⟨(linkAt 6), 6, ({ grain := {} }), ({ errors := [1, 2, 3], bits := 100, left := 7 }), by decide, by decide⟩,
   ⟨(linkAt 5 fun l => { l with tests := [{ kind := 1, mask := 5, start := 0, spans := 5, mine := false, agreed := true }] }), 3, true, {}, ({ kind := 1, mask := 5, start := 0, spans := 5, mine := false, agreed := true }), by decide, by decide⟩,
   ⟨(linkAt 5 fun l => { l with tests := [{ kind := 1, mask := 5, start := 0, spans := 0, agreed := true }] }), 3, {}, ({ kind := 1, mask := 5, start := 0, spans := 0, agreed := true }), by decide, by decide, by decide, by decide, by decide⟩,
   ⟨(linkAt 5 fun l => { l with minor := 1, tests := [{ kind := 1, mask := 5, start := 0, spans := 0, mine := false, agreed := true }] }), 3, {}, ({ kind := 1, mask := 5, start := 0, spans := 0, mine := false, agreed := true }), by decide, by decide, by decide, by decide, by decide, by decide⟩⟩
theorem test_meets_LinkSessions :
  (∃ (s : State) (l : Link) (x : Exch) (a : Agreement) (b : Bytes), exBody (s.disparity.rx.contains l.val) x 0x10 =
    some b ∧ s.linkState l.val = 4 ∧ (s.link l.val).split ≠ some true ∧ (s.link l.val).agree = some a ∧ a.rekey =
    false ∧ a.peerOffer ≠ b ∧ a.peerResponse = [] ∧ s.coreStop 0 = none ∧ s.randomFailed = false) ∧
  (∃ (s : State) (l : Link) (x : Exch) (a : Agreement) (b : Bytes), exBody (s.disparity.rx.contains l.val) x 0x10 =
    some b ∧ s.linkState l.val = 4 ∧ (s.link l.val).agree = some a ∧ a.peerOffer = b ∧ a.ownResponse ≠ [] ∧ s.coreStop
    0 = none) ∧
  (∃ (s : State) (l : Link) (x : Exch) (a : Agreement) (b : Bytes), exBody (s.disparity.rx.contains l.val) x 0x11 =
    some b ∧ s.linkState l.val = 4 ∧ (s.link l.val).agree = some a ∧ a.rekey = false ∧ a.ownOffer ≠ [] ∧
    a.peerResponse = [] ∧ a.ownResponse = [] ∧ s.coreStop 0 = none) ∧
  (∃ (s : State) (l : Link) (x : Exch) (a : Agreement) (k : Session) (b : Bytes), exBody (s.disparity.rx.contains
    l.val) x 0x12 = some b ∧ s.linkState l.val = 4 ∧ (s.link l.val).agree = some a ∧ a.rekey = false ∧ a.confirmSent =
    true ∧ a.confirmGot = false ∧ a.keys = some k ∧ s.coreStop 0 = none) ∧
  (∃ (s : State) (r : Route) (l : Link) (v : Bytes), s.passes r (0x9040 + l.val) 5 v = true ∧ s.linkAny l.val
    holdsKeys = true ∧ (s.link l.val).agree = none ∧ (s.link l.val).session ≠ none ∧ s.randomFailed = false ∧
    s.coreStop 0 = none) ∧
  (∃ (s : State) (r : Route) (l : Link) (v : Bytes), s.passes r (0x9040 + l.val) 5 v = true ∧ s.linkAny l.val
    holdsKeys = false) ∧
  (∃ (s : State) (l : Link), s.linkAny l.val holdsKeys = true ∧ (s.link l.val).agree = none ∧ (s.link l.val).session ≠
    none ∧ s.coreStop 0 = none ∧ s.randomFailed = false) ∧
  (∃ (s : State) (l : Link), s.linkAny l.val holdsKeys = true ∧ (s.link l.val).agree = none ∧ (s.link l.val).session ≠
    none ∧ (s.link l.val).retry = true ∧ s.coreStop 0 = none ∧ s.randomFailed = false) ∧
  (∃ (s : State) (l : Link), (s.link l.val).retry = false) ∧
  (∃ (s : State) (l : Link) (a : Agreement) (k new : Session) (span : Nat), (s.link l.val).agree = some a ∧ (s.link
    l.val).session = some k ∧ a.keys = some new ∧ a.txSpan = some span ∧ span ≤ s.clock.span) ∧
  (∃ (s : State) (l : Link) (a : Agreement) (k new : Session) (span : Nat), (s.link l.val).agree = some a ∧ (s.link
    l.val).session = some k ∧ a.keys = some new ∧ a.txSpan = some span ∧ s.clock.span < span) ∧
  (∃ (s : State) (l : Link), s.linkState l.val = 5 ∧ (s.link l.val).split ≠ some true) ∧
  (∃ (s : State) (l : Link), s.linkAny l.val holdsKeys = false) :=
  ⟨⟨(linkAt 4 fun l => { l with agree := some { ownOffer := [7] } }), 3, (exArrives false 0x10 [1, 2]), ({ ownOffer := [7] }), ([1, 2]), by decide +kernel, by decide, by decide, by decide, by decide, by decide, by decide, by decide, by decide⟩,
   ⟨(linkAt 4 fun l => { l with agree := some { ownOffer := [7], peerOffer := [1, 2], ownResponse := [5] } }), 3, (exArrives false 0x10 [1, 2]), ({ ownOffer := [7], peerOffer := [1, 2], ownResponse := [5] }), ([1, 2]), by decide +kernel, by decide, by decide, by decide, by decide, by decide⟩,
   ⟨(linkAt 4 fun l => { l with agree := some { ownOffer := [7], peerOffer := [8] } }), 3, (exArrives false 0x11 [1, 2]), ({ ownOffer := [7], peerOffer := [8] }), ([1, 2]), by decide +kernel, by decide, by decide, by decide, by decide, by decide, by decide, by decide⟩,
   ⟨(linkAt 4 fun l => { l with agree := some { confirmSent := true, keys := some { keyTx := 5 } } }), 3, (exArrives false 0x12 ([1, 2])), ({ confirmSent := true, keys := some { keyTx := 5 } }), ({ keyTx := 5 }), (([1, 2])), by decide +kernel, by decide, by decide, by decide, by decide, by decide, by decide, by decide⟩,
   ⟨(linkAt 5 fun l => { l with session := some {} }), .pf, 3, [1], by decide, by decide, by decide, by decide, by decide, by decide⟩,
   ⟨(linkAt 1), .pf, 3, [1], by decide, by decide⟩,
   ⟨(linkAt 5 fun l => { l with session := some {} }), 3, by decide, by decide, by decide, by decide, by decide⟩,
   ⟨(linkAt 5 fun l => { l with session := some {}, retry := true }), 3, by decide, by decide, by decide, by decide, by decide, by decide⟩,
   ⟨(linkAt 5), 3, by decide⟩,
   ⟨({ (linkAt 5 fun l => { l with session := some {}, agree := some { rekey := true, keys := some { keyTx := 5 }, txSpan := some 0 } }) with ports := [(6, { state := 5, rx := 5, txCount := 9 })] }), 3, ({ rekey := true, keys := some { keyTx := 5 }, txSpan := some 0 }), {}, ({ keyTx := 5 }), 0, by decide, by decide, by decide, by decide, by decide⟩,
   ⟨({ (linkAt 5 fun l => { l with session := some {}, agree := some { rekey := true, keys := some { keyTx := 5 }, txSpan := some 7 } }) with ports := [(6, { state := 5, rx := 5, txCount := 9 })] }), 3, ({ rekey := true, keys := some { keyTx := 5 }, txSpan := some 7 }), {}, ({ keyTx := 5 }), 7, by decide, by decide, by decide, by decide, by decide⟩,
   ⟨(linkAt 5 fun l => { l with session := some {} }), 3, by decide, by decide⟩,
   ⟨(linkAt 4), 3, by decide⟩⟩
theorem test_meets_RefreshAndPatrol :
  (∃ (s : State), s.onTimer = false) ∧
  (∃ (s : State), s.onTimer = true) ∧
  (∃ (s : State), s.onTimer = true) ∧
  (∃ (s : State), s.onTimer = false) ∧
  (∃ (s : State) (evs : List MemEv), s.refresh.running = true) ∧
  (∃ (s : State) (evs : List MemEv), s.refresh.running = false) ∧
  (∃ (s : State) (half : Fin 2) (ev : MemEv), half.val ∈ s.halves) ∧
  (∃ (s : State) (half : Fin 2) (ev : MemEv), half.val ∉ s.halves) ∧
  (∃ (s : State) (k : Fin 4) (reading : Nat), k.val ∈ s.stacks ∧ k.val ∉ s.refresh.hot ∧ 85 < reading) ∧
  (∃ (s : State) (k : Fin 4) (reading : Nat), k.val ∈ s.refresh.hot ∧ reading ≤ 83) ∧
  (∃ (s : State) (k : Fin 4), k.val ∈ s.refresh.hot) ∧
  (∃ (s : State) (k : Fin 4), k.val ∉ s.refresh.hot) :=
  ⟨⟨({ up with sched := { up.sched with active := some {} }, clock := { up.clock with timedRefresh := false } }), by decide⟩,
   ⟨({ up with clock := { up.clock with align := 1 } }), by decide⟩,
   ⟨({ up with clock := { up.clock with align := 1 } }), by decide⟩,
   ⟨({ up with clock := { up.clock with timedRefresh := false } }), by decide⟩,
   ⟨({ homed with refresh := { running := true, window := true, patrol := [(1, 36 * 2 ^ 24 - 4)] }, ep := { homed.ep with home := { homed.ep.home with held := [(req 0 0 0 1 0, {})] } } }), ([{ bad := [3] }]), by decide⟩,
   ⟨up, [], by decide⟩,
   ⟨up, 1, ({ corrected := [2], bad := [5] }), by decide⟩,
   ⟨(up.setReg 0x1020 4 128), 1, {}, by decide⟩,
   ⟨up, 2, 86, by decide, by decide, by decide⟩,
   ⟨({ up with refresh := { up.refresh with hot := [1, 2] } }), 2, 83, by decide, by decide⟩,
   ⟨({ up with refresh := { up.refresh with hot := [1, 2] } }), 2, by decide⟩,
   ⟨up, 2, by decide⟩⟩
theorem test_meets_RingsAndDoorbells :
  (∃ (s : State) (f : Fn), s.fnOffered f.val = true ∧ (s.fn f.val).enable = false ∧ (s.fn f.val).ringOk = true ∧ (s.fn
    f.val).state = 0 ∧ (s.fn f.val).posts = []) ∧
  (∃ (s : State) (f : Fn) (id status result detail : Nat) (second : Bool), s.fnOffered f.val = true ∧ (s.fn
    f.val).enable = false ∧ (s.fn f.val).ringOk = true ∧ (s.fn f.val).state = 2 ∧ (s.fn f.val).error ≠ 0 ∧ (s.fn
    f.val).posts = [(id, status, result, detail, second)]) ∧
  (∃ (s : State) (f : Fn), (s.fnOffered f.val = false ∨ (s.fn f.val).enable = true ∨ (s.fn f.val).ringOk = false)) ∧
  (∃ (s : State) (f : Fn), s.fnOffered f.val = true ∧ (s.fn f.val).enable = true) ∧
  (∃ (s : State) (f : Fn) (v : BitVec 32), s.fnOffered f.val = true ∧ (s.fn f.val).state = 1) ∧
  (∃ (s : State) (f : Fn) (v : BitVec 32), s.fnOffered f.val = true ∧ (s.fn f.val).state = 1) ∧
  (∃ (s : State) (f : Fn) (v : BitVec 32), (s.fn f.val).state ≠ 1) ∧
  (∃ (s : State) (f : Fn) (v : BitVec 32), (s.fn f.val).state ≠ 1) ∧
  (∃ (s : State) (f : Fn) (data : Bytes), s.fnOffered f.val = true ∧ data.length = 8 ∧ (s.fn f.val).state = 0) ∧
  (∃ (s : State) (f : Fn) (data : Bytes), s.fnOffered f.val = true ∧ data.length = 8 ∧ (s.fn f.val).state ≠ 0) ∧
  (∃ (s : State) (f : Fn) (data : Bytes), s.fnOffered f.val = true ∧ data.length = 4 ∧ (s.fn f.val).state = 1 ∧ leNat
    data < (s.fn f.val).sqSize) ∧
  (∃ (s : State) (f : Fn) (data : Bytes) (a : Fin 16), s.fnOffered f.val = true ∧ data.length = 64) ∧
  (∃ (s : State) (f : Fn) (v : Fin 64), s.fnOffered f.val = true ∧ (f.val = 0 ∨ v.val < 31) ∧ v.val ∈ (s.fn
    f.val).pendingVec) ∧
  (∃ (s : State) (f : Fn) (v : Fin 64), s.fnOffered f.val = true ∧ (f.val = 0 ∨ v.val < 31) ∧ v.val ∉ (s.fn
    f.val).pendingVec) ∧
  (∃ (s : State) (f : Nat) (b : BitVec 512), s.nextRing = some f ∧ ({ bits := b } : RingCmd).opcode ≤ 7 ∧
    (({ bits := b } : RingCmd).opcode ≠ 6 ∨ 2 ≤ (s.fn f).room)) ∧
  (∃ (s : State) (f : Nat) (b : BitVec 512), s.nextRing = some f ∧ 7 < ({ bits := b } : RingCmd).opcode ∧ (s.fn
    f).posts = [] ∧ (s.fn f).cmds = [] ∧ (s.fn f).orphans = []) ∧
  (∃ (s : State) (f : Nat), s.nextRing = some f) ∧
  (∃ (s : State) (b : Option (BitVec 512)), s.nextRing = none) :=
  ⟨⟨(hosted { ringWit with enable := false, state := 0 }), 4, by decide, by decide, by decide, by decide, by decide⟩,
   ⟨(hosted { ringWit with enable := false, state := 2, error := 1, posts := [(7, 0x403, 5, 0, false)], cmds := [{ bits := cmdOf 0 7 0 0 0 }] }), 4, 7, 0x403, 5, 0, false, by decide, by decide, by decide, by decide, by decide, by decide⟩,
   ⟨(hosted { ringWit with enable := false, state := 0, cqBase := 0x2010 }), 4, by decide⟩,
   ⟨(ringed (cmdOf 0 7 0 0 0)), 4, by decide, by decide⟩,
   ⟨(ringed (cmdOf 0 7 0 0 0)), 4, 16, by decide, by decide⟩,
   ⟨(ringed (cmdOf 0 7 0 0 0)), 4, 4, by decide, by decide⟩,
   ⟨up, 4, 4, by decide⟩,
   ⟨up, 4, 4, by decide⟩,
   ⟨(hosted { cqSize := 16 }), 4, ([0, 0x10, 0, 0, 0, 0, 0, 0x80]), by decide, by decide, by decide⟩,
   ⟨(ringed (cmdOf 0 7 0 0 0)), 4, ([0, 0x10, 0, 0, 0, 0, 0, 0x80]), by decide, by decide, by decide⟩,
   ⟨(ringed (cmdOf 0 7 0 0 0)), 4, ([9, 0, 0, 0]), by decide, by decide, by decide, by decide⟩,
   ⟨(ringed (cmdOf 0 7 0 0 0)), 4, (natLe 64 (7 + put 20 37 24)), 3, by decide, by decide⟩,
   ⟨(hosted { ringWit with pendingVec := [2, 5] }), 4, 5, by decide, by decide, by decide⟩,
   ⟨(hosted { ringWit with pendingVec := [2] }), 4, 5, by decide, by decide, by decide⟩,
   ⟨(ringed (cmdOf 0 7 0 0 0)), 4, (cmdOf 6 8 128 0x4000 0), by decide, by decide, by decide⟩,
   ⟨(hosted ringWit), 4, (cmdOf 8 9 128 0x4000 0), by decide, by decide, by decide, by decide⟩,
   ⟨(ringed (cmdOf 0 7 0 0 0)), 4, by decide⟩,
   ⟨up, none, by decide⟩⟩
theorem test_meets_RingCommands :
  (∃ (s : State) (f : Fn) (c : RingCmd), s.starts f.val 0 c) ∧
  (∃ (s : State) (f : Fn), (s.nextCmd f.val).all (fun p => p.1.opcode != 0 && decide (p.1.opcode ≤ 7)) = true) ∧
  (∃ (s : State) (f : Fn) (c : RingCmd) (st : Nat), s.nextCmd f.val = some (c, c.id) ∧ c.opcode = 0 ∧ s.cmdRefused
    f.val c = some st ∧ (s.fn f.val).waits c.id false = true ∧ (s.fn f.val).holds = false) ∧
  (∃ (s : State) (f : Fn) (c : RingCmd), s.starts f.val 1 c ∧ s.readable (fnRoute f) (c.operand 143 128) (c.operand
    151 144) = true ∧ plainRead (c.operand 143 128) (c.operand 151 144) = true ∧ (s.shown (c.operand 143 128)
    (c.operand 151 144)).length ≤ c.len) ∧
  (∃ (s : State) (f : Fn) (c : RingCmd), s.starts f.val 1 c ∧ s.readable (fnRoute f) (c.operand 143 128) (c.operand
    151 144) = true ∧ plainRead (c.operand 143 128) (c.operand 151 144) = true ∧ c.len < (s.shown (c.operand 143 128)
    (c.operand 151 144)).length) ∧
  (∃ (s : State) (f : Fn) (c : RingCmd), s.starts f.val 1 c ∧ s.readable (fnRoute f) (c.operand 143 128) (c.operand
    151 144) = true ∧ plainRead (c.operand 143 128) (c.operand 151 144) = true ∧ (s.shown (c.operand 143 128)
    (c.operand 151 144)).length ≤ c.len ∧ (s.fn f.val).state = 1) ∧
  (∃ (s : State) (f : Fn) (c : RingCmd) (data : Bytes), s.starts f.val 2 c ∧ (c.operand 143 128, c.operand 151 144) ∈
    plainCells ∧ c.len ≤ data.length ∧ s.passes (fnRoute f) (c.operand 143 128) (c.operand 151 144) (data.take c.len)
    = true ∧ s.clock.running = true ∧ s.boot.startDue = none) ∧
  (∃ (s : State) (f : Fn) (c : RingCmd) (data : Bytes) (st : Nat), s.starts f.val 2 c ∧ c.len ≤ data.length ∧
    s.receiver (fnRoute f) = none ∧ s.check (fnRoute f) (c.operand 143 128) (c.operand 151 144) true (data.take c.len)
    = some st ∧ s.clock.running = true ∧ s.boot.startDue = none) ∧
  (∃ (s : State) (f : Fn) (c : RingCmd), s.starts f.val 3 c ∧ (c.operand 192 192 = 0 ∨ (s.queryToken f.val 0
    (c.operand 191 128) false).1 ≠ St.stepPending)) ∧
  (∃ (s : State) (f : Fn) (c : RingCmd), s.starts f.val 3 c ∧ c.operand 192 192 = 1 ∧ (s.queryToken f.val 0 (c.operand
    191 128) false).1 = St.stepPending) ∧
  (∃ (s : State) (f : Fn) (c : RingCmd) (data : Bytes), s.starts f.val 4 c ∧ c.len ≤ data.length) ∧
  (∃ (s : State) (f : Fn) (c : RingCmd), s.starts f.val 5 c) ∧
  (∃ (s : State) (f : Fn) (x : Transfer), s.ep.transfers.find? (fun t => t.fn == f.val && t.answered && (t.req.kind ==
    6 || t.req.kind == 7)) = some x ∧ (s.fn f.val).waits x.req.cmd false = true ∧ (s.fn f.val).holds = false ∧ x.fails
    = []) ∧
  (∃ (s : State) (f : Fn) (written : Bool), s.ep.transfers.find? (fun t => t.fn == f.val && t.answered && (t.req.kind
    == 6 || t.req.kind == 7)) = none) ∧
  (∃ (s : State) (f : Fn) (c : RingCmd), s.starts f.val 7 c ∧ s.cancelled (c.operand 135 128) (c.operand 199 136) =
    none) ∧
  (∃ (s : State) (f : Fn) (c : RingCmd) (x : Context), s.starts f.val 7 c ∧ s.cancelled (c.operand 135 128) (c.operand
    199 136) = some x ∧ dIssuer x.desc = s.ownEp ∧ x.state = 2 ∧ x.ring = none ∧ s.ep.ended = []) ∧
  (∃ (s : State) (f : Fn) (c : RingCmd) (x : Context), s.starts f.val 7 c ∧ s.cancelled (c.operand 135 128) (c.operand
    199 136) = some x ∧ dIssuer x.desc ≠ s.ownEp) ∧
  (∃ (s : State) (f : Fn) (c : RingCmd) (data : Bytes) (d : Desc) (r : Roster), s.starts f.val 6 c ∧ d = descOf
    (data.take c.len) ∧ c.len ≤ data.length ∧ s.reg 0x1020 1 ≠ 0 ∧ s.fnPart f.val = dPart d ∧ (s.rosterOf d).getD {} =
    r ∧ r.devices = [(s.ownEp, 0x7FF)] ∧ s.prepareCheck d = (0, 0, r, 0) ∧ s.clock.span + 1 < dFirst d ∧ dFirst d ≤
    s.clock.span + 32767 ∧ s.ep.ended = []) ∧
  (∃ (s : State) (f : Fn) (c : RingCmd) (data : Bytes) (d : Desc) (st detail : Nat) (x : Roster × Nat), s.starts f.val
    6 c ∧ d = descOf (data.take c.len) ∧ c.len ≤ data.length ∧ s.reg 0x1020 1 ≠ 0 ∧ s.fnPart f.val = dPart d ∧
    ((s.rosterOf d).getD {}).device s.ownEp = some 0 ∧ s.prepareCheck d = (st, detail, x.1, x.2) ∧ st ≠ 0 ∧ dFirst d ≤
    s.clock.span + 32767 ∧ s.ep.ended = []) :=
  ⟨⟨(ringed (cmdOf 0 7 0 0 0)), 4, ({ bits := cmdOf 0 7 0 0 0 }), by decide⟩,
   ⟨up, 4, by decide⟩,
   ⟨(ringed (cmdOf 0 7 1 0 0)), 4, ({ bits := cmdOf 0 7 1 0 0 }), St.bounds, by decide, by decide, by decide, by decide, by decide⟩,
   ⟨(ringed (cmdOf 1 7 8 0x4000 (put 0x1000 15 0 + put 9 23 16))), 4, ({ bits := cmdOf 1 7 8 0x4000 (put 0x1000 15 0 + put 9 23 16) }), by decide, by decide, by decide, by decide⟩,
   ⟨(ringed (cmdOf 1 7 1 0x4000 (put 0x1000 15 0 + put 9 23 16))), 4, ({ bits := cmdOf 1 7 1 0x4000 (put 0x1000 15 0 + put 9 23 16) }), by decide, by decide, by decide, by decide⟩,
   ⟨(ringed (cmdOf 1 7 8 0x4000 (put 0x1000 15 0 + put 9 23 16))), 4, ({ bits := cmdOf 1 7 8 0x4000 (put 0x1000 15 0 + put 9 23 16) }), by decide, by decide, by decide, by decide, by decide⟩,
   ⟨({ ringed (cmdOf 2 7 1 0x4000 (put 0x8300 15 0 + put 2 23 16)) with host := { (ringed (cmdOf 2 7 1 0x4000 (put 0x8300 15 0 + put 2 23 16))).host with fns := [(0, { ringWit with cmds := [{ bits := cmdOf 2 7 1 0x4000 (put 0x8300 15 0 + put 2 23 16) }] })] } }), 0, ({ bits := cmdOf 2 7 1 0x4000 (put 0x8300 15 0 + put 2 23 16) }), ([12, 9]), by decide, by decide, by decide, by decide, by decide, by decide⟩,
   ⟨(ringed (cmdOf 2 7 1 0x4000 (put 0x8300 15 0 + put 2 23 16))), 4, ({ bits := cmdOf 2 7 1 0x4000 (put 0x8300 15 0 + put 2 23 16) }), ([12, 9]), St.contextDenied, by decide, by decide, by decide, by decide, by decide, by decide⟩,
   ⟨({ ringed (cmdOf 3 7 0 0 (put 9 31 0 + put 4 39 32 + put 0x6010 55 40 + put 4 63 56)) with tokens := [(4, { next := 10, held := [{ serial := 9, idx := 0x6010, sub := 4, part := 3 }] })] }), 4, ({ bits := cmdOf 3 7 0 0 (put 9 31 0 + put 4 39 32 + put 0x6010 55 40 + put 4 63 56) }), by decide, by decide⟩,
   ⟨({ ringed (cmdOf 3 7 0 0 (put 9 31 0 + put 4 39 32 + put 0x6010 55 40 + put 4 63 56 + 2 ^ 64)) with tokens := [(4, { next := 10, held := [{ serial := 9, idx := 0x6010, sub := 4, part := 3 }] })] }), 4, ({ bits := cmdOf 3 7 0 0 (put 9 31 0 + put 4 39 32 + put 0x6010 55 40 + put 4 63 56 + 2 ^ 64) }), by decide, by decide, by decide⟩,
   ⟨(ringed (cmdOf 4 7 3 0x4000 (put 20 13 0 + put 5 34 14 + put 64 71 35 + put 7 103 72 + put 9 113 104))), 4, ({ bits := cmdOf 4 7 3 0x4000 (put 20 13 0 + put 5 34 14 + put 64 71 35 + put 7 103 72 + put 9 113 104) }), ([1, 2, 3, 4]), by decide, by decide⟩,
   ⟨(ringed (cmdOf 5 7 3 0x4000 (put 20 13 0 + put 5 34 14 + put 64 71 35 + put 7 103 72 + put 9 113 104))), 4, ({ bits := cmdOf 5 7 3 0x4000 (put 20 13 0 + put 5 34 14 + put 64 71 35 + put 7 103 72 + put 9 113 104) }), by decide⟩,
   ⟨({ ringed (cmdOf 5 7 3 0x4000 0) with ep := { homed.ep with transfers := [{ req := { id := 1, kind := 7, cmd := 7, addr := 0x4000, len := 3 }, fn := 4, got := [(0, [1, 2, 3])], answered := true }] } }), 4, ({ req := { id := 1, kind := 7, cmd := 7, addr := 0x4000, len := 3 }, fn := 4, got := [(0, [1, 2, 3])], answered := true }), by decide, by decide, by decide, by decide⟩,
   ⟨up, 4, true, by decide⟩,
   ⟨(ringed (cmdOf 7 7 0 0 (put 4 7 0 + put 5 71 8))), 4, ({ bits := cmdOf 7 7 0 0 (put 4 7 0 + put 5 71 8) }), by decide, by decide +kernel⟩,
   ⟨({ ringed (cmdOf 7 7 0 0 (put 4 7 0 + put 5 71 8)) with board := (boardedC fun c => { c with desc := descPlus (put 10180 331 318) }).board, sched := boarded.sched }), 4, ({ bits := cmdOf 7 7 0 0 (put 4 7 0 + put 5 71 8) }), ({ boarded.ctx 4 with desc := descPlus (put 10180 331 318) }), by decide, by decide +kernel, by decide, by decide, by decide, by decide⟩,
   ⟨({ ringed (cmdOf 7 7 0 0 (put 4 7 0 + put 5 71 8)) with board := boarded.board }), 4, ({ bits := cmdOf 7 7 0 0 (put 4 7 0 + put 5 71 8) }), (boarded.ctx 4), by decide, by decide +kernel, by decide⟩,
   ⟨({ (admitting [(200, 0x7FF)]).setReg 0x1030 6 127 with host := (ringed (cmdOf 6 7 128 0x4000 0)).host }), 4, ({ bits := cmdOf 6 7 128 0x4000 0 }), (natLe 128 descWit.toNat), descWit, ({ rosterWit with devices := [(200, 0x7FF)] }), by decide, by decide, by decide, by decide, by decide, by decide, by decide, by decide, by decide, by decide, by decide⟩,
   ⟨({ (admitting [(200, 0x7FF)]).setReg 0x1030 6 127 with host := (ringed (cmdOf 6 7 128 0x4000 0)).host }), 4, ({ bits := cmdOf 6 7 128 0x4000 0 }), (natLe 128 (descPlus (put 1 7 0)).toNat), (descPlus (put 1 7 0)), St.featureAbsent, 0, (({}, 0)), by decide, by decide, by decide, by decide, by decide, by decide, by decide, by decide, by decide, by decide⟩⟩
theorem test_meets_HostLink :
  (∃ (s : State) (rate : BitVec 8) (width : Fin 3), s.hostLight = true ∧ s.boot.phase ≠ .off ∧ s.boot.phase ≠
    .inReset) ∧
  (∃ (s : State) (rate : BitVec 8) (width : Fin 3), (s.hostLight = false ∨ s.boot.phase = .off ∨ s.boot.phase =
    .inReset)) ∧
  (∃ (s : State) (kind : Fin 3), s.host.up = true) ∧
  (∃ (s : State) (kind : Fin 3), s.host.up = false ∧ kind.val ≠ 2) ∧
  (∃ (s : State) (n : Fin 65), s.host.up = true ∧ n.val ≤ s.totalVfs) ∧
  (∃ (s : State) (n : Fin 65), (s.host.up = false ∨ s.totalVfs < n.val)) :=
  ⟨⟨up, 6, 1, by decide, by decide, by decide⟩,
   ⟨({ up with host := { up.host with hot := true } }), 6, 1, by decide⟩,
   ⟨(ringed (cmdOf 0 7 0 0 0)), 1, by decide⟩,
   ⟨up, 0, by decide, by decide⟩,
   ⟨(ringed (cmdOf 0 7 0 0 0)), 3, by decide, by decide⟩,
   ⟨up, 3, by decide⟩⟩
theorem test_meets_HostWindows :
  (∃ (s : State) (f : Fn) (idx : BitVec 16) (sub : BitVec 8), s.fnOffered f.val = true ∧ s.readable (fnRoute f)
    idx.toNat sub.toNat = true ∧ plainRead idx.toNat sub.toNat = true) ∧
  (∃ (s : State) (f : Fn) (idx : BitVec 16) (sub : BitVec 8) (st : Nat), s.fnOffered f.val = true ∧ s.receiver
    (fnRoute f) = none ∧ s.check (fnRoute f) idx.toNat sub.toNat false [] = some st) ∧
  (∃ (s : State) (f : Fn) (idx : BitVec 16) (sub : BitVec 8) (v : Bytes), s.fnOffered f.val = true ∧ (idx.toNat,
    sub.toNat) ∈ plainCells ∧ s.passes (fnRoute f) idx.toNat sub.toNat v = true ∧ s.clock.running = true ∧
    s.boot.startDue = none) ∧
  (∃ (s : State) (f : Fn) (off : BitVec 34) (len : BitVec 13), s.fnOffered f.val = true ∧ len ≠ 0 ∧ s.windowRefusal
    f.val off.toNat len.toNat false = 0) ∧
  (∃ (s : State) (f : Fn) (off : BitVec 34) (len : BitVec 13), s.fnOffered f.val = true ∧ len ≠ 0 ∧ s.windowRefusal
    f.val off.toNat len.toNat false = 3) ∧
  (∃ (s : State) (f : Fn) (off : BitVec 34) (data : Bytes), s.fnOffered f.val = true ∧ data ≠ [] ∧ s.windowRefusal
    f.val off.toNat data.length true = 0) ∧
  (∃ (s : State) (f : Fn) (off : BitVec 34) (data : Bytes), s.fnOffered f.val = true ∧ data ≠ [] ∧ s.windowRefusal
    f.val off.toNat data.length true = 1 ∧ (s.fn f.val).fences = []) ∧
  (∃ (s : State) (f : Fn) (off : BitVec 34) (op : Fin 3) (wide : Bool) (a b : BitVec 64), s.fnOffered f.val = true ∧
    s.windowRefusal f.val off.toNat (if wide then 8 else 4) true = 0) ∧
  (∃ (s : State) (f : Fn), s.fnOffered f.val = true ∧ (s.fn f.val).fences = [] ∧ s.ep.transfers.all (fun t => t.fn !=
    f.val || t.answered || (t.req.kind != 9 && t.req.kind != 10)) = true) ∧
  (∃ (s : State) (f : Fn), s.fnOffered f.val = true ∧ s.ep.transfers.any (fun t => t.fn == f.val && !t.answered &&
    (t.req.kind == 9 || t.req.kind == 10)) = true ∧ (s.fn f.val).fences = []) :=
  ⟨⟨windowed, 4, 0x1000, 9, by decide, by decide, by decide⟩,
   ⟨windowed, 4, 0x1000, 77, St.objectUnknown, by decide, by decide, by decide⟩,
   ⟨windowed, 0, 0x8300, 4, [1], by decide, by decide, by decide, by decide, by decide⟩,
   ⟨windowed, 4, 0x40, 8, by decide, by decide, by decide⟩,
   ⟨(hosted { aps := [(0, BitVec.ofNat 512 (7 + put (2 ^ 37 - 32) 127 91))] }), 4, 0x40, 8, by decide, by decide, by decide⟩,
   ⟨windowed, 4, 0x40, ([1, 2, 3, 4]), by decide, by decide, by decide⟩,
   ⟨(windowed.setReg 0x1030 6 3), 4, 0x40, ([1, 2, 3, 4]), by decide, by decide, by decide, by decide⟩,
   ⟨windowed, 4, 0x40, 2, true, 5, 6, by decide, by decide⟩,
   ⟨windowed, 4, by decide, by decide, by decide⟩,
   ⟨({ windowed with ep := { windowed.ep with transfers := [{ req := { id := 3, kind := 9, len := 4 }, fn := 4, left := 1 }] } }), 4, by decide, by decide, by decide⟩⟩
theorem test_meets_ManagementPort :
  (∃ (s : State) (f : Frame), s.hears { f with v6 := false }) ∧
  (∃ (s : State) (f : Frame), s.hears { f with v6 := true }) ∧
  (∃ (s : State) (f : Frame), s.hears f) ∧
  (∃ (s : State) (f : Frame), (s.awake = false ∨ s.mgmt.port ≠ 3)) ∧
  (∃ (s : State) (f : Frame), s.awake = true ∧ s.mgmt.port = 3 ∧ (f.toMac = Config.mac ∨ f.toMac.toNat % 2 = 1) ∧
    f.odd = true) ∧
  (∃ (s : State) (state : Fin 4), s.awake = true ∧ (s.host.laser0 = true ∨ s.host.laser1 = true) ∧ s.host.hot = false) ∧
  (∃ (s : State) (state : Fin 4), (s.host.hot = true ∨ (s.host.laser0 = false ∧ s.host.laser1 = false))) ∧
  (∃ (s : State) (f : Frame) (q : DictMsg), s.hearsMessage f q 1 ∧ q.authOn = false ∧ s.readable .mgmtOpen q.idx q.sub
    = true ∧ plainRead q.idx q.sub = true ∧ s.boot.startDue = none) ∧
  (∃ (s : State) (f : Frame) (q : DictMsg) (st : Nat), s.hearsMessage f q 1 ∧ q.authOn = false ∧ s.receiver .mgmtOpen
    = none ∧ s.check .mgmtOpen q.idx q.sub false [] = some st ∧ st ≠ St.ok ∧ s.boot.startDue = none) ∧
  (∃ (s : State) (f : Frame) (q : DictMsg), s.hearsMessage f q 2 ∧ q.authOn = false ∧ s.receiver .mgmtOpen = none ∧
    s.mgmt.staging = [] ∧ q.offset = 0 ∧ q.last = true ∧ q.total = q.body.length ∧ s.check .mgmtOpen q.idx q.sub true
    q.body = some St.contextDenied ∧ s.clock.running = true ∧ s.boot.startDue = none) ∧
  (∃ (s u : State) (m : Msg) (q : DictMsg), m.kind = 1 ∧ m.target = 1 ∧ q = parseDict m.payload ∧ q.unlisted = false ∧
    q.kind = 2 ∧ 32 ≤ m.payload.length ∧ q.len = q.body.length ∧ q.len ≤ 4096 ∧ s.takeMsg .internal m .kept = (u,
    true) ∧ u.coreStop 2 = none ∧ u.mgmt.staging = [] ∧ q.offset = 0 ∧ q.last = true ∧ q.total = q.body.length ∧
    (q.idx, q.sub) ∈ plainCells ∧ u.passes (.vc6 ⟨m.part.toNat, m.part.isLt⟩ m.src) q.idx q.sub q.body = true ∧
    u.clock.running = true ∧ u.boot.startDue = none) ∧
  (∃ (s : State) (f : Frame) (q : DictMsg), s.hearsMessage f q 2 ∧ q.authOn = true ∧ s.sec.mgmtKey = none ∧
    s.boot.startDue = none) ∧
  (∃ (s : State) (f : Frame) (q : DictMsg), s.hearsMessage f q 3 ∧ q.authOn = false ∧ q.body.length = 8 ∧
    s.boot.startDue = none) ∧
  (∃ (s : State) (f : Frame) (q : DictMsg), s.hearsMessage f q 4 ∧ q.authOn = false ∧ s.receiver .mgmtOpen = none ∧
    s.checkName .mgmtOpen q.idx q.sub false 0 = none ∧ s.boot.startDue = none) :=
  ⟨⟨ported, (frameOf []), ⟨by decide, by decide, .inl rfl, by decide, by decide, by decide, by decide⟩⟩,
   ⟨({ ported with boot := { ported.boot with config := [(regKey 0x2040 3, 77)] } }), ({ frameOf [] with dst := 77 }), ⟨by decide, by decide, .inl rfl, by decide, by decide, by decide, Bool.or_eq_true _ _ |>.mpr (.inr (by decide))⟩⟩,
   ⟨ported, (frameOf [1, 2, 3]), ⟨by decide, by decide, .inl rfl, by decide, by decide, by decide, by decide⟩⟩,
   ⟨up, (frameOf [1, 2, 3]), by decide⟩,
   ⟨ported, ({ frameOf [1, 2, 3] with odd := true }), by decide, by decide, .inl rfl, by decide⟩,
   ⟨up, 3, by decide, by decide, by decide⟩,
   ⟨({ up with host := { up.host with hot := true } }), 3, by decide⟩,
   ⟨ported, (frameOf (dictOf 1 0x1000 9 [])), (parseDict (dictOf 1 0x1000 9 [])), ⟨⟨by decide, by decide, .inl rfl, by decide, by decide, by decide, by decide⟩, by decide, by decide, by decide, by decide, by decide, by decide, by decide, by decide, by decide⟩, by decide, by decide, by decide, by decide⟩,
   ⟨ported, (frameOf (dictOf 1 0x6100 1 [])), (parseDict (dictOf 1 0x6100 1 [])), St.contextDenied, ⟨⟨by decide, by decide, .inl rfl, by decide, by decide, by decide, by decide⟩, by decide, by decide, by decide, by decide, by decide, by decide, by decide, by decide, by decide⟩, by decide, by decide, by decide, by decide, by decide⟩,
   ⟨ported, (frameOf ({ parseDict (dictOf 2 0x8300 4 [1]) with total := 1 } : DictMsg).bytes), ({ parseDict (dictOf 2 0x8300 4 [1]) with total := 1 }), ⟨⟨by decide, by decide, .inl rfl, by decide, by decide, by decide, by decide⟩, by decide, by decide, by decide, by decide, by decide, by decide, by decide, by decide, by decide⟩, by decide, by decide, by decide, by decide, by decide, by decide, by decide, by decide, by decide⟩,
   ⟨(served200.setReg 0x2050 1 3), (((served200.setReg 0x2050 1 3).takeMsg .internal { msgOf 1 (({ parseDict (dictOf 2 0x8300 4 [1]) with total := 1 } : DictMsg).bytes) with src := 200 } .kept).1), ({ msgOf 1 (({ parseDict (dictOf 2 0x8300 4 [1]) with total := 1 } : DictMsg).bytes) with src := 200 }), ({ parseDict (dictOf 2 0x8300 4 [1]) with total := 1 }), by decide, by decide, by decide, by decide, by decide, by decide, by decide, by decide, pair_of_snd (by decide), by decide, by decide, by decide, by decide, by decide, by decide, by decide, by decide, by decide⟩,
   ⟨ported, (frameOf ({ parseDict (dictOf 2 0x8300 4 [1]) with authOn := true } : DictMsg).bytes), ({ parseDict (dictOf 2 0x8300 4 [1]) with authOn := true }), ⟨⟨by decide, by decide, .inl rfl, by decide, by decide, by decide, by decide⟩, by decide, by decide, by decide, by decide, by decide, by decide, by decide, by decide, by decide⟩, by decide, by decide, by decide⟩,
   ⟨({ ported with tokens := [(0x80, { next := 10, held := [{ serial := 9, idx := 0x9020, sub := 1, done := some 0 }] })] }), (frameOf (dictOf 3 0 0 (natLe 8 (put 9 31 0 + put 1 39 32 + put 0x9020 55 40 + put 0x80 63 56)))), (parseDict (dictOf 3 0 0 (natLe 8 (put 9 31 0 + put 1 39 32 + put 0x9020 55 40 + put 0x80 63 56)))), ⟨⟨by decide, by decide, .inl rfl, by decide, by decide, by decide, by decide⟩, by decide, by decide, by decide, by decide, by decide, by decide, by decide, by decide, by decide⟩, by decide, by decide, by decide⟩,
   ⟨ported, (frameOf (dictOf 4 0x1000 9 [])), (parseDict (dictOf 4 0x1000 9 [])), ⟨⟨by decide, by decide, .inl rfl, by decide, by decide, by decide, by decide⟩, by decide, by decide, by decide, by decide, by decide, by decide, by decide, by decide, by decide⟩, by decide, by decide, by decide, by decide⟩⟩
theorem test_meets_DictionaryWrites :
  (∃ (s : State) (r : Route) (idx : BitVec 16) (sub : BitVec 8) (v : Bytes), (idx.toNat, sub.toNat) ∈ plainCells ∧
    s.passes r idx.toNat sub.toNat v = true ∧ s.clock.running = true ∧ s.boot.startDue = none) ∧
  (∃ (s : State) (r : Route) (idx : BitVec 16) (sub : BitVec 8) (v : Bytes) (st : Nat), s.awake = true ∧ s.receiver r
    = none ∧ s.check r idx.toNat sub.toNat true v = some st ∧ s.clock.running = true ∧ s.boot.startDue = none) ∧
  (∃ (s : State) (r : Route) (v : Bytes), s.passes r 0x1030 3 v = true ∧ s.isReady = true ∧ s.host.fns.any (fun e =>
    e.1 != 0 && e.2.state != 0) = false ∧ leNat v / 256 = s.reg 0x1030 1 / 256) ∧
  (∃ (s : State) (r : Route) (v : Bytes), s.passes r 0x1030 3 v = true ∧ s.isReady = true ∧ s.host.fns.any (fun e =>
    e.1 != 0 && e.2.state != 0) = false ∧ leNat v / 256 ≠ s.reg 0x1030 1 / 256) ∧
  (∃ (s : State) (r : Route) (v : Bytes), s.passes r 0x1030 3 v = true ∧ (s.isReady = false ∨ s.host.fns.any (fun e =>
    e.1 != 0 && e.2.state != 0) = true)) ∧
  (∃ (s : State) (r : Route) (v : Bytes), s.passes r 0x2000 4 v = true ∧ s.tokenFree r 0x2000 = true ∧ s.stepRuns
    0x2000 4 = false) ∧
  (∃ (s : State) (r : Route) (v : Bytes), s.passes r 0x2000 4 v = true ∧ s.stepRuns 0x2000 4 = true) ∧
  (∃ (s : State) (r : Route) (v : Bytes), s.passes r 0x9070 3 v = true) :=
  ⟨⟨up, .pf, 0xB000, 5, ([1, 2, 3, 4]), by decide, by decide, by decide, by decide⟩,
   ⟨up, .pf, 0xB000, 5, ([1, 2, 3]), St.bounds, by decide, by decide, by decide, by decide, by decide⟩,
   ⟨up, .pf, (natLe 2 (up.reg 0x1030 1)), by decide, by decide, by decide, by decide⟩,
   ⟨up, .pf, (natLe 2 (up.reg 0x1030 1 + 256)), by decide, by decide, by decide, by decide⟩,
   ⟨(ringed (cmdOf 0 7 0 0 0)), .pf, (natLe 2 (up.reg 0x1030 1)), by decide, by decide⟩,
   ⟨up, .pf, [1], by decide, by decide, by decide⟩,
   ⟨({ up with steps := [{ idx := 0x2000, sub := 4 }] }), .pf, [1], by decide, by decide⟩,
   ⟨({ up with sec := { up.sec with mgmtKey := some 5 } }), .pf, [1], by decide⟩⟩
theorem test_meets_Attestation :
  (∃ (s : State), s.reg 0x9000 6 ≠ 1) ∧
  (∃ (s : State), s.reg 0x9000 6 = 1) ∧
  (∃ (s : State) (r : Route) (v : Bytes), s.passes r 0x9020 1 v = true ∧ s.tokenFree r 0x9020 = true ∧ s.stepRuns
    0x9020 1 = false) ∧
  (∃ (s : State) (d : Bytes), d.length = 96 ∧ s.coreStop 0 = none) ∧
  (∃ (s : State) (d : Bytes), d.length ≠ 96) ∧
  (∃ (s : State) (r : Route) (v : Bytes) (e : Ent), s.passes r 0x9080 1 v = true ∧ s.releaseRuns = false ∧
    s.randomFailed = false ∧ leAt v 40 4 < 2 ^ 21 ∧ tget s.keys.table (leAt v 40 4) 0 = e ∧ bit e.toNat 0 = true ∧ bit
    e.toNat 3 = true ∧ fld e.toNat 95 82 = s.ownEp ∧ s.tokenFree r 0x9080 = true) ∧
  (∃ (s : State) (r : Route) (v : Bytes) (e : Ent), s.passes r 0x9080 1 v = true ∧ s.releaseRuns = false ∧
    s.randomFailed = false ∧ leAt v 40 4 < 2 ^ 21 ∧ tget s.keys.table (leAt v 40 4) 0 = e ∧ (bit e.toNat 0 = false ∨
    bit e.toNat 3 = false ∨ fld e.toNat 95 82 ≠ s.ownEp)) ∧
  (∃ (s : State) (r : Route) (v : Bytes) (rel : Release), s.passes r 0x9080 7 v = true ∧ s.releaseRuns = false ∧
    s.sec.release = some rel ∧ s.ns ≤ rel.at_ + 60000000000 ∧ s.tokenFree r 0x9080 = true) ∧
  (∃ (s : State) (r : Route) (v : Bytes), s.passes r 0x9080 7 v = true ∧ s.releaseRuns = false ∧ s.sec.release = none) ∧
  (∃ (s : State) (r : Route) (v : Bytes), s.passes r 0x9080 8 v = true) ∧
  (∃ (s : State) (r : Route) (v : Bytes), s.passes r 0x9070 2 v = true) :=
  ⟨⟨up, by decide⟩,
   ⟨(up.setReg 0x9000 6 1), by decide⟩,
   ⟨up, .mgmtOpen, (List.replicate 96 7), by decide, by decide, by decide⟩,
   ⟨up, (List.replicate 96 7), by decide, by decide⟩,
   ⟨up, [], by decide⟩,
   ⟨((keyed [(5, entOf 0x79)]).setReg 0x1000 9 20), .pf, (natLe 32 1 ++ natLe 8 2 ++ natLe 8 5), (entOf 0x79), by decide, by decide, by decide, by decide, by decide, by decide, by decide, by decide, by decide⟩,
   ⟨((keyed [(5, entOf 0x71)]).setReg 0x1000 9 20), .pf, (natLe 32 1 ++ natLe 8 2 ++ natLe 8 5), (entOf 0x71), by decide, by decide, by decide, by decide, by decide, by decide⟩,
   ⟨({ up with sec := { up.sec with release := some { handle := 5 } } }), .pf, (List.replicate 1648 0), ({ handle := 5 }), by decide, by decide, by decide, by decide, by decide⟩,
   ⟨up, .pf, (List.replicate 1648 0), by decide, by decide, by decide⟩,
   ⟨({ up with ep := { up.ep with home := { up.ep.home with seals := [⟨3, 5, 1, 2⟩] } } }), .pf, ([5, 0, 0, 0]), by decide⟩,
   ⟨up, .pf, (List.replicate 1616 0), by decide⟩⟩
theorem test_meets_PowerSampling :
  (∃ (s : State) (x : PowerInputs) (l : List (Nat × Nat)), s.boot.phase ≠ .off ∧ x.rails = l.map some ∧ l.length = 7) ∧
  (∃ (s : State) (x : PowerInputs) (l : List (Nat × Nat)), s.boot.phase ≠ .off ∧ x.rails = l.map some ∧ l.length = 7 ∧
    l.foldl (fun n e => n + e.1 * e.2) x.vaon ≤ 9000000 ∧ 10000 * s.reg 0x7000 2 < l.foldl (fun n e => n + e.1 * e.2)
    x.vaon ∧ s.power.run = false) ∧
  (∃ (s : State) (x : PowerInputs) (l : List (Nat × Nat)), s.boot.phase ≠ .off ∧ x.rails = l.map some ∧ l.length = 7 ∧
    l.foldl (fun n e => n + e.1 * e.2) x.vaon ≤ 9000000 ∧ 10000 * s.reg 0x7000 2 < l.foldl (fun n e => n + e.1 * e.2)
    x.vaon ∧ s.power.run = true) ∧
  (∃ (s : State) (x : PowerInputs) (l : List (Nat × Nat)), s.boot.phase ≠ .off ∧ x.rails = l.map some ∧ l.length = 7 ∧
    l.foldl (fun n e => n + e.1 * e.2) x.vaon ≤ 9000000 ∧ l.foldl (fun n e => n + e.1 * e.2) x.vaon ≤ 10000 * s.reg
    0x7000 2 ∧ s.power.run = true) ∧
  (∃ (s : State) (p : Phaseset), s.coreP = true ∧ s.power.written = false ∧ s.phaseSet = [p] ∧ 0 < p.open_) ∧
  (∃ (s : State), s.coreP = true ∧ s.power.written = false ∧ s.power.mode = 1 ∧ 0 < s.power.overruns ∧ s.windowPower +
    400000 ≤ 10000 * s.reg 0x7000 2 ∧ s.power.run = false ∧ s.power.low = false ∧ s.power.target + 5 ≤ s.reg 0x7020 3) ∧
  (∃ (s : State), s.coreP = true ∧ s.power.written = true ∧ s.reg 0x7020 1 = 0) ∧
  (∃ (s : State), s.coreP = true ∧ s.setpointHeld = false ∧ 600 ≤ s.power.target ∧ s.power.target ≤ 850 ∧
    s.power.vcore ≠ s.power.target) ∧
  (∃ (s : State), (s.setpointHeld = true ∨ s.coreP = false)) ∧
  (∃ (s : State) (thermal : Bool), (if thermal then s.power.dirT else s.power.dirV) = 1) ∧
  (∃ (s : State) (thermal : Bool), (if thermal then s.power.dirT else s.power.dirV) = 2 ∧ (if thermal then s.power.vbT
    else s.power.vb) + 2 < min s.power.vcore s.power.ceilV) :=
  ⟨⟨up, ({ rails := [some (850, 100), some (850, 100), some (850, 100), some (850, 100), some (850, 100), some (850, 100), some (850, 100)], vaon := 40, failed := 1 }), ([(850, 100), (850, 100), (850, 100), (850, 100), (850, 100), (850, 100), (850, 100)]), by decide, by decide, by decide⟩,
   ⟨(up.setReg 0x7000 2 500), ({ rails := [some (850, 1000), some (850, 1000), some (850, 1000), some (850, 1000), some (850, 1000), some (850, 1000), some (850, 1000)], vaon := 40 }), ([(850, 1000), (850, 1000), (850, 1000), (850, 1000), (850, 1000), (850, 1000), (850, 1000)]), by decide, by decide, by decide, by decide, by decide, by decide⟩,
   ⟨({ up.setReg 0x7000 2 500 with power := { up.power with run := true, acc := 200 } }), ({ rails := [some (850, 1000), some (850, 1000), some (850, 1000), some (850, 1000), some (850, 1000), some (850, 1000), some (850, 1000)], vaon := 40 }), ([(850, 1000), (850, 1000), (850, 1000), (850, 1000), (850, 1000), (850, 1000), (850, 1000)]), by decide, by decide, by decide, by decide, by decide, by decide⟩,
   ⟨({ up.setReg 0x7000 2 500 with power := { up.power with run := true, acc := 200 } }), ({ rails := [some (850, 100), some (850, 100), some (850, 100), some (850, 100), some (850, 100), some (850, 100), some (850, 100)], vaon := 40 }), ([(850, 100), (850, 100), (850, 100), (850, 100), (850, 100), (850, 100), (850, 100)]), by decide, by decide, by decide, by decide, by decide, by decide⟩,
   ⟨({ up.setReg 0x7000 2 500 with power := { up.power with learned := [{ tag := 0, open_ := 400, board := 100, memory := 50, link := 60 }] } }), ({ tag := 0, open_ := 400, board := 100, memory := 50, link := 60 }), by decide, by decide, by decide, by decide⟩,
   ⟨({ up.setReg 0x7020 3 800 with power := { up.power with mode := 1, overruns := 2, target := 700 } }), by decide, by decide, by decide, by decide, by decide, by decide, by decide, by decide⟩,
   ⟨({ up.setReg 0x7020 2 700 with power := { up.power with written := true } }), by decide, by decide, by decide⟩,
   ⟨({ up with power := { up.power with vcore := 700, target := 720 } }), by decide, by decide, by decide, by decide, by decide⟩,
   ⟨({ up with power := { up.power with missing := [(2, 3)] } }), by decide⟩,
   ⟨({ up with power := { up.power with dirV := 1 } }), false, by decide⟩,
   ⟨({ up with power := { up.power with dirT := 2, vbT := 640 } }), true, by decide, by decide⟩⟩
theorem test_meets_PowerSettings :
  (∃ (s : State) (r : Route) (v : Bytes), s.passes r 0x7000 1 v = true) ∧
  (∃ (s : State) (r : Route) (v : Bytes), s.passes r 0x7010 2 v = true ∧ s.hasBoard = true ∧ (∀ q ∈ List.range 4, bit
    (s.reg 0x7010 2) q = true → bit (leNat v) q = false → s.quarterUsed q = false)) ∧
  (∃ (s : State) (r : Route) (v : Bytes) (q : Quarter), s.passes r 0x7010 2 v = true ∧ s.hasBoard = true ∧ bit (s.reg
    0x7010 2) q.val = true ∧ bit (leNat v) q.val = false ∧ s.quarterUsed q.val = true) ∧
  (∃ (s : State) (q : Quarter), tget s.power.quarters q.val 0 = 2) ∧
  (∃ (s : State) (q : Quarter), tget s.power.quarters q.val 0 ≠ 2) ∧
  (∃ (s : State) (engine : Fin 25) (reading : Int), 1280 < reading ∧ engine.val ∉ s.power.stopped) ∧
  (∃ (s : State) (engine : Fin 25) (reading : Int), (reading ≤ 1280 ∨ engine.val ∈ s.power.stopped)) ∧
  (∃ (s : State) (engine : Fin 25) (reading : Int), reading ≤ 1200 ∧ engine.val ∈ s.power.stopped) ∧
  (∃ (s : State) (r : Route) (v : Bytes), s.passes r 0x7030 4 v = true) :=
  ⟨⟨up, .pf, (natLe 2 400), by decide⟩,
   ⟨(up.setReg 0x7010 2 5), .pf, [6], by decide, by decide, by decide⟩,
   ⟨(boarded.setReg 0x7010 2 5), .pf, [6], 0, by decide, by decide, by decide, by decide, by decide⟩,
   ⟨({ up with power := { up.power with quarters := [(1, 2)] } }), 1, by decide⟩,
   ⟨({ up with power := { up.power with quarters := [(1, 1)] } }), 1, by decide⟩,
   ⟨(linkAt 5), 3, 1281, by decide, by decide⟩,
   ⟨(linkAt 5), 3, 1280, by decide⟩,
   ⟨({ linkAt 5 with power := { up.power with stopped := [3, 4] } }), 3, 1200, by decide, by decide⟩,
   ⟨({ up with power := { up.power with learned := [{}] } }), .pf, [1], by decide⟩⟩
theorem test_meets_Journal :
  (∃ (s : State) (r : Route) (v : Bytes) (e : Ent), s.passes r 0xB130 4 v = true ∧ s.stepRuns 0xB130 4 = false ∧
    s.tokenFree r 0xB130 = true ∧ s.homeEntry .internal (s.reg 0xB130 1 % 2 ^ 21) = e ∧ entValid e = true ∧ entOwner e
    = s.ownEp ∧ entDead e = false ∧ s.reg 0xB130 2 % 256 = 0 ∧ s.reg 0xB130 3 % 256 = 0 ∧ s.reg 0xB130 3 ≠ 0 ∧ s.reg
    0xB130 2 + s.reg 0xB130 3 ≤ entLen e) ∧
  (∃ (s : State) (r : Route) (v : Bytes) (e : Ent), s.passes r 0xB130 4 v = true ∧ s.stepRuns 0xB130 4 = false ∧
    s.homeEntry .internal (s.reg 0xB130 1 % 2 ^ 21) = e ∧ entValid e = true ∧ entOwner e = s.ownEp ∧ entDead e = false
    ∧ entLen e < s.reg 0xB130 2 + s.reg 0xB130 3) ∧
  (∃ (s : State) (r : Route) (v : Bytes), s.passes r 0xB100 9 v = true ∧ s.stepRuns 0xB100 9 = false ∧ s.tokenFree r
    0xB100 = true ∧ s.journalOldest ≤ s.reg 0xB100 7 ∧ s.reg 0xB100 7 + s.reg 0xB100 8 ≤ s.journal.next ∧ s.reg 0xB100
    8 ≠ 0) ∧
  (∃ (s : State) (r : Route) (v : Bytes), s.passes r 0xB100 9 v = true ∧ s.stepRuns 0xB100 9 = false ∧ s.journal.next
    < s.reg 0xB100 7 + s.reg 0xB100 8) ∧
  (∃ (s : State) (r : Route) (v : Bytes), s.passes r 0xB010 0x0B v = true ∧ s.stepRuns 0xB010 0x0B = false ∧
    s.tokenFree r 0xB010 = true ∧ s.reg 0xB100 8 ≠ 0 ∧ (s.journal.partner.filter fun e => decide (s.reg 0xB100 7 ≤
    e.1) && decide (e.1 < s.reg 0xB100 7 + s.reg 0xB100 8)).length = s.reg 0xB100 8) ∧
  (∃ (s : State), s.clock.slot = 0 ∧ s.exc.wait = 0 ∧ s.excCounts ≠ s.exc.base ∧ s.journal.gap = 0 ∧ s.journalRoom =
    true ∧ (s.journal.next + 1) % 65536 ≠ 0 ∧ 0 < s.journalCap) ∧
  (∃ (s : State), (s.clock.slot ≠ 0 ∨ s.exc.wait ≠ 0 ∨ s.excCounts = s.exc.base)) :=
  ⟨⟨(((homed.setReg 0x1000 9 10200).setReg 0xB130 1 5).setReg 0xB130 3 256), .pf, [1], (BitVec.ofNat 128 (put 7 127 96 + put 10200 95 82 + put 3 81 76 + put 0x400 75 52 + put 1023 51 21 + put 10 10 7 + 0x71)), by decide, by decide, by decide, by decide, by decide, by decide, by decide, by decide⟩,
   ⟨((((homed.setReg 0x1000 9 10200).setReg 0xB130 1 5).setReg 0xB130 3 256).setReg 0xB130 2 (2 ^ 30)), .pf, [1], (BitVec.ofNat 128 (put 7 127 96 + put 10200 95 82 + put 3 81 76 + put 0x400 75 52 + put 1023 51 21 + put 10 10 7 + 0x71)), by decide, by decide, by decide, by decide, by decide, by decide, by decide⟩,
   ⟨({ (up.setReg 0xB100 8 1).setReg 0xB100 4 65536 with journal := { up.journal with next := 2 } }), .pf, [1], by decide, by decide, by decide, by decide, by decide, by decide⟩,
   ⟨({ up.setReg 0xB100 8 3 with journal := { up.journal with next := 2 } }), .pf, [1], by decide, by decide, by decide⟩,
   ⟨({ (up.setReg 0xB100 8 1).setReg 0xB100 4 65536 with journal := { up.journal with partner := [(0, [1])] } }), .pf, [1], by decide, by decide, by decide, by decide, by decide⟩,
   ⟨({ up.setReg 0xB100 4 65536 with exc := { up.exc with counts := [(3, 2)] } }), by decide, by decide, by decide, by decide, by decide, by decide, by decide⟩,
   ⟨({ up with exc := { up.exc with wait := 5 } }), by decide⟩⟩
theorem test_meets_LockStepCompares :
  (∃ (s : State) (r : Route) (v : Bytes), s.passes r 0xB110 1 v = true ∧ s.reg 0x1020 5 = 1 ∧ s.pair.partner ≠ 0x3FFF
    ∧ (∀ k ∈ List.range 32, bit (leNat v) k = s.mirrored k ∨ (s.ctx k).state = 0)) ∧
  (∃ (s u : State) (m : Msg) (d : SlotDigest), m.kind = 0x61 ∧ m.src.toNat = s.pair.partner ∧ m.payload.length = 32 ∧
    s.takeMsg .internal m .none = (u, true) ∧ u.lock.own.find? (SlotDigest.same
    { ctx := leAt m.payload 26 6, span := leAt m.payload 16 8, slot := leAt m.payload 24 2, digest := leAt m.payload 0 16 })
    = some d ∧ d.digest = leAt m.payload 0 16) ∧
  (∃ (s u : State) (m : Msg) (d : SlotDigest), m.kind = 0x61 ∧ m.src.toNat = s.pair.partner ∧ m.payload.length = 32 ∧
    s.takeMsg .internal m .none = (u, true) ∧ u.lock.own.find? (SlotDigest.same
    { ctx := leAt m.payload 26 6, span := leAt m.payload 16 8, slot := leAt m.payload 24 2, digest := leAt m.payload 0 16 })
    = some d ∧ d.digest ≠ leAt m.payload 0 16 ∧ u.reg 0xB110 5 = 0) ∧
  (∃ (s : State) (d : SlotDigest), s.isSide0 = true ∧ s.lock.own = [d] ∧ d.span + s.reg 0xB110 8 ≤ s.clock.span ∧
    s.reg 0xB110 5 = 0) ∧
  (∃ (s : State), (∀ d ∈ s.lock.own, s.clock.span < d.span + s.reg 0xB110 8)) ∧
  (∃ (s u : State) (m : Msg) (d : SlotDigest), m.kind = 0x62 ∧ s.takeMsg .internal m .reading = (u, true) ∧
    u.keptRecord m.payload = some d ∧ (d.checks.flatMap (natLe 4)).length ≤ 256 ∧ d.checks ≠ []) ∧
  (∃ (s u : State) (m : Msg) (d : SlotDigest), m.kind = 0x64 ∧ s.takeMsg .internal m .reading = (u, true) ∧
    u.keptRecord m.payload = some d ∧ leAt m.payload 11 2 < d.payloads.length) ∧
  (∃ (s u : State) (m : Msg) (no : Nat) (d : SlotDigest) (q : Nat), s.takeAnswer .internal m = (u, some no) ∧
    u.lock.seeking = some d ∧ (List.range d.checks.length).find? (fun q => d.checks.getD q 0 != leAt m.payload (4 * q)
    4) = some q ∧ m.payload.length = 4 * d.checks.length ∧ u.ep.ended = [(no, 0)] ∧ u.keys.now = none) ∧
  (∃ (s u : State) (m : Msg) (no : Nat) (d : SlotDigest), s.takeAnswer .internal m = (u, some no) ∧ u.lock.seeking =
    some d ∧ u.lock.grainAt < d.payloads.length ∧ u.lock.grainAt < 65536 ∧ u.ep.ended = [(no, 0)] ∧ u.keys.now = none) :=
  ⟨⟨(paired 1 201), .pf, ([16, 0, 0, 0]), by decide, by decide, by decide, by decide⟩,
   ⟨({ paired 1 201 with lock := { up.lock with own := [digestWit] } }), (({ paired 1 201 with lock := { up.lock with own := [digestWit] } }.takeMsg .internal (pairMsg 201 0x61 (digestEntry digestWit)) .none).1), (pairMsg 201 0x61 (digestEntry digestWit)), digestWit, by decide, by decide, by decide, pair_of_snd (by decide), by decide, by decide⟩,
   ⟨({ paired 1 201 with lock := { up.lock with own := [digestWit] } }), (({ paired 1 201 with lock := { up.lock with own := [digestWit] } }.takeMsg .internal (pairMsg 201 0x61 (digestEntry { digestWit with digest := 78 })) .none).1), (pairMsg 201 0x61 (digestEntry { digestWit with digest := 78 })), digestWit, by decide, by decide, by decide, pair_of_snd (by decide), by decide, by decide, by decide⟩,
   ⟨({ paired 1 201 with lock := { up.lock with own := [digestWit] } }), digestWit, by decide, by decide, by decide, by decide⟩,
   ⟨({ paired 1 201 with lock := { up.lock with own := [{ digestWit with span := 104 }] } }), by decide⟩,
   ⟨({ paired 1 199 with lock := { up.lock with own := [digestWit] } }), (({ paired 1 199 with lock := { up.lock with own := [digestWit] } }.takeMsg .internal (pairMsg 199 0x62 (natLe 1 4 ++ natLe 8 90 ++ natLe 2 2)) .reading).1), (pairMsg 199 0x62 (natLe 1 4 ++ natLe 8 90 ++ natLe 2 2)), digestWit, by decide, pair_of_snd (by decide), by decide, by decide, by decide⟩,
   ⟨({ paired 1 199 with lock := { up.lock with own := [digestWit] } }), (({ paired 1 199 with lock := { up.lock with own := [digestWit] } }.takeMsg .internal (pairMsg 199 0x64 (natLe 1 4 ++ natLe 8 90 ++ natLe 2 2 ++ natLe 2 1)) .reading).1), (pairMsg 199 0x64 (natLe 1 4 ++ natLe 8 90 ++ natLe 2 2 ++ natLe 2 1)), digestWit, by decide, pair_of_snd (by decide), by decide, by decide⟩,
   ⟨(asking201 { paired 1 201 with lock := { up.lock with seeking := some { digestWit with payloads := [], images := [(0, 5)] } } }), (((asking201 { paired 1 201 with lock := { up.lock with seeking := some { digestWit with payloads := [], images := [(0, 5)] } } }).takeAnswer .internal { pairMsg 201 0x63 (natLe 4 7) with tag := 30 }).1), ({ pairMsg 201 0x63 (natLe 4 7) with tag := 30 }), 77, ({ digestWit with payloads := [], images := [(0, 5)] }), 0, pair_of_snd (by decide), by decide, by decide, by decide, by decide, by decide⟩,
   ⟨(asking201 { (paired 1 201).setReg 0xB110 6 (put 0xFFFF 34 19 + put 0x1FFF 47 35 + put 4 52 48) with lock := { up.lock with seeking := some digestWit, grainAt := 1 } }), (((asking201 { (paired 1 201).setReg 0xB110 6 (put 0xFFFF 34 19 + put 0x1FFF 47 35 + put 4 52 48) with lock := { up.lock with seeking := some digestWit, grainAt := 1 } }).takeAnswer .internal { pairMsg 201 0x65 (natLe 256 7) with tag := 30 }).1), ({ pairMsg 201 0x65 (natLe 256 7) with tag := 30 }), 77, digestWit, pair_of_snd (by decide), by decide, by decide, by decide, by decide, by decide⟩⟩
theorem test_meets_PairStreams :
  (∃ (s u : State) (m : Msg), m.kind = 0x60 ∧ m.src.toNat = s.pair.partner ∧ s.takeMsg .internal m .none = (u, true)) ∧
  (∃ (s : State) (g : Grain), s.takesPair 0 g ∧ s.reg 0xB010 2 ≠ 0xFF ∧ s.pair.state = 0 ∧ leAt (pairData g) 24 1 ≤ 1) ∧
  (∃ (s : State) (g : Grain), s.takesPair 0 g ∧ s.reg 0xB010 2 ≠ 0xFF ∧ s.pair.state = 1 ∧ (leAt (pairData g) 24 1 = 1
    ∨ leAt (pairData g) 24 1 = 2)) ∧
  (∃ (s : State) (g : Grain), s.takesPair 0 g ∧ s.reg 0xB010 2 ≠ 0xFF ∧ s.pair.state = 0 ∧ leAt (pairData g) 24 1 = 3) ∧
  (∃ (s : State) (g : Grain) (k : Nat), s.takesPair 1 g ∧ (((Machine.pieces 32 8 (pairData g)).map leNat).filter (· !=
    0)) = [k] ∧ entValid (recEntry k) = true) ∧
  (∃ (s : State) (g : Grain), s.takesPair 2 g ∧ g.chunk = 0 ∧ 192 < leAt (pairData g) 2 4) ∧
  (∃ (s : State) (g : Grain), s.takesPair 2 g ∧ g.chunk = 0 ∧ leAt (pairData g) 2 4 ≤ 192) ∧
  (∃ (s : State) (g : Grain), s.takesPair 3 g ∧ g.chunk = 0 ∧ leAt (pairData g) 12 4 ≤ 256) ∧
  (∃ (s : State) (g : Grain), s.takesPair 3 g ∧ g.chunk = 0 ∧ 256 < leAt (pairData g) 12 4) ∧
  (∃ (s : State) (g : Grain), s.takesPair 4 g) ∧
  (∃ (s : State) (g : Grain), s.takesPair 5 g) ∧
  (∃ (s : State) (g : Grain), s.takesPair 6 g ∧ leAt (pairData g) 1 1 = 1 ∧ s.partState (leAt (pairData g) 0 1 % 64) ≠
    1) ∧
  (∃ (s : State) (g : Grain), s.takesPair 6 g ∧ leAt (pairData g) 1 1 = 0 ∧ s.partState (leAt (pairData g) 0 1 % 64) ≠
    0) ∧
  (∃ (s : State), s.pair.state = 4 ∧ s.pairQuiet = true) ∧
  (∃ (s : State), (s.pair.state ≠ 4 ∨ s.pairQuiet = false)) :=
  ⟨⟨(paired 1 201), (((paired 1 201).takeMsg .internal (pairMsg 201 0x60 []) .none).1), (pairMsg 201 0x60 []), by decide, by decide, pair_of_snd (by decide)⟩,
   ⟨(paired 0 201), (pairGrain 201 0 0 (put 1 199 192)), ⟨by decide, by decide, by decide, by decide, by decide, by decide, by decide, checkOk_with_crc _, by decide⟩, by decide, by decide, by decide⟩,
   ⟨(paired 1 201), (pairGrain 201 0 0 (put 1 199 192)), ⟨by decide, by decide, by decide, by decide, by decide, by decide, by decide, checkOk_with_crc _, by decide⟩, by decide, by decide, by decide⟩,
   ⟨(paired 0 201), (pairGrain 201 0 0 (put 3 199 192)), ⟨by decide, by decide, by decide, by decide, by decide, by decide, by decide, checkOk_with_crc _, by decide⟩, by decide, by decide, by decide⟩,
   ⟨(paired 1 201), (pairGrain 201 1 0 (keyRecord 5 (entOf 0x71) 0)), (keyRecord 5 (entOf 0x71) 0), ⟨by decide, by decide, by decide, by decide, by decide, by decide, by decide, checkOk_with_crc _, by decide⟩, by decide, by decide⟩,
   ⟨(paired 1 201), (pairGrain 201 2 0 (put 2 15 0 + put 500 47 16)), ⟨by decide, by decide, by decide, by decide, by decide, by decide, by decide, checkOk_with_crc _, by decide⟩, by decide, by decide⟩,
   ⟨(paired 1 201), (pairGrain 201 2 0 (put 2 15 0 + put 100 47 16)), ⟨by decide, by decide, by decide, by decide, by decide, by decide, by decide, checkOk_with_crc _, by decide⟩, by decide, by decide⟩,
   ⟨(paired 1 201), (pairGrain 201 3 0 (put 64 127 96)), ⟨by decide, by decide, by decide, by decide, by decide, by decide, by decide, checkOk_with_crc _, by decide⟩, by decide, by decide⟩,
   ⟨(paired 1 201), (pairGrain 201 3 0 (put 640 127 96)), ⟨by decide, by decide, by decide, by decide, by decide, by decide, by decide, checkOk_with_crc _, by decide⟩, by decide, by decide⟩,
   ⟨({ paired 1 201 with journal := { up.journal with partner := [(6, [1]), (7, [2])] } }), (pairGrain 201 4 4 99), ⟨by decide, by decide, by decide, by decide, by decide, by decide, by decide, checkOk_with_crc _, by decide⟩⟩,
   ⟨({ paired 1 201 with keys := { up.keys with table := [(5, entOf 0x71)] } }), (pairGrain 201 5 0 20), ⟨by decide, by decide, by decide, by decide, by decide, by decide, by decide, checkOk_with_crc _, by decide⟩⟩,
   ⟨(paired 1 201), (pairGrain 201 6 0 (put 3 7 0 + put 1 15 8)), ⟨by decide, by decide, by decide, by decide, by decide, by decide, by decide, checkOk_with_crc _, by decide⟩, by decide, by decide⟩,
   ⟨((paired 1 201).setReg 0x6103 1 2), (pairGrain 201 6 0 (put 3 7 0)), ⟨by decide, by decide, by decide, by decide, by decide, by decide, by decide, checkOk_with_crc _, by decide⟩, by decide, by decide⟩,
   ⟨(paired 4 201), by decide, by decide⟩,
   ⟨(paired 1 201), by decide⟩⟩
theorem test_meets_PairLosses :
  (∃ (s : State), s.joined = true ∧ s.linkSilent = true ∧ s.vc6Silent = false) ∧
  (∃ (s : State), (s.joined = false ∨ s.linkSilent = false ∨ s.vc6Silent = true)) ∧
  (∃ (s : State), (s.joined = true ∨ s.pair.state = 2) ∧ s.linkSilent = true ∧ s.vc6Silent = true) ∧
  (∃ (s : State), (s.linkSilent = false ∨ s.vc6Silent = false)) ∧
  (∃ (s : State), s.pair.state ≠ 0 ∧ s.linkUsable (s.reg 0xB010 2) = false ∧ s.activeOf (s.group (s.reg 0xB010 3)) =
    [] ∧ s.linkSilent = true) ∧
  (∃ (s : State), (s.pair.state = 0 ∨ s.linkSilent = false)) ∧
  (∃ (s : State) (ep : EpId) (since : Nat), s.pair.lostSince.find? (fun e => e.1 == ep.toNat) = some (ep.toNat, since)
    ∧ since + s.reg 0xB050 1 ≤ s.clock.span ∧ ep.toNat ∉ s.pair.lostOwners) ∧
  (∃ (s : State) (ep : EpId), s.pair.lostSince.find? (fun e => e.1 == ep.toNat) = none) ∧
  (∃ (s : State) (ep : Nat), s.isPrimary = true ∧ s.pair.lostOwners = [ep]) ∧
  (∃ (s : State), s.isPrimary = false) :=
  ⟨⟨({ paired 1 201 with pair := { state := 1, partner := 201, beatLink := 50, beatVc6 := 9003 }, clock := { up.clock with span := 9004 } }), by decide, by decide, by decide⟩,
   ⟨(paired 1 201), by decide⟩,
   ⟨({ paired 2 201 with pair := { state := 2, partner := 201, beatLink := 50, beatVc6 := 50 }, clock := { up.clock with span := 9004 } }), by decide, by decide, by decide⟩,
   ⟨(paired 1 201), by decide⟩,
   ⟨({ linkAt 5 with pair := { state := 3, partner := 201, beatLink := 5 }, clock := { up.clock with span := 104 }, regs := tset (linkAt 5).regs (regKey 0xB010 2) 7 }), by decide, by decide, by decide, by decide⟩,
   ⟨(paired 1 201), by decide⟩,
   ⟨({ (paired 1 201).setReg 0xB050 1 10 with pair := { state := 1, partner := 201, lostSince := [(20, 5)] } }), 20, 5, by decide, by decide, by decide⟩,
   ⟨up, 20, by decide⟩,
   ⟨({ paired 1 201 with keys := { up.keys with table := [(5, entOf 0x71)] }, pair := { state := 1, partner := 201, lostOwners := [20] } }), 20, by decide, by decide⟩,
   ⟨(paired 1 199), by decide⟩⟩
theorem test_meets_FaultReports :
  (∃ (s : State) (p : Port) (m : Msg), m.kind = 0x70 ∧ m.payload.length = 64 ∧ m.target = 2 ∧ 1 ≤ (parseReport (leNat
    m.payload)).kind ∧ (parseReport (leNat m.payload)).kind ≤ 0x22 ∧ (parseReport (leNat m.payload)).count ≠ 0) ∧
  (∃ (s : State) (p : Port) (m : Msg), (m.kind ≠ 0x70 ∨ m.payload.length ≠ 64 ∨ m.target ≠ 2)) ∧
  (∃ (s : State), s.coreStop 4 = none ∧ (∀ f ∈ s.faults.windows, s.windowDue f = true) ∧ s.faults.queue.length +
    s.faults.windows.length ≤ 1024) ∧
  (∃ (s : State), (∀ f ∈ s.faults.windows, s.windowDue f = false)) ∧
  (∃ (s : State) (f : FaultRep) (r : List FaultRep), s.faults.queue = f :: r ∧ reportCost ≤ s.faults.bucket ∧
    s.coreStop 4 = none) ∧
  (∃ (s : State), (s.faults.queue = [] ∨ s.faults.bucket < reportCost)) :=
  ⟨⟨up, 6, ({ msgOf 0x70 (natLe 64 (put 0x0D 187 180 + put 7 191 188 + put 2 223 192 + put 1 367 336)) with target := 2 }), by decide, by decide, by decide, by decide, by decide⟩,
   ⟨up, 6, (msgOf 0x71 []), by decide⟩,
   ⟨({ up with faults := { up.faults with windows := [{ kind := 5 }], queue := [{ kind := 6 }] }, clock := { up.clock with span := 90000 } }), by decide, by decide, by decide⟩,
   ⟨({ up with faults := { up.faults with windows := [{ kind := 5 }] } }), by decide⟩,
   ⟨({ up with faults := { up.faults with queue := [{ kind := 5 }, { kind := 6 }], bucket := reportCost } }), ({ kind := 5 }), ([{ kind := 6 }]), by decide, by decide, by decide⟩,
   ⟨up, by decide⟩⟩
theorem test_meets_HealthAndTests :
  (∃ (s : State) (links : List LinkInputs) (quarters : List QuarterInputs), s.coreStop 4 = none) ∧
  (∃ (s : State) (links : List LinkInputs) (quarters : List QuarterInputs) (n : Nat), s.coreStop 4 = none ∧ n < 24 ∧
    s.linkAny n keeps = true ∧ keeps (s.linkState n) = true ∧ (∀ m ∈ List.range 24, m ≠ n → s.linkAny m keeps = false)
    ∧ (tget s.health.links n {}).state = 1 ∧ s.linkScore n (links.getD n {}) < s.reg 0xB030 0x21 ∧ s.reg 0xB030 0x22 ≤
    (tget s.health.links n {}).bad + 1 ∧ s.healthFenced < s.reg 0xB020 1) ∧
  (∃ (s : State), (s.reg 0xB040 1 ≠ 1 ∨ (s.coreStop 2).isSome = true)) ∧
  (∃ (s : State), s.reg 0xB040 1 = 1 ∧ s.coreStop 2 = none ∧ s.linkAny s.health.nextLink keeps = false) ∧
  (∃ (s : State), s.reg 0xB040 1 = 1 ∧ s.coreStop 2 = none ∧ s.linkAny s.health.nextLink keeps = true ∧ s.mayTest
    s.health.nextLink (if s.health.second then 1 else 3) = false) ∧
  (∃ (s : State), s.reg 0xB040 1 = 1 ∧ s.coreStop 2 = none ∧ s.health.nextLink < 24 ∧ s.health.second = false ∧
    s.mayTest s.health.nextLink 3 = true) :=
  ⟨⟨(linkAt 5), [], ([{ slack := 4, margin := 30 }]), by decide⟩,
   ⟨({ (linkAt 5).setReg 0xB030 0x22 1 with health := { up.health with links := [(3, { state := 1 })] } }), ([{}, {}, {}, { power := [-60] }]), [], 3, by decide, by decide, by decide, by decide, by decide, by decide, by decide, by decide, by decide⟩,
   ⟨(up.setReg 0xB040 1 0), by decide⟩,
   ⟨(up.setReg 0xB040 1 1), by decide, by decide, by decide⟩,
   ⟨({ (linkAt 5).setReg 0xB040 1 1 with health := { up.health with nextLink := 3 } }), by decide, by decide, by decide, by decide⟩,
   ⟨({ (linkAt 5).setReg 0xB040 1 1 with health := { up.health with nextLink := 3 }, sched := { up.sched with activateAt := 9, active := some { maps := [{ port := 6, egress := false, slots := [(2, 0)] }] } } }), by decide, by decide, by decide, by decide, by decide⟩⟩
theorem test_meets_TallyReads :
  (∃ (s : State) (r : Route) (off : BitVec 14), s.readable r 0x8010 2 = true) ∧
  (∃ (s : State) (k : Fin 64), (s.tagSet k.val).ctx < 32 ∧ s.clock.running = true ∧ s.clock.slot = 0 ∧ (s.ctx
    (s.tagSet k.val).ctx).state = 2 ∧ dFirst (s.ctx (s.tagSet k.val).ctx).desc = s.clock.span ∧ (s.tagSet
    k.val).switchSpan ≠ some s.clock.span) ∧
  (∃ (s : State) (k : Fin 64), (s.clock.slot ≠ 0 ∨ (s.ctx (s.tagSet k.val).ctx).state ≠ 2 ∨ dFirst (s.ctx (s.tagSet
    k.val).ctx).desc ≠ s.clock.span)) ∧
  (∃ (s : State) (r : Route) (k : Fin 64) (off : BitVec 14), s.readable r (0x8040 + k.val) 2 = true) ∧
  (∃ (s : State) (r : Route) (p : Part), s.readable r (0x8100 + p.val) 1 = true) ∧
  (∃ (s : State) (r : Route) (v : Bytes), s.passes r 0x8300 8 v = true) ∧
  (∃ (s : State) (r : Route) (v : Bytes), s.passes r 0x8300 0x0C v = true ∧ s.stepRuns 0x8300 0x0C = false ∧
    s.tokenFree r 0x8300 = true ∧ s.tallies.oldest ≤ s.reg 0x8300 0x0A ∧ s.reg 0x8300 0x0A + s.reg 0x8300 0x0B ≤
    s.tallies.written ∧ s.reg 0x8300 0x0B ≠ 0) ∧
  (∃ (s : State) (r : Route) (v : Bytes), s.passes r 0x8300 0x0C v = true ∧ s.stepRuns 0x8300 0x0C = false ∧
    s.tallies.written < s.reg 0x8300 0x0A + s.reg 0x8300 0x0B) :=
  ⟨⟨up, .pf, 5, by decide⟩,
   ⟨({ boarded with clock := { boarded.clock with span := 5 } }), 4, by decide, by decide, by decide, by decide, by decide, by decide⟩,
   ⟨up, 4, by decide⟩,
   ⟨up, .pf, 4, 5, by decide⟩,
   ⟨up, .pf, 3, by decide⟩,
   ⟨({ up with tallies := { up.tallies with written := 3, trace := [⟨2, 5⟩] } }), .pf, [1], by decide⟩,
   ⟨({ up.setReg 0x8300 0x0B 1 with tallies := { up.tallies with written := 3, trace := [⟨2, 5⟩] } }), .pf, [1], by decide, by decide, by decide, by decide, by decide, by decide⟩,
   ⟨({ up.setReg 0x8300 0x0B 5 with tallies := { up.tallies with written := 3, trace := [⟨2, 5⟩] } }), .pf, [1], by decide, by decide, by decide⟩⟩
theorem test_meets_SteppedOperationsAndTestPort :
  (∃ (s : State) (e : StepEv), (s.steps.filter fun o => o.idx == 0x2000 && o.sub == 4).length = 1 ∧ s.coreStop
    (ownerCore 0x2000) = none ∧ s.wearOf 0x2010 < 1000000 ∧ s.clock.running = true ∧ s.boot.startDue = none) ∧
  (∃ (s : State) (o : StepOp) (e : StepEv), s.steps = [o] ∧ o.idx = 0x9020 ∧ o.sub = 1 ∧ s.coreStop (ownerCore 0x9020)
    = none ∧ s.clock.running = true ∧ s.boot.startDue = none) ∧
  (∃ (s : State) (o : StepOp) (x : JEntry) (ev : StepEv), s.steps = [o] ∧ o.idx = 0xB100 ∧ o.sub = 9 ∧ o.value = 1 ∧
    o.pos = 0 ∧ s.coreStop (ownerCore 0xB100) = none ∧ s.journal.entries.find? (fun e => e.seq == o.place) = some x ∧
    s.ep.home.bad = [] ∧ ev.ev.corrected = [] ∧ ev.ev.bad = [] ∧ s.clock.running = true ∧ s.boot.startDue = none) ∧
  (∃ (s : State) (idx : BitVec 16) (sub : BitVec 8) (e : StepEv) (last : Bool), s.stepRuns idx.toNat sub.toNat =
    false) ∧
  (∃ (s : State), s.boot.phase ≠ .off ∧ s.boot.tap.trstN = true ∧ s.boot.tap.tck = false) ∧
  (∃ (s : State), s.boot.phase ≠ .off ∧ s.boot.tap.trstN = true ∧ s.boot.tap.tck = true ∧ s.boot.tap.ctl = 2 ∧
    s.boot.tap.instr = 0) ∧
  (∃ (s : State), s.boot.phase ≠ .off) :=
  ⟨⟨({ up with steps := [{ idx := 0x2000, sub := 4 }], nv := [(regKey 0x2010 1, 77)], tokens := [(0, { next := 1, held := [{ idx := 0x2000, sub := 4 }] })] }), {}, by decide, by decide, by decide, by decide, by decide⟩,
   ⟨({ up with steps := [{ fn := 0x80, idx := 0x9020, sub := 1, data := List.replicate 96 7, route := .mgmtOpen }] }), ({ fn := 0x80, idx := 0x9020, sub := 1, data := List.replicate 96 7, route := .mgmtOpen }), {}, by decide, by decide, by decide, by decide, by decide⟩,
   ⟨({ up.setReg 0xB100 4 65536 with steps := [{ fn := 0, idx := 0xB100, sub := 9, value := 1, addr := 0x4000 }], journal := { up.journal with entries := [{ kind := 9, chain := 7 }], next := 1 } }), ({ fn := 0, idx := 0xB100, sub := 9, value := 1, addr := 0x4000 }), ({ kind := 9, chain := 7 }), {}, by decide, by decide, by decide, by decide, by decide, by decide, by decide, by decide, by decide⟩,
   ⟨up, 0x2000, 4, {}, true, by decide⟩,
   ⟨({ up with boot := { up.boot with tap := { up.boot.tap with trstN := true, ctl := 6, instr := 0 } } }), by decide, by decide, by decide⟩,
   ⟨({ up with boot := { up.boot with tap := { up.boot.tap with trstN := true, ctl := 2, instr := 0, tck := true, shift := 5 } } }), by decide, by decide, by decide, by decide, by decide⟩,
   ⟨({ up with boot := { up.boot with tap := { up.boot.tap with trstN := true, ctl := 2 } } }), by decide⟩⟩
theorem test_meets_StoresOnUncorrectableChunks :
  (∃ (s : State) (a : Arrival) (g : Grain) (ev : MemEv), (g.vc = 0 ∨ g.vc = 3) ∧ g.op = 2 ∧ s.takes a.ep g ∧
    s.homeCheck a.ep g = none ∧ isCombinedStore g = false ∧ s.mirrors a.ep g.handle = false ∧ (s.home a.ep).offTable
    (s.homeAddr a.ep g) (64 * (g.chunks + 1)) = true ∧ ev.twin = none) ∧
  (∃ (s : State) (a : Arrival) (g : Grain), (g.vc = 0 ∨ g.vc = 3) ∧ g.op = 3 ∧ g.chunks ≤ 2 ∧ s.takes a.ep g ∧
    s.homeCheck a.ep g = none ∧ s.mirrors a.ep g.handle = false ∧ (s.home a.ep).offTable (s.homeAddr a.ep g) (64 *
    (g.chunks + 1)) = true ∧ s.lostChunks a.ep (s.homeAddr a.ep g) (g.chunks + 1) = false) ∧
  (∃ (s : State) (a : Arrival) (g : Grain), (g.vc = 0 ∨ g.vc = 3) ∧ g.op = 3 ∧ g.chunks ≤ 2 ∧ s.takes a.ep g ∧
    s.homeCheck a.ep g = none ∧ s.mirrors a.ep g.handle = false ∧ (s.home a.ep).offTable (s.homeAddr a.ep g) (64 *
    (g.chunks + 1)) = true ∧ s.lostChunks a.ep (s.homeAddr a.ep g) (g.chunks + 1) = true) :=
  ⟨⟨({ homed with ep := { homed.ep with home := { homed.ep.home with bad := [0x400 * 2 ^ 21 + 5 * 64] } } }), .internal, (req 0 2 5 1 0x1122334455), {}, by decide, by decide, ⟨checkOk_with_crc _, by decide, by decide⟩, by decide, by decide, by decide, by decide, by decide⟩,
   ⟨homed, .internal, (req 3 3 0 2 (0x55 + 5 * 2 ^ (8 * 192))), by decide, by decide, by decide, ⟨checkOk_with_crc _, by decide, by decide⟩, by decide, by decide, by decide, by decide⟩,
   ⟨({ homed with ep := { homed.ep with home := { homed.ep.home with bad := [0x400 * 2 ^ 21 + 64] } } }), .internal, (req 3 3 0 2 (0x55 + 5 * 2 ^ (8 * 192))), by decide, by decide, by decide, ⟨checkOk_with_crc _, by decide, by decide⟩, by decide, by decide, by decide, by decide⟩⟩
theorem test_meets_PowerStepsComplete :
  (∃ (s : State) (x : PowerInputs), s.boot.phase ≠ .off) ∧
  (∃ (s : State) (x : PowerInputs), s.boot.phase = .off) ∧
  (∃ (s : State), s.coreP = true) ∧
  (∃ (s : State), s.coreP = false) :=
  ⟨⟨up, ({ rails := [some (850, 100), none, some (850, 100)], vaon := 40, failed := 1, classes := [1, 2, 3, 4] }), by decide⟩,
   ⟨State.reset, {}, by decide⟩,
   ⟨({ up.setReg 0x7000 2 420 with power := { up.power with written := true, learned := [{ tag := 0, open_ := 400, board := 400, memory := 50, link := 60 }] } }), by decide⟩,
   ⟨(at_ .waiting), by decide⟩⟩

/-! ### Witnesses of the statements that are not listed by clauses -/

theorem test_meets_StepRunsTheFrontCommand : ∃ s : State, s.pending = [] := ⟨up, by decide⟩

theorem test_meets_EveryStepKeepsSoundness : ∃ s t : State, s.sound ∧ s.pending ≠ [] ∧ step s = .next t :=
  ⟨{ homed with pending := [.randomRetest true, .refreshTimer] }, _, by unfold State.sound; decide, by decide, rfl⟩

theorem test_meets_EveryStepTakesOneCommand : ∃ s t : State, s.pending.length = 2 ∧ step s = .next t :=
  ⟨{ homed with pending := [.randomRetest true, .refreshTimer] }, _, by decide, rfl⟩

theorem test_meets_LoadOfASpanTableIsRefused : ∃ (s t : State) (r : Route) (v : Bytes), s.passes r 0x4010 1 v = true ∧
    s.reg 0x4010 4 = 3 ∧ s.clock.running = true ∧ s.boot.startDue = none ∧ exec (.spanTableLoad r v) s = .next t :=
  ⟨up.setReg 0x4010 4 3, _, .pf, [1], by decide, by decide, by decide, by decide, rfl⟩

theorem test_meets_LockStepNeedsBothSwitches : ∃ (s t t' : State) (r : Route) (v : Bytes), s.passes r 0xB110 1 v = true ∧
    s.pair.partner = 0x3FFF ∧ s.clock.running = true ∧ s.boot.startDue = none ∧ exec (.lockstep r v) s = .next t ∧
    exec (.dictionaryWrite r 0xB110 1 v) s = .next t' :=
  ⟨up.setReg 0x1020 5 1, _, _, .pf, [1, 0, 0, 0], by decide, by decide, by decide, by decide, rfl, rfl⟩

theorem test_meets_WearOfPersistentObjects : ∃ o : Obj, findObj 0x2040 5 = some o ∧ o.acc = 2 := ⟨_, rfl, by decide⟩

theorem test_meets_TraceRingModes :
    (∃ (s : State) (cls : Nat), s.confidential = false ∧ bit (s.reg 0x8300 1) cls = true ∧ 0 < s.traceCap ∧
      s.tallies.written - s.tallies.oldest < s.traceCap) ∧
    (∃ (s : State) (cls : Nat), s.confidential = false ∧ bit (s.reg 0x8300 1) cls = true ∧ 0 < s.traceCap ∧
      s.traceCap ≤ s.tallies.written - s.tallies.oldest ∧ s.reg 0x8300 4 = 0) ∧
    (∃ (s : State) (cls : Nat), s.confidential = false ∧ bit (s.reg 0x8300 1) cls = true ∧ 0 < s.traceCap ∧
      s.traceCap ≤ s.tallies.written - s.tallies.oldest ∧ s.reg 0x8300 4 = 1) ∧
    (∃ (s : State) (r : Route) (v : Bytes), s.passes r 0x8300 8 v = true) :=
  ⟨⟨(up.setReg 0x8300 1 64).setReg 0x8300 0x10 8, 6, by decide, by decide, by decide, by decide⟩,
   ⟨{ (up.setReg 0x8300 1 64).setReg 0x8300 0x10 8 with tallies := { up.tallies with written := 9, oldest := 1 } }, 6, by decide,
    by decide, by decide, by decide, by decide⟩,
   ⟨{ ((up.setReg 0x8300 1 64).setReg 0x8300 0x10 8).setReg 0x8300 4 1 with
      tallies := { up.tallies with written := 9, oldest := 1 } }, 6, by decide, by decide, by decide, by decide, by decide⟩,
   ⟨up, .pf, [1], by decide⟩⟩

/-! ### Commands that are not well formed, one for each check of a shape -/

theorem test_wf_value : (Instr.discard .pf (List.replicate 65537 0)).wf = false := by decide +kernel
theorem test_wf_image : ∀ img : Bytes, 2 ^ 24 < img.length → (Instr.imageVerify true img).wf = false := by
  intro img h; simp [Instr.wf]; omega
theorem test_wf_message : (Instr.admission (msgOf 0x20 [])).wf = false := by decide
theorem test_wf_exchange : ∀ l : List RawToken, 7283 < l.length → (Instr.trained 3 { frags := l }).wf = false := by
  intro l h; simp [Instr.wf, Exch.wf]; omega
theorem test_wf_position : (Instr.ingressGrain 0 { grain := {}, noise := [{}] }).wf = false := by decide
theorem test_wf_units : (Instr.lockAchieved 3 ⟨List.replicate 9 [], true⟩ true).wf = false := by decide
theorem test_wf_lanes : (Instr.testEnd 3 true { errors := [0, 0, 0, 0, 0, 0, 0, 0, 0] }).wf = false := by decide
theorem test_wf_rails : (Instr.powerSample { rails := [], classes := [1, 2, 3, 4], sensors := List.replicate 112 0 }).wf = false := by
  decide
theorem test_wf_classes :
    (Instr.powerSample { rails := List.replicate 7 none, classes := [1], sensors := List.replicate 112 0 }).wf = false := by decide
theorem test_wf_sensors : (Instr.powerSample { rails := List.replicate 7 none, classes := [1, 2, 3, 4] }).wf = false := by decide
theorem test_wf_links : (Instr.healthEvaluation [] [{}, {}, {}, {}]).wf = false := by decide
theorem test_wf_link_power : LinkInputs.wf { power := [1], bits := 5 } = false := by decide
theorem test_wf_link_bits : LinkInputs.wf { power := List.replicate 9 0, bits := 0 } = false := by decide
theorem test_wf_quarters : (Instr.healthEvaluation (List.replicate 24 { power := List.replicate 9 0, bits := 1 }) []).wf = false := by
  decide
theorem test_wf_memory_bad : (Instr.patrol 0 { bad := [1, 1] }).wf = false := by decide
theorem test_wf_memory_corrected : (Instr.patrol 0 { corrected := [1, 1] }).wf = false := by decide
theorem test_wf_patrols : (Instr.refreshEnd [{}, {}, {}, {}, {}]).wf = false := by decide
theorem test_wf_frame : (Instr.echoRequest { size := 2, data := [1, 2, 3] }).wf = false := by decide
theorem test_wf_member : (Instr.instanceSubmit .faette { member := 2, members := 2 }).wf = false := by decide
theorem test_wf_members : (Instr.instanceSubmit .faette { member := 2, members := 513 }).wf = false := by decide
theorem test_wf_pasid : (Instr.engineRequest { pasid := some (2 ^ 20) }).wf = false := by decide
theorem test_wf_address : (Instr.engineRequest { addr := 2 ^ 64 }).wf = false := by decide
theorem test_wf_request_kind : (Instr.engineRequest { kind := 11 }).wf = false := by decide
theorem test_wf_page_size : (Instr.atsTranslationCompletion 0 0 12 [{ sizeLog := 11 }]).wf = false := by decide
theorem test_wf_page_place : (Instr.atsTranslationCompletion 0 0 12 [{ va := 8 }]).wf = false := by decide
theorem test_wf_translation_pasid : (Instr.translationTimeout (2 ^ 20) 0 12).wf = false := by decide
theorem test_wf_translation_size : (Instr.translationTimeout 0 0 11).wf = false := by decide
theorem test_wf_invalidate_tag : (Instr.invalidateCompletion 32).wf = false := by decide
theorem test_wf_probe_stacks : (Instr.selfTestDone 0 { stackBits := 16 }).wf = false := by decide
theorem test_wf_probe_links : (Instr.selfTestDone 0 { links := 2 ^ 24 }).wf = false := by decide
theorem test_wf_window_read : (Instr.hostWindowRead 0 0 0).wf = false := by decide
theorem test_wf_window_write : (Instr.hostWindowWrite 0 0 []).wf = false := by decide
theorem test_wf_register_write : (Instr.bar0RegisterWrite 0 0 []).wf = false := by decide
theorem test_wf_copy : ∀ b : Bytes, 2 ^ 24 < b.length → (Instr.copyToTray 0 (some b)).wf = false := by
  intro b h; exact decide_eq_false (Nat.not_le.mpr h)

/-! ### Worked examples of the spec -/

/-- The check value of CRC-32C over the digits 1 to 9 (R94 names the polynomial; the value is the published one). -/
theorem test_crc32c : crc32c (ascii "123456789") = 0xE3069283 := by decide +kernel

/-- The idle ordered set K28.5 D16.2 from negative disparity (R297): IEEE 802.3 writes it 001111 1010 and 100100 0101, bit a
first. -/
theorem test_idle_set : encodeSymbols false idleSet = [0x17C, 0x289] := by decide

/-- A frame of 1,152 message symbols and 32 parity symbols is dealt to two codewords of 592 (R292). -/
theorem test_codewords : ∀ lanes ∈ [4, 7, 8], ((List.range frameSymbols).filter fun k => codewordOf lanes k == 0).length = 592 := by
  decide +kernel

/-- One wrong bit of a unit is flipped back when it is the least reliable of its group, and one flip is counted (R291). -/
theorem test_flip_decode : unitDecoded { wrong := 0x20, weak := [0, 1, 0, 0] } = (0, 1) := by decide

/-- The words of the two leaves of the BF16 sum of chapter 04. -/
theorem test_carry_word_leaf_a : ((fmtOf 0x12).getD default).emitValue (19 * 2 ^ 129 + 2 ^ 113) = some 0x3B00000000130001 := by decide
theorem test_carry_word_leaf_b : ((fmtOf 0x12).getD default).emitValue (-(2 ^ 113)) = some 0x3B3FFFFFFFFFFFFF := by decide

/-- The rounding cases of chapter 04: saturated and wrapped INT8, INT16, the MEAN of three, and the BF16 and FP32 sum. -/
theorem test_int8_saturates : ((fmtOf 0x01).getD default).roundInt (.fin 300 0 1) 0 0 0 false = 0x7F := by decide
theorem test_int8_wraps : ((fmtOf 0x01).getD default).roundInt (.fin 300 0 1) 0 0 0 true = 0x2C := by decide
theorem test_int16_sum : ((fmtOf 0x02).getD default).roundInt (.fin 300 0 1) 0 0 0 false = 300 := by decide
theorem test_int8_mean : ((fmtOf 0x01).getD default).roundInt (.fin 301 0 3) 0 0 0 false = 100 := by decide
theorem test_fp32_sum : ((fmtOf 0x11).getD default).roundElement (.fin 1245184 (-20) 1) 0 0 0 = 0x3F980000 := by decide
theorem test_bf16_sum : ((fmtOf 0x12).getD default).roundElement (.fin 1245184 (-20) 1) 0 0 0 = 0x3F98 := by decide

/-- The VBOARD ceiling of the example of chapter 15. -/
theorem test_vboard_ceiling : cubeCeiling 750 170 250 = 660 := by decide +kernel

/-- The UDP port of the management port (chapter 12): a new value adds one write, the same value none, and two values are
refused. -/
theorem test_port_write :
    (({ up with wear := [(wearKey 0x2040 5 0, 12)] }.writeNv 0x2040 5 20480).1.wearOf 0x2040,
     ({ up with wear := [(wearKey 0x2040 5 0, 13)], nv := [(regKey 0x2040 5, 20480)] }.writeNv 0x2040 5 20480).1.wearOf 0x2040)
      = (13, 13) := by decide
theorem test_port_too_wide : up.check .pf 0x2040 5 true (natLe 4 70000) = some St.bounds := by decide
theorem test_port_zero : up.check .pf 0x2040 5 true [0, 0] = some St.valueRefused := by decide

/-- The window write of chapter 11: one STORE_MASKED of three chunks from chunk 0x803F. -/
theorem test_window_write :
    (pieceGrains 10200 { kind := 9, len := 100, data := List.replicate 100 1 }
      { dst := 10200, handle := 0x100, key := 0, off := 0x200FF0, len := 100, pos := 0 }).map
      (fun x => (x.1.op.toNat, x.1.chunk, x.1.chunks)) = [(3, 0x803F, 2)] := by decide +kernel

/-- The switch of set 5 in chapter 18: on the edge CURRENT shows the closed interval with SNAPSHOT, one grain later the new. -/
theorem test_tagged_switch :
    let s : State := { up with
      clock := { up.clock with span := 900 },
      board := { ctxs := [(5, { state := 2, desc := BitVec.ofNat 1024 (put 0x0C070016 287 256 + put 900 255 192) })] },
      tallies := { up.tallies with sets := [(5, { ctx := 5, opTag := 0x0C070015, startSpan := 400, valid := true })] } }
    let t := s.switchSet 5
    (fld (t.currentRecord 5 0) 113 82, bit (t.currentRecord 5 0) 38, fld (t.currentRecord 5 0) 255 192,
     fld (t.currentRecord 5 1) 113 82, bit (t.currentRecord 5 1) 38) = (0x0C070015, true, 400, 0x0C070016, false) := by
  decide +kernel

/-- Five clocks with TMS high reach Test-Logic-Reset from every state of the controller. -/
theorem test_tap_reset : ∀ n < 16, tapNext (tapNext (tapNext (tapNext (tapNext n true) true) true) true) true = 15 := by decide

/-- No word spells a command, so that the queue stays as it is. -/
theorem test_no_words : decodeTableWord 8 0 = none ∧ (up.withFetchWord 8 0).pending = up.pending := by decide

end Sys2Proof.Tests
end

section
/-! PROOFS. Writes that an object's own rule refuses, and the lock-step rule of B110:01 (00 R8, 12 R378, 16 R494). -/

namespace Sys2Proof.Machine

open Sys2Proof

/-! ### Writes whose rule leaves the state as it was -/

section
variable {s : State} {r : Route} {i j : Nat} {v : Bytes} {e : Effect}

/-- A write leaves the state as it was before it, or as the object's own rule leaves it (R401, R422). -/
theorem writeCore_state (s : State) (r : Route) (i j : Nat) (v : Bytes) (e : Effect) :
    (s.writeCore r i j v e).1 = s ∨ (s.writeCore r i j v e).1 = (e r v s).1 := by
  simp only [State.writeCore]
  split
  · exact .inl rfl
  split
  · exact .inl rfl
  split
  · split
    · exact .inl rfl
    · exact .inr rfl
  · exact .inr rfl

/-- A write whose rule leaves the state as it was is at most counted, traced and answered. -/
theorem rowWrite_frame_of_unchanged (h : (e r v s).1 = s) :
    { s.rowWrite r i j v e with tallies := s.tallies, out := s.out } = s := by
  have hcore : (s.writeCore r i j v e).1 = s := (writeCore_state s r i j v e).elim id fun h' => h'.trans h
  simp only [State.rowWrite, State.writeWith, hcore]
  split
  · rfl
  · rw [State.wrote_frame]; rfl

theorem rowWrite_reg_of_unchanged (h : (e r v s).1 = s) (idx sub : Nat) :
    (s.rowWrite r i j v e).reg idx sub = s.reg idx sub :=
  (congrArg (State.reg · idx sub) (rowWrite_frame_of_unchanged h (i := i) (j := j)) :)

theorem rowWrite_boot_of_unchanged (h : (e r v s).1 = s) : (s.rowWrite r i j v e).boot = s.boot :=
  (congrArg State.boot (rowWrite_frame_of_unchanged h (i := i) (j := j)) :)

theorem rowWrite_clock_of_unchanged (h : (e r v s).1 = s) : (s.rowWrite r i j v e).clock = s.clock :=
  (congrArg State.clock (rowWrite_frame_of_unchanged h (i := i) (j := j)) :)

/-- A write that passes the checks and that its rule refuses is answered with the rule's status and changes nothing. -/
theorem served_of_refused {st : Nat} (hpass : s.passes r i j v = true) (h : e r v s = refuse s st) :
    Served s (s.rowWrite r i j v e) r i j st := by
  have hout := rowWrite_out (e := e) hpass
  rw [h] at hout
  exact ⟨hout, rowWrite_frame_of_unchanged (congrArg Prod.fst h)⟩

end

/-! ### What follows a write of the dictionary -/

/-- A running counter leaves deferred changes to its boundaries (R31). -/
theorem State.applyNow_of_running {s : State} (h : s.clock.running = true) : s.applyNow = s := if_pos h

/-- No start begins that no write has asked for (R565). -/
theorem State.startIfDue_of_none {s : State} (h : s.boot.startDue = none) : s.startIfDue = s := by
  simp only [State.startIfDue, h]

/-- Under a running counter and with no start asked for, a write of the dictionary whose rule leaves the state as it was is the
write of that rule alone. -/
theorem execDictionaryWrite_of_unchanged {s : State} {r : Route} {idx : BitVec 16} {sub : BitVec 8} {v : Bytes}
    (hrun : s.clock.running = true) (hdue : s.boot.startDue = none)
    (h : (effectOf idx.toNat sub.toNat r v s).1 = s) :
    execDictionaryWrite r idx sub v s = .next (s.rowWrite r idx.toNat sub.toNat v (effectOf idx.toNat sub.toNat)) := by
  rw [execDictionaryWrite, State.applyNow_of_running (by rw [rowWrite_clock_of_unchanged h, hrun]),
    State.startIfDue_of_none (by rw [rowWrite_boot_of_unchanged h, hdue])]

/-! ### Lock-step (R8, R494) -/

/-- The model's arm for the row of CONTEXTS (R494). -/
theorem exec_lockstep (r : Route) (v : Bytes) (s : State) :
    exec (.lockstep r v) s = .next (s.rowWrite r 0xB110 1 v lockstepEffect) := rfl

/-- The model's arm for a write of the dictionary. -/
theorem exec_dictionaryWrite (r : Route) (idx : BitVec 16) (sub : BitVec 8) (v : Bytes) (s : State) :
    exec (.dictionaryWrite r idx sub v) s = execDictionaryWrite r idx sub v s := rfl

/-- As a write of the dictionary too, CONTEXTS has the rule of its own row. -/
theorem effectOf_contexts : effectOf 0xB110 1 = lockstepEffect := rfl

/-- Where either switch does not report lock-step, the rule of CONTEXTS refuses (R8). -/
theorem lockstepEffect_of_absent {s : State} (r : Route) (v : Bytes)
    (h : s.reg 0x1020 5 ≠ 1 ∨ s.pair.partner = 0x3FFF ∨ Config.lockstepCapable s.pair.partner = false) :
    lockstepEffect r v s = refuse s St.featureAbsent := by
  have h' : s.reg 0x1020 5 ≠ 1 ∨ s.pair.partner = 0x3FFF ∨ (!Config.lockstepCapable s.pair.partner) = true := by
    simpa only [Bool.not_eq_true'] using h
  exact if_pos h'

/-- Settles O56: without both switches the rule of CONTEXTS refuses with the state as it was, by its own row and as a write of
the dictionary alike. -/
theorem lockStepNeedsBothSwitches : Obligations.LockStepNeedsBothSwitches := by
  unfold Obligations.LockStepNeedsBothSwitches
  refine ⟨fun s r v hpass habs => ?_, fun s t r v habs hexec => ?_, fun s t r v hrun hdue habs hexec => ?_⟩
  case refine_1 =>
    exact ⟨_, exec_lockstep r v s, served_of_refused hpass (lockstepEffect_of_absent r v habs)⟩
  case refine_2 =>
    have hkeep : (lockstepEffect r v s).1 = s := congrArg Prod.fst (lockstepEffect_of_absent r v habs)
    rw [exec_lockstep] at hexec
    cases hexec
    exact rowWrite_reg_of_unchanged hkeep 0xB110 1
  case refine_3 =>
    have hkeep : (effectOf 0xB110 1 r v s).1 = s := by
      rw [effectOf_contexts, lockstepEffect_of_absent r v habs]; rfl
    rw [exec_dictionaryWrite, execDictionaryWrite_of_unchanged (idx := 0xB110) (sub := 1) hrun hdue hkeep] at hexec
    cases hexec
    exact rowWrite_reg_of_unchanged hkeep 0xB110 1

end Sys2Proof.Machine
end
